-- ==== Sys2Proof/Word.lean ====
section
/-! DEFINITION. The word types of the PS-8128 and their plainest arithmetic: bytes, 32-bit words, byte strings, most
significant byte first (R19, R20). -/

namespace Sys2Proof

/-- A byte. -/
abbrev Byte := BitVec 8

/-- A register or parameter word (R20). -/
abbrev Word := BitVec 32

/-- A sleeve, S0 the custodian (Table 0-6). -/
abbrev Sleeve := Fin 8

/-- A thread: T0 to T11 are M-threads, T12 to T15 A-threads (Table 0-6). -/
abbrev Thread := Fin 16

/-- A select, numbered as Table 11-6: 0 to 3 A.CS0 to A.CS3, 4 to 7 B.CS0 to B.CS3, 8 and 9 M.CS0 and M.CS1. -/
abbrev Sel := Fin 10

/-- The four bytes of a word, most significant first (R19). -/
def wordBytes (w : Word) : List Byte :=
  [w.extractLsb' 24 8, w.extractLsb' 16 8, w.extractLsb' 8 8, w.extractLsb' 0 8]

/-- A byte string as a number, most significant byte first (R19). -/
def bytesNat (bs : List Byte) : Nat := bs.foldl (fun n b => n * 256 + b.toNat) 0

/-- The low `n` bytes of a number, most significant first (R19). -/
def natBytes : Nat → Nat → List Byte
  | 0, _ => []
  | n + 1, v => natBytes n (v / 256) ++ [BitVec.ofNat 8 v]

/-- Whole words of a byte string; a last partial word is dropped. -/
def bytesWords : List Byte → List Word
  | a :: b :: c :: d :: r => BitVec.ofNat 32 (bytesNat [a, b, c, d]) :: bytesWords r
  | _ => []

/-- The bytes of a list of words. -/
def wordsBytes (ws : List Word) : List Byte := ws.flatMap wordBytes

/-- A bit field of a word, as a number. -/
def field (w : Word) (lo len : Nat) : Nat := (w.toNat / 2 ^ lo) % 2 ^ len

/-- A value placed at a bit position of a word. -/
def place (v lo : Nat) : Nat := v * 2 ^ lo

/-- 1 for true. -/
def bit (b : Bool) : Nat := if b then 1 else 0

end Sys2Proof
end

