-- ==== Sys2Proof/Syntax.lean ====
section
/-! DEFINITION. The commands of the block: one constructor of `Instr` per row of spec/opcode_table.json, with its operands.
An operand is what the outside supplies: the select, the bytes of a frame, a pin's level, a measured quantity, or which of
several waiting requests an element grants (R54). -/

namespace Sys2Proof

/-- The comparator's pair as it comes out of a comparison (Table 15-5): true to the operands, or a glitch. -/
inductive CmpOut where
  | clean | bothZero | bothOne
  deriving DecidableEq, Repr

/-- Tailor takes the packet at the head of a sleeve's command queue (R282, R287). `core` is the service core whose
comparator checks a MAC and `cmp` its pair (R296). -/
structure Take where
  sl   : Sleeve
  cmp  : CmpOut
  core : Fin 2
  deriving DecidableEq, Repr

/-- Hardware updates requested inside the commit window of a write frame (R63), by the index of the word in the frame. -/
inductive HwUpdate where
  /-- hardware sets these HS bits of the word (Table 2-3) -/
  | setBits (index : Nat) (mask : Word)
  /-- hardware increments the CT counter whose low bit is `lsb` by `amount`, `times` times (Table 2-4) -/
  | count (index : Nat) (lsb : Nat) (times : Nat) (amount : Nat)
  /-- hardware moves the ST field of the word to this value (R69) -/
  | mirror (index : Nat) (value : Nat)
  deriving DecidableEq, Repr

/-- How a host ends a module-driven data phase. -/
inductive Shift where
  /-- every byte and the trailer shifted out -/
  | full
  /-- the select was released after this many bytes (R72, R416) -/
  | cut (bytes : Nat)
  /-- the host clocked against a low RDY: the words at these positions were not held (R409) -/
  | underrun (words : List Nat)
  deriving DecidableEq, Repr

/-- A READ_REG frame: select, starting word, number of words, how it ends, and the bits of PWR_WAKEWHY that hardware sets
while the word is read (R13). -/
structure ReadFrame where
  sel    : Sel
  word   : Fin 32
  count  : Nat
  shift  : Shift
  during : BitVec 5
  deriving DecidableEq, Repr

/-- What a lane shows in an inbound data phase (R376), in 1/64 UI: how far its eye lies from the trained centre, and where its
data transitions fall. -/
structure LaneSeen where
  lane  : Fin 8
  drift : Int
  edges : List (Fin 64)
  deriving DecidableEq, Repr

/-- A host-driven frame's framing: the word received where the CRC stands (R390), whether the select was released before the last
CRC bit (R399), and what the lanes showed. -/
structure FrameIn where
  sel     : Sel
  crc     : Word
  aborted : Bool
  lanes   : List LaneSeen
  deriving DecidableEq, Repr

/-- The head of a PUSH_CMD frame after the kind: the low five bits of the command byte, which the frame does not use but its CRC
covers (R390), and the count byte (R388). -/
structure PushHead where
  low   : Fin 32
  count : Byte
  deriving DecidableEq, Repr

/-- How a pop ends, and the pops that begin and end on other selects while it holds its claim (R405). -/
structure PopIn where
  shift  : Shift
  others : List (Sel × Shift)
  deriving DecidableEq, Repr

/-- A STATUS frame. -/
structure StatusFrame where
  sel   : Sel
  shift : Shift
  deriving DecidableEq, Repr

/-- A mismatch of an AES core; `reader`: a STREAM_READ on this select has claimed its stream's head record (R209, R416). -/
structure Mismatch where
  core   : Fin 4
  reader : Option (Sel × Shift)
  deriving DecidableEq, Repr

/-- A mastering port's pads at the claim point: whether a slave select is low (R425), and logical lane 0 at the rising edges of
periods 32 to 63 of a probe, period 32 in bit 0 (R437). -/
structure BusSeen where
  slaveLow : Bool
  lane0    : BitVec 32
  deriving DecidableEq, Repr

/-- A unit that held a command's request without acknowledging (R308, 2.1.1): an AES core, or a service core. -/
inductive Holder where
  | aes (k : Fin 4)
  | service (k : Fin 2)
  deriving DecidableEq, Repr

/-- A port with selects. -/
inductive Port where
  | A | B | M
  deriving DecidableEq, Repr

/-- What the Belt loop reads in one 20 us period (R103): VIN and HOLD, input power over 1 ms, whether a core was idle for
more than 40 % of it, and whether work waited through it. -/
structure BeltIn where
  vinMv    : Nat
  hold10mV : Nat
  pinMw    : Nat
  /-- input power the charger at 25 mA and at 5 mA would draw (R89) -/
  chg25Mw  : Nat
  chg5Mw   : Nat
  /-- input power that VCORE one step of 10 mV higher would draw -/
  upMw     : Nat
  /-- the speed index times 100 that VCORE one step lower would give (R102) -/
  downSpeed : Nat
  /-- the measured speed index times 100 (PWR_STAT.SPEED) -/
  speed    : Nat
  /-- for the whole period a core had a waiting tag, or a seed request waited on a reservoir below half (rule 4) -/
  demand   : Bool
  /-- every in-service core was idle for more than 40 % of the period (rule 5) -/
  idle     : Bool
  deriving DecidableEq, Repr

/-- A damaged part of one MRAM copy found at restore: record, location 0 or 1, and which tag or marker fails (R490). -/
inductive CopyPart where
  | header | body | marker
  deriving DecidableEq, Repr

/-- The record classes of the lining (Table 16-1), one constructor per record family. -/
inductive RecId where
  | inst (s : Sleeve) (i : Fin 4)
  | slot (k : Fin 32)
  | cmdKey (s : Sleeve)
  | logKey
  | secretsEpoch
  | wrapEpoch (s : Sleeve)
  | bootEpoch
  | route
  | quotas
  | credit
  | power
  | door
  | patch
  | poolHem
  | threads
  | aesCores
  | shaCores
  | banks (b : Fin 16)
  | lanes
  | ports
  | slots
  | instances
  | sleeves
  | logRows
  deriving DecidableEq, Repr

/-- Damage of one copy. -/
structure Damage where
  record : RecId
  loc  : Fin 2
  part : CopyPart
  deriving DecidableEq, Repr

/-- What reads a pocket when an uncorrectable error is found in it (R253). -/
inductive PocketReader where
  /-- nothing outside: the data path itself -/
  | inside
  /-- a POP_REPLY frame on this select -/
  | pop (sel : Sel) (shift : Shift)
  /-- a STREAM_READ on this select -/
  | stream (sel : Sel) (shift : Shift)
  /-- the owner check of the read failed instead (8.1.1): the pocket is not torn -/
  | ownerPop (sel : Sel) (shift : Shift)
  | ownerStream (sel : Sel) (shift : Shift)
  deriving DecidableEq, Repr

/-- What the checks of a BIST run give (R505, R509, R510): the zero check, the MISR signature of the logic part, the second
part. -/
structure BistParts where
  zeroOk  : Bool
  secondOk : Bool
  /-- the logic budget ran out before the last pattern, or no pass of the second part completed (R508, R510) -/
  overrun : Bool
  misr    : Word
  /-- lanes of the port module-wide, or pockets, that the second part finds failing (R517) -/
  failing : List Nat
  deriving DecidableEq, Repr

/-- One row of spec/opcode_table.json each. -/
inductive Instr where
  -- SCP opcodes: Tailor takes the head packet of the sleeve's command queue
  | ping (t : Take)
  | identify (t : Take)
  | getStatus (t : Take)
  | setRoute (t : Take)
  | setQuota (t : Take)
  | resetSleeve (t : Take)
  | instantiate (t : Take)
  | uninstantiate (t : Take)
  | reseed (t : Take)
  | generate (t : Take)
  | generatePr (t : Take)
  | getSeed (t : Take)
  | setPriority (t : Take)
  | patternWrite (t : Take)
  | patternCommit (t : Take)
  | patternRead (t : Take)
  | streamStart (t : Take)
  | streamStop (t : Take)
  | digestBegin (t : Take)
  | digestUpdate (t : Take)
  | digestFinal (t : Take)
  | digestSave (t : Take)
  | digestRestore (t : Take)
  | digestCompare (t : Take)
  | keyLoad (t : Take)
  | keyErase (t : Take)
  | keyInfo (t : Take)
  | sleeveKeyUpdate (t : Take)
  | threadStatus (t : Take)
  | threadQuarantine (t : Take)
  | threadReadmit (t : Take)
  | setCredit (t : Take)
  | rawCapture (t : Take)
  | bistRun (t : Take)
  | bistRunReadmit (t : Take)
  | bistResult (t : Take)
  | setPowerPolicy (t : Take)
  | fold (t : Take)
  | resume (t : Take)
  | getPower (t : Take)
  | logRead (t : Take)
  | logReadLr (t : Take)
  | logMark (t : Take)
  | logVerify (t : Take)
  | pushScheduleRearm (t : Take)
  | pushScheduleReepoch (t : Take)
  | pushScheduleSuspend (t : Take)
  | pushStatus (t : Take)
  | laneConfig (t : Take)
  | linkTrain (t : Take)
  /-- `f0` and `f1` are the bytes that flash F0 and F1 answer for the image (R358) -/
  | patchLoad (t : Take) (f0 f1 : List Byte)
  -- frames
  | writeReg (f : FrameIn) (word : Fin 32) (data : List Word) (hw : List HwUpdate)
  /-- `low`: bits [4:0] of the command byte, which the kind ignores (R387); `count` is the count byte: words less 1 (R388) -/
  | pushCmd (f : FrameIn) (head : PushHead) (packet : List Byte)
  | popReply (sel : Sel) (pop : PopIn)
  /-- one `Shift` per record that the host clocks (R411, R417); after a record with LEN 0, zero bytes: as many as `cut` says, or a
  word for each position of `underrun`, or one word -/
  | streamRead (sel : Sel) (stream : Fin 4) (records : List Shift)
  | status (f : StatusFrame)
  /-- the 1024 bits that each physical lane receives at each of 32 phases, bit k in UI k (R373; port M: the first phase), and
  whether the inbound phase completed (12.4.3) -/
  | train (sel : Sel) (seen : List (List (BitVec 1024))) (completed : Bool)
  | reservedFrame (sel : Sel)
  | pwrWakewhyRead (f : ReadFrame)
  | tlyNowlRead (f : ReadFrame)
  | gblRstWrite (sel : Sel) (v : Word)
  | keyDoorActWrite (sel : Sel) (v : Word)
  /-- `dec`: the minute decrement meets the write (R69, R496) -/
  | keyDoorMaintWrite (sel : Sel) (v : Word) (dec : Bool)
  | maintMinute
  /-- `alarm`: a new alarm meets the write (R532) -/
  | gblFaultAlarmAck (sel : Sel) (v : Word) (alarm : Bool)
  /-- `again`: a new event meets the write (R433) -/
  | mmfClear (sel : Sel) (v : Word) (again : BitVec 2)
  | tlyCfgNorefWrite (sel : Sel) (v : Word)
  -- power, reset, start-up
  /-- `dnc`: a DNC pad is high (22.2.1) -/
  | vinStartQualified (vinMv : Nat) (dnc : Bool)
  | regulatorsUp (ioSelOpen : Bool) (hold10mV : Nat)
  | liningRestore (wrapKatOk : Bool) (doorHigh : Bool) (damage : List Damage)
  | avalancheRailUp (rail10mV : Nat)
  | railStartupTimeout (rail10mV : Nat)
  | junctionConditioningDone
  | patchRecheck (core : Fin 2) (f0 f1 : List Byte)
  | readyRise
  | bootEpochCommit
  | brownout (vinMv : Nat)
  | overvoltageDisconnect (vinMv : Nat)
  | vinHigh (vinMv : Nat)
  | vinDip (vinMv : Nat)
  | rideExpiry (vinMv : Nat)
  | resetAssert
  | resetRelease
  | doorAlarm
  | zeroization
  | doorClosed
  | wakePin
  | wakeTimer
  | thermalWake
  | wakeReady
  | foldEntry
  /-- the edges of REFCLK in two windows of 1 ms (R591) -/
  | refclkFound (windows : Nat × Nat)
  /-- the detector finds one of the conditions of R592 -/
  | refclkLost
  | oscMeasure (err : BitVec 16)
  | bistReq (v : Word)
  | bistStatCapture
  -- timers and the supply loop
  /-- the command that Tailor took as number `id` (R307); `unit` the unit that held its request without acknowledging -/
  | commandTimeout (id : Nat) (held : Option Holder)
  | beltPeriod (b : BeltIn)
  /-- die temperature in degrees C plus 64 (Table 3-7) -/
  | dieTempSample (dieT : Nat)
  | holdMeasureDue
  /-- the capacitance measured, and whether HOLD is still below 2.0 V after 100 ms (R91) -/
  | holdMeasureDone (capUf : Nat) (short : Bool)
  /-- the row carries nothing: the period's samples are counted in the state -/
  | floorRatioUpdate (nothing : Unit)
  | floorRestored
  -- threads
  /-- bit 0 of the code is the raw bit (R116); an A-thread's comparator output is bit 0; while a full start-up test injects its
  conditions it is a trial's result (Table 5-1) -/
  | threadSample (t : Thread) (code : BitVec 4)
  | aptWindowClose (t : Thread)
  | driftWindowEnd (t : Thread)
  | estimateBlockEnd (t : Thread)
  | servoBlockEnd (t : Thread)
  | threadStall (t : Thread)
  | threadRetestEnd (t : Thread)
  /-- the row carries nothing beside the thread: the verdict is held in the state -/
  | startupTestEnd (t : Thread) (nothing : Unit)
  | aRailHold (rail10mV : Nat)
  | aRailOk (rail10mV : Nat)
  | captureEnd
  -- Yoke and the reservoir
  | yokeTakeByte
  | blockToCore
  | conditioningDone (k : Fin 4)
  | stagingTimeout (k : Fin 4)
  | condKatEnd (k : Fin 4) (pass : Bool)
  /-- the element grants the waiting drawer at this place of its round (R197, R54) -/
  | reservoirGrant (drawer : Nat)
  -- fabric
  | pocketGrant (core : Fin 4)
  /-- `counter`: the Update runs on the counter lane (R208) -/
  | updateLaneGrant (core : Fin 4) (counter : Bool)
  | aesMismatch (m : Mismatch)
  | aesRetestEnd (core : Fin 4) (pass : Bool)
  /-- `copyOk`: a journal copy of the instance passes its digest (R219) -/
  | instLiningFault (s : Sleeve) (i : Fin 4) (copyOk : Bool)
  | bookingAllowed (op : Nat)
  -- pockets
  | pocketClaim (claim : Nat)
  | pocketFree (p : Fin 4096)
  | pocketTorn (p : Fin 4096) (r : PocketReader)
  /-- corrected errors of one bank reported at once (R255) -/
  | bankEccStorm (b : Fin 16) (errors : Nat)
  | bankScrub (b : Fin 16) (pass : Bool)
  | bankDrainTimeout (b : Fin 16)
  | queueRemoval (s : Sleeve)
  | streamSealDone (s : Sleeve) (n : Fin 4)
  -- ports and push
  /-- `fail`: a further charge to the lane, at this lane of the port (R377) -/
  | crcBurst (p : Port) (lane : Fin 8)
  | pushWindowStart (s : Sleeve) (e : Fin 4)
  | pushProbe (s : Sleeve) (e : Fin 4) (bus : BusSeen)
  | masterTransfer (p : Port) (bus : BusSeen)
  | pushSpanEnd (s : Sleeve) (e : Fin 4)
  /-- with the port, whether the entry at the head of its queue is being driven (R431, R432) -/
  | multiMaster (m : Port × Bool)
  /-- the 64 bytes that F0 and F1 answer for the line at an internal address (R449) -/
  | xipFetch (addr : Word) (f0 f1 : List Byte)
  -- lining
  | journalCommitGrant (waiting : Nat)
  | journalCommitMarker
  | journalReadbackFail
  | pendingRetry
  | liningCheckFail (r : RecId)
  -- service cores
  | svcKat (engine : Fin 16) (pass : Bool)
  | svcCoreFault (core : Fin 2)
  | svcRetestEnd (core : Fin 2) (pass : Bool)
  | slotLiningFault (k : Fin 32) (copyOk : Bool)
  | serviceBusError (engine : Option (Fin 16))
  | serviceCleared
  -- BIST
  | bistSliceStart
  | bistDrainDone (slice : Fin 32)
  | bistRunEnd (slice : Fin 32) (parts : BistParts)
  | bistQueueTimeout
  | bistOvertempAbandon (slice : Fin 32)
  -- containment and the log
  /-- an event of this code and data reaches the handler (R533); the source as in Table 18-3 -/
  | faultEvent (code : BitVec 16) (source : Fin 16) (data : List Byte)
  | errorsLostSweep
  /-- how many physical rows fail their read-back in turn (R547) -/
  | logWrite (rowFails : Nat)
  | sleeveFault (s : Sleeve)
  | sleeveRetestEnd (s : Sleeve) (pass : Bool)
  | serviceEngineGrant (engine : Fin 16)
  | resultWindowRead (f : ReadFrame)
  | holdCharged
  | vinHighEnd
  | testLogicReset
  | updateIr (code : BitVec 5)
  deriving DecidableEq, Repr

end Sys2Proof
end

