-- ==== Sys2Proof/Config.lean ====
section
/-! DEFINITION. What one implementation fixes and the spec does not give as a value: fused keys, the serial number, ROM
signatures, and free values. None has a body, so no proof can rest on a value of it (DESIGN CHOICE, assumption log 3, 4). -/

namespace Sys2Proof.Config

/-- The transport key of each sleeve: HMAC under the fused device key of a label, the serial number and the sleeve
(Table 16-2, R492). -/
opaque transportKey : Sleeve → BitVec 256

/-- The key of the Selvedge log, written at manufacture (Table 16-1, R545). -/
opaque logKey : BitVec 256

/-- The fused patch key (R358). -/
opaque patchKey : BitVec 256

/-- The line key derived at each verification from the device key and the boot epoch (R448). -/
opaque lineKey : Word → BitVec 256

/-- The module serial number (Table 11-4). -/
opaque serial : BitVec 64

/-- The expected MISR signature of a slice for a LOGIC budget of n half milliseconds (R509). -/
opaque misrExpected : Nat → Nat → Word

/-- The value the module gives where the spec states none, one per use (DESIGN CHOICE, assumption log 4). -/
opaque freeWord : Nat → Word

/-- The bits of the log entry written at manufacture that the spec does not give (R544; DESIGN CHOICE, assumption log 12). -/
opaque factoryLog : BitVec 208

/-- Microseconds from VIN through 4.3 V to the start of Tally (Table 19-1 gives bounds only; DESIGN CHOICE, assumption log 13). -/
opaque startUs : Nat

/-- Bytes that a thread's release buffer holds (R187 gives no size; DESIGN CHOICE, assumption log 10). -/
opaque releaseBytes : Nat

end Sys2Proof.Config
end

