-- ==== Sys2Proof/Machine/State.lean ====
section
/-! DEFINITION. The state of the PS-8128: every register, queue, buffer, counter, mode and pin the spec gives the module, as
plain data, with the queue of waiting commands. `State.reset` is the module as shipped, before VIN. -/

namespace Sys2Proof.Machine

/-- The three states of every fenceable unit (R167). -/
inductive UnitState where
  | inService | quarantined | retired
  deriving DecidableEq, Repr

/-- A fenceable unit: its state, readmissions used (R170), the Tally times of its last two faults (R163), whether its
re-test runs, whether the fault handler has still to act on its fault (R534), and whether it is out of service for a BIST
run (R502). -/
structure Health where
  st       : UnitState
  used     : Nat
  faults   : List Nat
  retest   : Bool
  unhandled : Bool
  /-- a further fault met the unit's recovery (R528) -/
  again    : Bool
  bist     : Bool
  deriving DecidableEq, Repr

def Health.fresh : Health := ⟨.inService, 0, [], false, false, false, false⟩

/-- A unit that a fault can name (Table 5-4). -/
inductive UnitRef where
  | thread (t : Thread)
  | aes (k : Fin 4)
  | sha (k : Fin 6)
  | bank (b : Fin 16)
  | lane (n : Fin 20)
  | port (p : Fin 3)
  | slot (k : Fin 32)
  | inst (s : Sleeve) (i : Fin 4)
  | sleeve (s : Sleeve)
  deriving DecidableEq, Repr

/-- The module's states (R31), with the steps of power-up that commands can observe (Table 19-1) and the factory test of
22.2.1. Degraded serving is serving with a unit out of service. -/
inductive Phase where
  | off
  /-- input switch closed, regulators coming up (step 2) -/
  | starting
  /-- regulators up, lining not yet restored (step 3) -/
  | regulated
  /-- RESET# or a software reset asserted (R564) -/
  | inReset
  /-- lining restored, power-up BIST and start-up tests (steps 4 to 9) -/
  | startup
  | serving
  /-- FOLD answered or about to be; ports A and B still driven (R349, R568) -/
  | folding
  | fold
  /-- the wake transition (R572) -/
  | waking
  /-- wrap-unit known-answer failure at restore (R490) -/
  | halted
  | factoryTest
  deriving DecidableEq, Repr

/-- Which test a thread runs (R147). -/
inductive TestKind where
  | none
  /-- the known-delay check and then the 1024-sample test -/
  | full
  /-- the 1024-sample test alone -/
  | short
  deriving DecidableEq, Repr

/-- One thread: its unit state, holds, tests and buffers (chapters 4 to 6). -/
structure ThreadSt where
  health   : Health
  /-- held in quarantine by the custodian (THR_HELD) -/
  custHold : Bool
  /-- held by the rail, by ride-through, by fold (THR_RUN.HELD, R126, R99, R145) -/
  railHold : Bool
  rideHold : Bool
  foldOff  : Bool
  /-- credited bits may flow: start-up test or re-test passed -/
  passed   : Bool
  test     : TestKind
  testPos  : Nat
  testBad  : Bool
  /-- trials done of the known-delay check, those of the present condition that met it (Table 5-1), and the Tally time before
  which a reapplied junction bias has not settled -/
  checkPos : Nat
  checkHits : Nat
  settleAt : Nat
  /-- its full start-up test of this power-up has not begun (R147) -/
  fullDue  : Bool
  /-- it failed its full start-up test and gets its one 1024-sample re-test, whatever its earlier trips (R150) -/
  secondTry : Bool
  /-- a readmission of R169 runs the test in `test` -/
  readmit  : Bool
  -- repetition count (R154)
  rctLast  : Bool
  rctCount : Nat
  -- adaptive proportion window (R155), with the samples it holds back (R152), newest first
  aptRef   : Bool
  aptCount : Nat
  aptPos   : Nat
  heldBack : List Bool
  -- drift window (R156)
  driftPos : Nat
  driftOnes : Nat
  driftPairs : Nat
  driftLast : Bool
  -- live estimate block (R158): ones, counts of the four pair symbols, the first half of an open pair
  estPos   : Nat
  estOnes  : Nat
  estPairs : Vector Nat 4
  estHalf  : Bool
  /-- the last four block estimates, newest first (R159) -/
  ests     : List Nat
  /-- the servo's step (R122), its block's samples and ones, and blocks in a row that ended at either end of its range -/
  servo    : Nat
  servoPos : Nat
  servoOnes : Nat
  servoEnd : Nat
  /-- bytes released to Yoke and not yet taken (R186), and bits of an unfinished byte -/
  release  : List Byte
  bits     : List Bool
  /-- event 0x5055 has been written for the present fall (R183) -/
  lowCred  : Bool
  /-- samples counted in the last whole period, the raw rate of R173 in samples per 20 us, and in the present one -/
  rate     : Nat
  count    : Nat
  /-- its capture has ended and it has not passed the re-test that follows (R136) -/
  capHold  : Bool
  deriving DecidableEq, Repr

/-- The raw capture (4.4). -/
structure Capture where
  thread   : Thread
  mode     : Nat
  active   : Bool
  done     : Bool
  /-- samples per restart and restarts -/
  samples  : Nat
  restarts : Nat
  taken    : Nat
  /-- Tally time until which a restart of mode 2 holds the thread in its power-up condition (R132) -/
  holdUntil : Nat
  trips    : Vector Nat 3
  pace     : Nat
  servoSteps : Nat
  seq      : Nat
  /-- bytes written so far, and the partial byte, first sample first (R143) -/
  bytes    : List Byte
  part     : List Bool
  /-- pockets allocated and not yet returned (R134) -/
  pockets  : List Nat
  /-- capture bytes already read, and records read (R419) -/
  readPos  : Nat
  records  : Nat
  /-- earlier captures not yet read out: bytes left, their pockets, and the number of the next record -/
  older    : List (List Byte × List Nat × Nat)
  started  : Bool
  wasOut   : Bool
  deriving DecidableEq, Repr

/-- A conditioning core's work (R190 to R192); its unit state is with the SHA cores. -/
structure CondCore where
  /-- the closed block it hashes -/
  block  : Option (List Byte)
  /-- staged output blocks, oldest first, and the Tally time the oldest was staged -/
  staged : List (BitVec 512)
  since  : Nat
  /-- its known-answer test runs -/
  kat    : Bool
  deriving DecidableEq, Repr

/-- Yoke and the reservoir (chapter 6). -/
structure Yoke where
  /-- thread that gave the last byte (R186) -/
  lastThread : Thread
  /-- the open block: bytes in order, credit in milli-bits, mask of threads; none when no block may open -/
  openBytes : List Byte
  openCredit : Nat
  openMask  : BitVec 16
  blockCount : Nat
  /-- closed blocks waiting for a core -/
  waiting   : List (List Byte)
  cores     : Vector CondCore 4
  /-- cores from idle longest to idle shortest (R190); at power-up SHA0 first (DESIGN CHOICE,
  assumption log 73) -/
  idleOrder : List (Fin 4)
  /-- reservoir units, oldest first (R194) -/
  reservoir : List (BitVec 128)
  /-- an empty episode runs (R199) -/
  short     : Bool
  /-- conditioning paused by Belt gating (R104) -/
  paused    : Bool
  blkCount  : Nat
  drawCount : Nat
  discCount : Nat
  evt       : BitVec 4
  /-- credit factors in permille, 0 none (L) -/
  factors   : Vector Nat 16
  deriving DecidableEq, Repr

/-- The states of Table 7-3 are read from these fields. -/
structure Inst where
  health   : Health
  owned    : Bool
  key      : BitVec 256
  v        : BitVec 128
  counter  : Nat
  reseedReq : Bool
  prio     : Nat
  /-- generate requests below the floor (R177) and whether 0x5042 was written -/
  belowCount : Nat
  belowSaid  : Bool
  /-- a journal copy passed its digest when the state last failed its own: the reload can succeed (R219) -/
  copyOk   : Bool
  deriving DecidableEq, Repr

/-- What an operation does (R223). -/
inductive OpKind where
  | instantiate | reseed | generate | generatePr | getSeed | uninstantiate
  | stream (n : Fin 4)
  deriving DecidableEq, Repr

/-- Where an operation stands. -/
inductive OpPhase where
  /-- admitted, behind others or not yet examined -/
  | queued
  /-- its reseed draw waits on the reservoir (R199) -/
  | draw
  /-- its reseed or instantiate Update waits for a lane (R208) -/
  | updSeed
  /-- the Update of its additional input waits -/
  | updAddl
  /-- its booking waits (R245) -/
  | booking
  /-- it competes for counter lanes (R228) -/
  | output
  /-- its final Update waits -/
  | updFinal
  /-- its journaled commit waits or runs (R217) -/
  | commit
  deriving DecidableEq, Repr

/-- A fabric operation (R223, R227). -/
structure Op where
  id     : Nat
  sl     : Sleeve
  inst   : Fin 4
  kind   : OpKind
  /-- personalization string or additional input -/
  addl   : List Byte
  /-- additional input as the generate step still uses it: none after a reseed took it (R212) -/
  addlNow : Option (List Byte)
  nbytes : Nat
  urgent : Bool
  pr     : Bool
  /-- the command that asked, by its number; none for a stream request -/
  cmd    : Option Nat
  phase  : OpPhase
  /-- an Update or output has begun (R308) -/
  began  : Bool
  /-- counter-lane grants made module-wide while it competed (R230) -/
  passedOver : Nat
  /-- pockets booked and not yet claimed (R244) -/
  booked : Nat
  pockets : List Nat
  /-- bytes produced so far -/
  made   : Nat
  /-- seed drawn and not yet used -/
  seed   : List Byte
  /-- a pattern has unbound its instance: it ends with the pocket it fills (R271) -/
  leaving : Bool
  deriving DecidableEq, Repr

/-- Work on a lane of an AES core. -/
inductive LaneWork where
  | idle
  /-- the operation and the pocket being filled; pocket 4096 where it was lost meanwhile: the output is discarded -/
  | pocket (op : Nat) (p : Nat)
  | update (op : Nat)
  deriving DecidableEq, Repr

/-- An AES core (7.2). -/
structure AesCore where
  health  : Health
  counter : LaneWork
  update  : LaneWork
  /-- pocket boundaries since the last gating round (R104) -/
  boundary : Nat
  deriving DecidableEq, Repr

/-- A claim that stalled because no free bit existed (R241). -/
structure StalledClaim where
  op   : Nat
  core : Option (Fin 4)
  data : List Byte
  /-- it joined while others waited: it belongs to the next round (R56) -/
  late : Bool
  deriving DecidableEq, Repr

/-- The fabric (chapter 7). -/
structure Fabric where
  insts  : Vector (Vector Inst 4) 8
  cores  : Vector AesCore 4
  /-- operations in order of admission -/
  ops    : List Op
  nextOp : Nat
  /-- tags each sleeve holds (R223), its quota and priority ceiling as stored, 0 the default (L) -/
  held   : Vector Nat 8
  quota  : Vector Nat 8
  pmax   : Vector Nat 8
  /-- the last sleeve granted, and each sleeve's last instance granted (R228) -/
  lastSleeve : Sleeve
  lastInst   : Vector (Fin 4) 8
  short  : Bool
  mismatch : Nat
  busyRef  : Nat
  evt    : BitVec 4
  /-- reservoir drawers in their round (R197): operations, by number -/
  drawers : List Nat
  /-- drawers already granted in the present round that wait for the next -/
  drawersNext : List Nat
  /-- drawers that the present round has granted -/
  served  : List Nat
  claims : List StalledClaim
  deriving DecidableEq, Repr

/-- A claimed pocket (R236). -/
structure Pocket where
  index  : Nat
  owner  : Sleeve
  bytes  : List Byte
  filled : Bool
  deriving DecidableEq, Repr

/-- A pocket bank (R255). -/
structure Bank where
  health : Health
  /-- its free pockets are masked (step 1) -/
  masked : Bool
  /-- Tally time the drain began -/
  since  : Nat
  /-- Tally times of its corrected errors in the last second -/
  errors : List Nat
  scrub  : Bool
  deriving DecidableEq, Repr

/-- What the pool keeps for one sleeve (R242, R249). -/
structure PoolSleeve where
  /-- set reservation, 0 the default (L), and the cut of R248 -/
  res     : Nat
  /-- HEM_FLOOR, HEM_LOW and HEM_HIGH packed as SLV_HEM, 0 the defaults (L) -/
  hems    : Word
  usedCnt : Nat
  bp      : Bool
  low     : Bool
  evt     : BitVec 3
  deriving DecidableEq, Repr

/-- The pool (chapter 8). -/
structure Pool where
  /-- the bitmap of R239: 1 means free -/
  free    : BitVec 4096
  torn    : BitVec 4096
  /-- readmissions used of pockets, where not 0, rising (R254) -/
  tornUsed : List (Nat × Nat)
  claimed : List Pocket
  /-- pockets cleared and about to be freed (R240), with the sleeve whose count they fall from -/
  clearing : List (Nat × Sleeve)
  banks   : Vector Bank 16
  per     : Vector PoolSleeve 8
  /-- the multiple of 16 that R248 takes off every reservation -/
  cut     : Nat
  ghem    : Nat
  glow    : Bool
  lastTorn : Nat
  corr    : Nat
  uncorr  : Nat
  evt     : BitVec 7
  deriving DecidableEq, Repr

/-- A chain place (R256): its pocket (4097 while the claim of its grant stalls, 4096 in the mark of a dropped frame), whether it
is filled, word 0 of the pattern it was assigned under, and the operation that fills it. -/
structure Place where
  pocket : Nat
  filled : Bool
  pat0   : Word
  op     : Nat
  deriving DecidableEq, Repr

/-- The seal of a record (R475): its record number, the two states it copied at its start (none: the slot did not resolve), and the
tag once it is complete. -/
structure Seal where
  record : BitVec 64
  key    : Option (List Byte × List Byte)
  tag    : Option (List Byte)
  deriving DecidableEq, Repr

/-- A stream of a sleeve (chapters 9, 13). -/
structure Stream where
  running : Bool
  run     : Word
  record  : BitVec 64
  /-- the pattern the next places are assigned under (R270) -/
  pat0    : Word
  pat1    : Word
  /-- a committed pattern waits for the frame boundary -/
  pend    : Bool
  /-- places in grant order -/
  chain   : List Place
  /-- the seals begun for the records in the chain, oldest first (R475) -/
  seals   : List Seal
  /-- tags taken, one per INST bit -/
  tags    : BitVec 4
  /-- Tally time of the STREAM_START (R266) -/
  epoch   : Nat
  deriving DecidableEq, Repr

/-- A PUSH_SCHEDULE action that waits for the end of the window in progress (R356); a re-epoch carries its time. -/
inductive PushAct where
  | rearm
  | reepoch (at_ : Nat)
  | suspend
  deriving DecidableEq, Repr

/-- A push entry of a sleeve (14.3). -/
structure PushEntry where
  lost      : Bool
  suspended : Bool
  doublings : Nat
  /-- Tally time of the last re-epoch, 0 none (R356) -/
  epoch     : Nat
  served    : Nat
  missed    : Nat
  /-- consecutive served windows with d above 0 (R442) -/
  streak    : Nat
  lastMissed : Bool
  /-- Tally time at which the span of the last window run or skipped ends: no window begins before it (R435) -/
  after     : Nat
  acts      : List PushAct
  /-- a window is open: the entry's words it began with, its span, whether acknowledged, records delivered -/
  opened    : Bool
  words     : Vector Word 4
  spanStart : Nat
  spanEnd   : Nat
  acked     : Bool
  sent      : Nat
  nextProbe : Nat
  deriving DecidableEq, Repr

/-- An entry of a port's master transfer queue (R426). -/
structure MasterEntry where
  sl     : Sleeve
  entry  : Fin 4
  probe  : Bool
  partner : Sel
  stream : Fin 4
  deadline : Nat
  rate   : Nat
  cont   : Bool
  deriving DecidableEq, Repr

/-- A digest context (R464). Algorithms as ARG codes: 0 SHA-256, 1 SHA-384, 2 SHA-512; `hmac` names the slot. -/
structure Context where
  /-- 0 idle, 1 absorbing, 2 compare result held, 3 open result held (Table 15-4) -/
  state  : Nat
  alg    : Nat
  hmac   : Option (Fin 32)
  route  : Bool
  chain  : List Byte
  count  : Nat
  buffer : List Byte
  last   : List Byte
  result : List Byte
  /-- the command being served on it, and whether it is a FINAL -/
  cmd    : Option Nat
  final  : Bool
  /-- the inner digest, while the outer compression waits (R468 step 4) -/
  inner  : List Byte
  /-- commands taken behind the one being served, in order (R466), with their comparator operands -/
  waitq  : List (Nat × CmpOut × Fin 2)
  deriving DecidableEq, Repr

/-- A key slot (R460): 0 empty, 1 to 3 HMAC with SHA-256, -384, -512. -/
structure Slot where
  health : Health
  hash   : Nat
  owned  : Bool
  inner  : List Byte
  outer  : List Byte
  gen    : Word
  /-- a journal copy passed its digest when the state last failed its own (R462) -/
  copyOk : Bool
  deriving DecidableEq, Repr

/-- A command key (R293). `present` is false while a zeroization is pending (R498). -/
structure CmdKey where
  present   : Bool
  transport : Bool
  inner     : List Byte
  outer     : List Byte
  gen       : Word
  deriving DecidableEq, Repr

/-- A seal by its stream, run and record. -/
structure SealRef where
  sl     : Sleeve
  stream : Fin 4
  run    : Word
  record : BitVec 64
  deriving DecidableEq, Repr

/-- A service engine (R453, R456). -/
structure Engine where
  /-- compressions since its last passed known-answer compression, and the Tally time of that -/
  since  : Nat
  katAt  : Nat
  /-- the next known-answer compression is SHA-512 -/
  alt    : Bool
  /-- contexts its suspect compressions updated (R457) -/
  suspects : List (Sleeve × Fin 4)
  /-- stream seals they updated -/
  seals  : List SealRef
  deriving DecidableEq, Repr

/-- The service path (chapter 15). -/
structure Digest where
  contexts : Vector (Vector Context 4) 8
  engines  : Vector Engine 16
  /-- conditioning cores SHA0 to SHA3 and service cores SHA4, SHA5 -/
  cores    : Vector Health 6
  /-- the last sleeve served in the hashing rounds, and its last context (R455) -/
  lastSleeve : Sleeve
  lastCtx  : Vector (Fin 4) 8
  lastSeal : Nat
  katFail  : Nat
  glitch   : Nat
  clrCount : Nat
  clrLast  : Nat
  /-- a clearing runs: its causes wait for SERVICE_CLEARED (R479) -/
  clearing : Bool
  evt      : BitVec 5
  deriving DecidableEq, Repr

/-- A command that Tailor has taken and not yet answered (R307). -/
structure Cmd where
  id     : Nat
  sl     : Sleeve
  op     : Byte
  tag    : BitVec 7
  seq    : Word
  arg    : Word
  header : List Byte
  params : List Word
  sealed : Bool
  echo   : Bool
  retry  : Nat
  frozen : Bool
  /-- microseconds its timeout has stopped (R311), and the Tally time it expires -/
  frozenUs : Nat
  deadline : Nat
  /-- a commit of it has been granted the journal writer: it cannot time out (R309) -/
  granted : Bool
  /-- step 9 accepted it: its sequence number is consumed (R302) -/
  accepted : Bool
  deriving DecidableEq, Repr

/-- A reply in a reply queue (R284, R604). -/
structure Reply where
  cmd     : Nat
  status  : Byte
  tag     : BitVec 7
  seq     : Word
  retry   : Nat
  frozen  : Bool
  cached  : Bool
  gone    : Bool
  noseal  : Bool
  payload : List Byte
  /-- pockets that carry the rest of the payload, and its length -/
  pockets : List Nat
  pocketLen : Nat
  sealTag : List Byte
  deriving DecidableEq, Repr

/-- A replay-cache entry (R304). -/
structure CacheEntry where
  cmd     : Nat
  tag     : BitVec 7
  seq     : Word
  /-- none while in flight -/
  reply   : Option Reply
  deriving DecidableEq, Repr

/-- A packet in a command queue, with the retry count the Seam attached (R312). -/
structure Packet where
  bytes : List Byte
  retry : Nat
  deriving DecidableEq, Repr

/-- One sleeve's protocol state, page and stores. -/
structure SleeveSt where
  health  : Health
  cmdq    : List Packet
  /-- a taken packet's place is not yet free (R73), and pushes held for it (R74) -/
  removing : Bool
  heldPush : List (Packet × Sel)
  replies : List Reply
  seqHi   : Word
  /-- consumed numbers of the window SEQ_HI − 63 to SEQ_HI (R301) -/
  consumed : List Word
  cache   : List CacheEntry
  epoch   : Word
  tmo     : Nat
  authf   : Nat
  replay  : Nat
  tmoCnt  : Nat
  dup     : Nat
  undr    : Nat
  aflt    : Nat
  alrt    : BitVec 7
  dgtErr  : BitVec 5
  dsel    : Fin 4
  dhalf   : Bool
  /-- Tally times of the last 0x0010, 0x0011 and answered LOG_MARK (R315, R353) -/
  lastAuth : Option Nat
  lastReplay : Option Nat
  lastMark : Option Nat
  shadow  : Vector Word 32
  live    : Vector Word 32
  streams : Vector Stream 4
  pushes  : Vector PushEntry 4
  runs    : Word
  cmdKey  : CmdKey
  wrapEpoch : Word
  deriving DecidableEq, Repr

/-- A route (Table 11-6). -/
structure Route where
  sl   : Sleeve
  role : Fin 4
  deriving DecidableEq, Repr

/-- What the module last drove on a select: data words as bytes, then the trailer; empty when it drove nothing. `periods`: the
bytes of each select period of a master transfer, in order (R428); none in a slave frame. -/
structure BusOut where
  data    : List Byte
  trailer : List Byte
  periods : List Nat
  deriving DecidableEq, Repr

/-- A select (R393, R401, R403, R312). -/
structure SelSt where
  page     : Byte
  frames   : BitVec 16
  lastPush : Nat
  fails    : Nat
  lastUndr : Option Nat
  lastAflt : Option Nat
  lastTrain : Option Nat
  out      : BusOut
  deriving DecidableEq, Repr

/-- A port (chapter 12). Lanes 0 to 7 are A, 8 to 15 B, 16 to 19 M in `Ports.lanes`. -/
structure PortSt where
  health  : Health
  trained : Bool
  width   : Nat
  config  : Nat
  /-- powered: pins driven and frames possible -/
  on      : Bool
  fail    : Nat
  lastDone : Option Nat
  mmf     : Bool
  queue   : List MasterEntry
  /-- LANE_CONFIG and LINK_TRAIN commands to answer when training completes (R357) -/
  waiters : List Nat
  deriving DecidableEq, Repr

/-- A lane: its unit state, the Tally times of its charges (R377), and, in 1/64 UI, the trained centre of its window and its
sampling point (R373, R376). -/
structure Lane where
  health  : Health
  charges : List Nat
  centre  : Nat
  point   : Nat
  deriving DecidableEq, Repr

/-- A fast-read of one line on port F (R446): the flash, the line's offset, the command byte, the lanes of command, address and
data, the address bytes, and the dummy periods. -/
structure FlashRead where
  f1      : Bool
  offset  : Nat
  opcode  : Byte
  cmdW    : Nat
  addrW   : Nat
  addrB   : Nat
  dummy   : Nat
  width   : Nat
  deriving DecidableEq, Repr

/-- Patch and port F (14.4). -/
structure Xip where
  /-- the recorded patch: offset, length, version, tag (L); version 0 none -/
  recOffset : Nat
  recLen    : Nat
  recVersion : Nat
  recTag    : List Byte
  /-- the patch in force -/
  version   : Nat
  offset    : Nat
  codeLen   : Nat
  checks    : List (List Byte)
  /-- fetch buffer, most recently used first: line number and bytes -/
  buffer    : List (Nat × List Byte)
  f1only    : List Nat
  off       : Bool
  f0fail    : Nat
  fault     : Nat
  smp       : Nat
  clk       : Nat
  rdcmd     : Word
  fWidth    : Nat
  /-- the last read on port F -/
  lastRead  : Option FlashRead
  deriving DecidableEq, Repr

/-- Ports and their selects. -/
structure Ports where
  ports  : Vector PortSt 3
  lanes  : Vector Lane 20
  sels   : Vector SelSt 10
  routes : Vector Route 10
  pcfg   : Vector (BitVec 3) 8
  xip    : Xip
  deriving DecidableEq, Repr

/-- An event on its way to the log (R530, Table 18-3). -/
structure Ev where
  code : BitVec 16
  rank : Nat
  src  : Nat
  data : List Byte
  /-- Tally time it reached the handler (AGE) -/
  at_  : Nat
  /-- the LOG_MARK command that waits for it (R353) -/
  cmd  : Option Nat
  /-- events merged or units to act for are handled when the event is taken -/
  unit : Option UnitRef
  deriving DecidableEq, Repr

/-- A log entry (Table 18-3). -/
structure LogEntry where
  seq   : Word
  boot  : BitVec 16
  time  : BitVec 48
  code  : BitVec 16
  rank  : Nat
  src   : Nat
  age   : Nat
  data  : List Byte
  chain : List Byte
  deriving DecidableEq, Repr

/-- A spare row: the logical row it replaces and whether it is itself retired (Table 16-1). -/
structure Spare where
  row     : Nat
  retired : Bool
  deriving DecidableEq, Repr

/-- Containment and the Selvedge log (chapter 18). -/
structure Log where
  hand    : Option Ev
  /-- suspended events, last suspended first (R533) -/
  stack   : List Ev
  queue   : List Ev
  /-- the events that precede every other after a restore: LOG_OPEN, then POWER_UP (R542, R567) -/
  opening : List Ev
  lost    : Nat
  lostNow : Nat
  alarm   : Bool
  loss    : Bool
  fenced  : Bool
  last3   : BitVec 16
  /-- ring entries in write order, at most 8192 -/
  ring    : List LogEntry
  next    : Word
  keyOk   : Bool
  /-- spares in use, in order of use -/
  spares  : List Spare
  wfail   : Nat
  /-- last-resort register: entries with their read marks, oldest first -/
  lr      : List (LogEntry × Bool)
  overflow : Nat
  /-- the LOG_VERIFY command in progress, with FIRST and COUNT -/
  verify  : Option (Nat × Word × Nat)
  /-- LOG_MARK commands whose events were lost from the queue -/
  lostCmds : List Nat
  deriving DecidableEq, Repr

/-- What a journaled commit writes (Table 16-1). The body is held in the clear (DESIGN CHOICE, assumption log 5). -/
inductive Body where
  | empty
  | inst (owned : Bool) (key : BitVec 256) (v : BitVec 128)
  | slot (hash : Nat) (inner outer : List Byte)
  | cmdKey (inner outer : List Byte)
  | key (present : Bool)
  | number (n : Word)
  | route (rs : List Route)
  | quotas (q pmax res : List Nat) (hems : List Word)
  | credit (factors : List Nat) (floor : Nat)
  | power (w : Word)
  | door (act : Nat)
  | patch (offset len version : Nat) (tag : List Byte)
  | ghem (n : Nat)
  | units (us : List (UnitState × Nat))
  | bank (u : UnitState × Nat) (torn : List Nat) (used : List (Nat × Nat))
  | rows (spares : List Spare) (fenced : Bool)
  deriving DecidableEq, Repr

/-- One MRAM copy (Table 16-3): generation, owner flag, epochs its body was wrapped under, body, and which of its marker,
header tag and body tag verify. -/
structure Copy where
  gen     : Word
  owned   : Bool
  secrets : Word
  wrap    : Word
  body    : Body
  marker  : Bool
  headerOk : Bool
  bodyOk  : Bool
  deriving DecidableEq, Repr

/-- The pair of MRAM locations of a record and where the record in force was restored from or written to (R487), with the
consecutive read-back failures of each location (R488). -/
structure Pair where
  record : RecId
  loc0   : Option Copy
  loc1   : Option Copy
  inForce : Option (Fin 2)
  fails  : Nat
  frozen : Bool
  deriving DecidableEq, Repr

/-- Why a commit is made: what takes force at its marker. -/
inductive Why where
  | plain
  /-- INSTANTIATE or UNINSTANTIATE of an operation -/
  | instantiate (op : Nat)
  | uninstantiate (op : Nat)
  | resetSleeve (s : Sleeve)
  | keyLoad (k : Fin 32)
  | keyErase (k : Fin 32)
  | cmdKeyUpdate (s : Sleeve)
  | route
  /-- quotas, then the global pool hem when not 0 -/
  | quota (s : Sleeve) (ghem : Nat)
  | credit
  | power
  | patch (version : Nat) (fromF1 : Bool) (offset codeLen : Nat) (checks : List (List Byte))
  | boot
  | door
  /-- step 4 of R169 for a unit, with a run that waits for the slice where there is one -/
  | readmit (u : UnitRef)
  | readmitPockets (slice : Fin 4)
  /-- with the lanes that failed the run -/
  | readmitLanes (slice : Fin 2) (failed : List Nat)
  /-- a retirement or another record of the module's own -/
  | retire
  /-- the first and second journal write of an instance or slot readmission (R219) -/
  | erase0 (u : UnitRef)
  | erase1 (u : UnitRef)
  deriving DecidableEq, Repr

/-- A journaled commit that waits, or runs (R487). -/
structure Commit where
  record : RecId
  body   : Body
  owned  : Bool
  why    : Why
  cmd    : Option Nat
  deriving DecidableEq, Repr

/-- The lining (chapter 16). -/
structure Lining where
  mram    : List Pair
  secrets : Word
  boot    : Word
  bootDone : Bool
  /-- commits that commands wait for, and the commit in the writer (its check passed) -/
  waiting : List Commit
  writer  : Option Commit
  /-- the pending queue of R94, oldest first -/
  pending : List Commit
  act     : Nat
  maint   : Nat
  maintAt : Nat
  doorOpen : Bool
  armed   : Bool
  zeroPend : Bool
  badCopy : Nat
  recLost : Nat
  wrFail  : Nat
  evt     : BitVec 5
  deriving DecidableEq, Repr

/-- The supply and the Belt loop (chapter 3). -/
structure Supply where
  vinMv   : Nat
  pinMw   : Nat
  hold10mV : Nat
  cap     : Nat
  switchOn : Bool
  ride    : Bool
  rideFrom : Nat
  rideUs  : Nat
  /-- energy the ride-through may draw, in 0.01 mJ: E_avail − E_SHUT − E_left at its start (R95) -/
  rideE   : Nat
  rideOv  : Bool
  vinHigh : Bool
  ovOpen  : Bool
  /-- charge current in mA: 0 off or paused, 2 trickle, 5 or 25 -/
  charge  : Nat
  /-- a HOLD measurement runs, is due at 22.0 V, its next 24 h time, and whether HOLD_LOW and HOLD_FAULT stand -/
  measuring : Bool
  measureDue : Bool
  nextMeasure : Nat
  holdLow : Bool
  holdFault : Bool
  vcore   : Nat
  dieT    : Nat
  speed   : Nat
  policy  : Word
  /-- the policy of R112 applies until the lining is restored -/
  policyOn : Bool
  limitTh : Bool
  limitCeil : Bool
  floorUnmet : Bool
  pinOvr  : Bool
  /-- admitted share in sixteenths (R104) -/
  share   : Nat
  throttled : Bool
  tripped : Bool
  evt     : BitVec 11
  dips    : Nat
  denied  : Nat
  rail10mV : Nat
  railOk  : Bool
  /-- Tally time at which the rail was last found outside its window -/
  railOutAt : Nat
  railUp  : Bool
  paceLow : Bool
  deriving DecidableEq, Repr

/-- The entropy floor and thread totals (5.6, 5.7). -/
structure Floor where
  pct    : Nat
  below  : Bool
  ratio  : Nat
  credit : Nat
  /-- Tally time since which the ratio has held at or above the floor (R176) -/
  okSince : Option Nat
  /-- Tally time at which the present 20 us period began (R173) -/
  periodAt : Nat
  trips  : Nat
  lastThread : Nat
  lastKind : Nat
  evt    : BitVec 5
  deriving DecidableEq, Repr

/-- Kind of a BIST run (R526). -/
inductive RunKind where
  | powerUp | opened | retest | readmission
  deriving DecidableEq, Repr

/-- A BIST run that waits or runs. `drained` after step 3 (Table 17-2). -/
structure Run where
  slice  : Fin 32
  kind   : RunKind
  req    : Nat
  logic  : Nat
  analog : Nat
  cmd    : Option Nat
  since  : Nat
  drained : Bool
  deriving DecidableEq, Repr

/-- The record BIST_RESULT returns (R347). -/
structure BistResult where
  outcome : Nat
  req     : Nat
  endMs   : Nat
  misr    : Word
  expect  : Word
  deriving DecidableEq, Repr

/-- BIST and the TAP (chapter 17). -/
structure Bist where
  active  : List Run
  queue   : List Run
  retests : List Run
  readmits : List Run
  powerUp : List (Fin 32)
  /-- slices that failed their power-up run and run again at the end (R521) -/
  again   : List (Fin 32)
  results : Vector BistResult 32
  failed  : BitVec 32
  /-- end times of the last run per slice and requester (R522) -/
  lastRun : List (Nat × Nat × Nat)
  runs    : Nat
  fails   : Nat
  evt     : BitVec 4
  /-- TAP instruction register, the last BIST_REQ verdict and target, and the captured BIST_STAT -/
  ir      : BitVec 5
  verdict : Byte
  target  : Fin 32
  captured : List Byte
  deriving DecidableEq, Repr

/-- Start-up, fold and wake (chapter 19). -/
structure Power where
  phase   : Phase
  cause   : Nat
  readyMs : Nat
  /-- Tally time of step 1, release or the first wake source -/
  startAt : Nat
  /-- IO_SEL as sampled: open, so 3.3 V on port M and the sideband (R362) -/
  ioSelOpen : Bool
  /-- RESET# is low -/
  rstLow  : Bool
  conditioned : Bool
  railSkipped : Bool
  /-- step 8 of Table 19-1 has begun the start-up tests: until then every thread is off (Table 4-8) -/
  testsBegun : Bool
  patchDone : Bool
  foldCmd : Option Nat
  foldAt  : Nat
  foldReply : Bool
  wakeS   : Nat
  wakeAt  : Option Nat
  foldThread : Option Thread
  foldTherm : Bool
  wakeWhy : BitVec 5
  wakePin : Bool
  resumes : List Nat
  extest  : Bool
  deriving DecidableEq, Repr

/-- Tally (20.3). -/
structure Tally where
  now     : BitVec 64
  running : Bool
  ref     : Bool
  f25     : Bool
  present : Bool
  oscErr  : BitVec 16
  noref   : Bool
  evt     : BitVec 2
  /-- Tally time at which the acquisition of REFCLK began (R591), and at which the oscillator was last measured (R593) -/
  acqAt   : Nat
  oscAt   : Nat
  deriving DecidableEq, Repr

/-- The whole module, and the queue of commands that wait. -/
structure State where
  power   : Power
  supply  : Supply
  tally   : Tally
  threads : Vector ThreadSt 16
  capture : Capture
  floor   : Floor
  yoke    : Yoke
  fabric  : Fabric
  pool    : Pool
  sleeves : Vector SleeveSt 8
  slots   : Vector Slot 32
  digest  : Digest
  lining  : Lining
  ports   : Ports
  log     : Log
  bist    : Bist
  /-- commands taken and not answered, newest first -/
  cmds    : List Cmd
  nextCmd : Nat
  /-- sleeves whose packet Tailor has taken in the present round (R56, R282) -/
  taken   : List Sleeve
  dropw   : Nat
  /-- free values taken so far: the model's own field, no register of the module (DESIGN CHOICE, assumption log 4) -/
  freeUsed : Nat
  pending : List Instr
  deriving DecidableEq, Repr

/-- Faults of the model. The spec gives the module no step that stops it: every error is a status, a trailer code, a
quarantine or an event. -/
inductive Fault where
  /-- Raised by no command of this model. Safe: it makes no claim provable that is false of the module. -/
  | neverRaised
  deriving DecidableEq, Repr

/-- Refusals of the model. -/
inductive Refusal where
  /-- Raised by the dispatch for a row that has no meaning yet. Safe: the step stops. -/
  | notModelled (mnemonic : String)
  deriving DecidableEq, Repr

/-- The default routes of R392. -/
def defaultRoutes : Vector Route 10 :=
  #v[⟨0, 1⟩, ⟨1, 1⟩, ⟨2, 1⟩, ⟨3, 1⟩, ⟨4, 1⟩, ⟨5, 1⟩, ⟨6, 1⟩, ⟨7, 1⟩, ⟨0, 1⟩, ⟨0, 3⟩]

/-- The reset value of a select's PAGE (R393). -/
def pageReset (r : Route) : Byte := if r.role = 1 then BitVec.ofNat 8 (16 + r.sl.val) else 0

def ThreadSt.reset : ThreadSt where
  health := .fresh
  custHold := false
  railHold := false
  rideHold := false
  foldOff := false
  passed := false
  test := .none
  testPos := 0
  testBad := false
  checkPos := 0
  checkHits := 0
  settleAt := 0
  fullDue := false
  secondTry := false
  readmit := false
  rctLast := false
  rctCount := 0
  aptRef := false
  aptCount := 0
  aptPos := 0
  heldBack := []
  driftPos := 0
  driftOnes := 0
  driftPairs := 0
  driftLast := false
  estPos := 0
  estOnes := 0
  estPairs := Vector.replicate 4 0
  estHalf := false
  ests := []
  servo := 0
  servoPos := 0
  servoOnes := 0
  servoEnd := 0
  release := []
  bits := []
  lowCred := false
  rate := 0
  count := 0
  capHold := false

def Capture.reset : Capture where
  thread := 0
  mode := 0
  active := false
  done := false
  samples := 0
  restarts := 0
  taken := 0
  holdUntil := 0
  trips := Vector.replicate 3 0
  pace := 0
  servoSteps := 0
  seq := 0
  bytes := []
  part := []
  pockets := []
  readPos := 0
  records := 0
  older := []
  started := false
  wasOut := false

def CondCore.reset : CondCore := ⟨none, [], 0, false⟩

def Yoke.reset : Yoke where
  lastThread := 15
  openBytes := []
  openCredit := 0
  openMask := 0
  blockCount := 0
  waiting := []
  cores := Vector.replicate 4 .reset
  idleOrder := [0, 1, 2, 3]
  reservoir := []
  short := false
  paused := false
  blkCount := 0
  drawCount := 0
  discCount := 0
  evt := 0
  factors := Vector.replicate 16 0

def Inst.reset : Inst where
  health := .fresh
  owned := false
  key := 0
  v := 0
  counter := 0
  reseedReq := false
  prio := 1
  belowCount := 0
  belowSaid := false
  copyOk := true

def AesCore.reset : AesCore := ⟨.fresh, .idle, .idle, 0⟩

def Fabric.reset : Fabric where
  insts := Vector.replicate 8 (Vector.replicate 4 .reset)
  cores := Vector.replicate 4 .reset
  ops := []
  nextOp := 0
  held := Vector.replicate 8 0
  quota := Vector.replicate 8 0
  pmax := Vector.replicate 8 0
  lastSleeve := 7
  lastInst := Vector.replicate 8 3
  short := false
  mismatch := 0
  busyRef := 0
  evt := 0
  drawers := []
  drawersNext := []
  served := []
  claims := []

def Bank.reset : Bank := ⟨.fresh, false, 0, [], false⟩

def PoolSleeve.reset : PoolSleeve := ⟨0, 0, 0, false, false, 0⟩

def Pool.reset : Pool where
  free := BitVec.allOnes 4096
  torn := 0
  tornUsed := []
  claimed := []
  clearing := []
  banks := Vector.replicate 16 .reset
  per := Vector.replicate 8 .reset
  cut := 0
  ghem := 0
  glow := false
  lastTorn := 0
  corr := 0
  uncorr := 0
  evt := 0

def Stream.reset : Stream where
  running := false
  run := 0
  record := 0
  pat0 := 0
  pat1 := 0
  pend := false
  chain := []
  seals := []
  tags := 0
  epoch := 0

def PushEntry.reset : PushEntry where
  lost := false
  suspended := false
  doublings := 0
  epoch := 0
  served := 0
  missed := 0
  streak := 0
  lastMissed := false
  after := 0
  acts := []
  opened := false
  words := Vector.replicate 4 0
  spanStart := 0
  spanEnd := 0
  acked := false
  sent := 0
  nextProbe := 0

def Context.reset : Context where
  state := 0
  alg := 0
  hmac := none
  route := false
  chain := []
  count := 0
  buffer := []
  last := []
  result := []
  cmd := none
  final := false
  inner := []
  waitq := []

def Slot.reset : Slot := ⟨.fresh, 0, false, [], [], 0, true⟩

def CmdKey.reset : CmdKey := ⟨false, false, [], [], 0⟩

def Engine.reset : Engine := ⟨0, 0, false, [], []⟩

def Digest.reset : Digest where
  contexts := Vector.replicate 8 (Vector.replicate 4 .reset)
  engines := Vector.replicate 16 .reset
  cores := Vector.replicate 6 .fresh
  lastSleeve := 7
  lastCtx := Vector.replicate 8 3
  lastSeal := 31
  katFail := 0
  glitch := 0
  clrCount := 0
  clrLast := 0
  clearing := false
  evt := 0

def SleeveSt.reset : SleeveSt where
  health := .fresh
  cmdq := []
  removing := false
  heldPush := []
  replies := []
  seqHi := 0
  consumed := []
  cache := []
  epoch := 0
  tmo := 0
  authf := 0
  replay := 0
  tmoCnt := 0
  dup := 0
  undr := 0
  aflt := 0
  alrt := 0
  dgtErr := 0
  dsel := 0
  dhalf := false
  lastAuth := none
  lastReplay := none
  lastMark := none
  shadow := Vector.replicate 32 0
  live := Vector.replicate 32 0
  streams := Vector.replicate 4 .reset
  pushes := Vector.replicate 4 .reset
  runs := 0
  cmdKey := .reset
  wrapEpoch := 0

def SelSt.reset (r : Route) : SelSt := ⟨pageReset r, 0, 0, 0, none, none, none, ⟨[], [], []⟩⟩

def PortSt.reset : PortSt where
  health := .fresh
  trained := false
  width := 0
  config := 8
  on := false
  fail := 0
  lastDone := none
  mmf := false
  queue := []
  waiters := []

/-- An untrained lane samples at the middle of the UI (DESIGN CHOICE, assumption log 76). -/
def Lane.reset : Lane := ⟨.fresh, [], 32, 32⟩

def Xip.reset : Xip where
  recOffset := 0
  recLen := 0
  recVersion := 0
  recTag := []
  version := 0
  offset := 0
  codeLen := 0
  checks := []
  buffer := []
  f1only := []
  off := false
  f0fail := 0
  fault := 0
  smp := 8
  clk := 0
  rdcmd := 0x0001000B#32
  fWidth := 8
  lastRead := none

def Ports.reset : Ports where
  ports := #v[.reset, .reset, { PortSt.reset with config := 4 }]
  lanes := Vector.replicate 20 .reset
  sels := defaultRoutes.map .reset
  routes := defaultRoutes
  pcfg := Vector.replicate 8 0
  xip := .reset

/-- The first entry of the log, written at manufacture (R544): sequence number 0; the rest is not given (DESIGN CHOICE,
assumption log 12). -/
def factoryEntry : LogEntry where
  seq := 0
  boot := Config.factoryLog.extractLsb' 0 16
  time := Config.factoryLog.extractLsb' 16 48
  code := Config.factoryLog.extractLsb' 64 16
  rank := 0
  src := 15
  age := 0
  data := natBytes 8 (Config.factoryLog.extractLsb' 80 64).toNat
  chain := natBytes 8 (Config.factoryLog.extractLsb' 144 64).toNat

def Log.reset : Log where
  hand := none
  stack := []
  queue := []
  opening := []
  lost := 0
  lostNow := 0
  alarm := false
  loss := false
  fenced := false
  last3 := 0
  ring := [factoryEntry]
  next := 1
  keyOk := true
  spares := []
  wfail := 0
  lr := []
  overflow := 0
  verify := none
  lostCmds := []

/-- As shipped: only the log key has been written, at manufacture (Table 16-1, R492). -/
def Lining.reset : Lining where
  mram := [⟨.logKey, some ⟨1, false, 0, 0, .key true, true, true, true⟩, none, some 0, 0, false⟩]
  secrets := 0
  boot := 0
  bootDone := false
  waiting := []
  writer := none
  pending := []
  act := 0
  maint := 0
  maintAt := 0
  doorOpen := false
  armed := true
  zeroPend := false
  badCopy := 0
  recLost := 0
  wrFail := 0
  evt := 0

def Supply.reset : Supply where
  vinMv := 0
  pinMw := 0
  hold10mV := 0
  cap := 0
  switchOn := false
  ride := false
  rideFrom := 0
  rideUs := 0
  rideE := 0
  rideOv := false
  vinHigh := false
  ovOpen := false
  charge := 0
  measuring := false
  measureDue := false
  nextMeasure := 0
  holdLow := false
  holdFault := false
  vcore := 0
  dieT := 0
  speed := 0
  policy := 0
  policyOn := false
  limitTh := false
  limitCeil := false
  floorUnmet := false
  pinOvr := false
  share := 16
  throttled := false
  tripped := false
  evt := 0
  dips := 0
  denied := 0
  rail10mV := 0
  railOk := false
  railOutAt := 0
  railUp := false
  paceLow := false

def Floor.reset : Floor := ⟨0, false, 0, 0, none, 0, 0, 0, 0, 0⟩

def BistResult.none : BistResult := ⟨0, 0, 0, 0, 0⟩

def Bist.reset : Bist where
  active := []
  queue := []
  retests := []
  readmits := []
  powerUp := []
  again := []
  results := Vector.replicate 32 .none
  failed := 0
  lastRun := []
  runs := 0
  fails := 0
  evt := 0
  ir := 2
  verdict := 0xFF
  target := 0
  captured := []

def Power.reset : Power where
  phase := .off
  cause := 0
  readyMs := 0
  startAt := 0
  ioSelOpen := false
  rstLow := false
  conditioned := false
  railSkipped := false
  testsBegun := false
  patchDone := true
  foldCmd := none
  foldAt := 0
  foldReply := false
  wakeS := 0
  wakeAt := none
  foldThread := none
  foldTherm := false
  wakeWhy := 0
  wakePin := false
  resumes := []
  extest := false

def Tally.reset : Tally := ⟨0, false, false, false, false, 0, false, 0, 0, 0⟩

/-- The module as shipped, off, before VIN rises (Table 1-5): every volatile field at its reset value, every lasting field
at the value of a record never written (Table 0-4), no command waiting. -/
def State.reset : State where
  power := .reset
  supply := .reset
  tally := .reset
  threads := Vector.replicate 16 .reset
  capture := .reset
  floor := .reset
  yoke := .reset
  fabric := .reset
  pool := .reset
  sleeves := Vector.replicate 8 .reset
  slots := Vector.replicate 32 .reset
  digest := .reset
  lining := .reset
  ports := .reset
  log := .reset
  bist := .reset
  cmds := []
  nextCmd := 0
  taken := []
  dropw := 0
  freeUsed := 0
  pending := []

end Sys2Proof.Machine
end

