-- ==== Sys2Proof/Machine/Aes.lean ====
section
/-! DEFINITION. AES with 256-bit keys (FIPS 197) and CTR_DRBG without a derivation function (SP 800-90A) as R206, R211 and R212
give it (PRESUMED, assumption log 2). Blocks and keys are byte strings, most significant byte first. -/

namespace Sys2Proof.Machine

/-- Multiplication by x in GF(2^8). -/
def xtime (a : Byte) : Byte := (a <<< 1) ^^^ (if a.msb then 0x1B#8 else 0)

/-- Product in GF(2^8), over the low `n` bits of the second factor. -/
def gmul : Nat → Byte → Byte → Byte
  | 0, _, _ => 0
  | n + 1, a, b => (if b.getLsbD 0 then a else 0) ^^^ gmul n (xtime a) (b >>> 1)

/-- The inverse in GF(2^8), 0 for 0: the 254th power. -/
def ginv (a : Byte) : Byte :=
  let sq (x : Byte) := gmul 8 x x
  let a2 := sq a
  let a4 := sq a2
  let a8 := sq a4
  let a16 := sq a8
  let a32 := sq a16
  let a64 := sq a32
  let a128 := sq a64
  gmul 8 a2 (gmul 8 a4 (gmul 8 a8 (gmul 8 a16 (gmul 8 a32 (gmul 8 a64 a128)))))

/-- The S-box of FIPS 197. -/
def sbox (a : Byte) : Byte :=
  let b := ginv a
  b ^^^ b.rotateLeft 1 ^^^ b.rotateLeft 2 ^^^ b.rotateLeft 3 ^^^ b.rotateLeft 4 ^^^ 0x63#8

def xorBytes (a b : List Byte) : List Byte := List.zipWith (· ^^^ ·) a b

/-- The key schedule as four-byte words, newest first, extended by `n` words from word number `i`. -/
def expandKey : Nat → Nat → Byte → List (List Byte) → List (List Byte)
  | 0, _, _, ws => ws
  | n + 1, i, rcon, ws =>
    let t := ws.getD 0 []
    let t' :=
      if i % 8 = 0 then xorBytes ((t.rotateLeft 1).map sbox) [rcon, 0, 0, 0]
      else if i % 8 = 4 then t.map sbox else t
    expandKey n (i + 1) (if i % 8 = 0 then xtime rcon else rcon) (xorBytes (ws.getD 7 []) t' :: ws)

/-- A byte string cut into pieces of four. -/
def quads : List Byte → List (List Byte)
  | a :: b :: c :: d :: r => [a, b, c, d] :: quads r
  | _ => []

/-- The 15 round keys of a 32-byte key. -/
def roundKeys (key : List Byte) : List Byte := (expandKey 52 8 1 (quads key).reverse).reverse.flatten

def mixColumn : List Byte → List Byte
  | [a, b, c, d] =>
    let m3 (x : Byte) := xtime x ^^^ x
    [xtime a ^^^ m3 b ^^^ c ^^^ d, a ^^^ xtime b ^^^ m3 c ^^^ d, a ^^^ b ^^^ xtime c ^^^ m3 d, m3 a ^^^ b ^^^ c ^^^ xtime d]
  | x => x

def shiftRows (st : List Byte) : List Byte :=
  [0, 5, 10, 15, 4, 9, 14, 3, 8, 13, 2, 7, 12, 1, 6, 11].map (fun i => st.getD i 0)

/-- Rounds `i` to 13, then the last. -/
def aesRounds : Nat → List Byte → List Byte → List Byte
  | 0, rk, st => xorBytes (shiftRows (st.map sbox)) (rk.take 16)
  | n + 1, rk, st => aesRounds n (rk.drop 16) (xorBytes ((quads (shiftRows (st.map sbox))).flatMap mixColumn) (rk.take 16))

/-- One AES-256 block. -/
def aesBlock (key : BitVec 256) (x : BitVec 128) : BitVec 128 :=
  let rk := roundKeys (natBytes 32 key.toNat)
  BitVec.ofNat 128 (bytesNat (aesRounds 13 (rk.drop 16) (xorBytes (natBytes 16 x.toNat) (rk.take 16))))

/-- Zero padding on the right to 384 bits (R212). -/
def pad384 (bs : List Byte) : BitVec 384 := BitVec.ofNat 384 (bytesNat ((bs ++ List.replicate 48 0).take 48))

/-- The CTR_DRBG Update function (R212). -/
def drbgUpdate (data : BitVec 384) (key : BitVec 256) (v : BitVec 128) : BitVec 256 × BitVec 128 :=
  let b1 := aesBlock key (v + 1)
  let b2 := aesBlock key (v + 2)
  let b3 := aesBlock key (v + 3)
  let t := (b1 ++ b2 ++ b3 : BitVec 384) ^^^ data
  (t.extractLsb' 128 256, t.extractLsb' 0 128)

/-- Output blocks from successive values of V (R212): the bytes and the last V. -/
def drbgBlocks (key : BitVec 256) : Nat → BitVec 128 → List Byte × BitVec 128
  | 0, v => ([], v)
  | n + 1, v =>
    let r := drbgBlocks key n (v + 1)
    (natBytes 16 (aesBlock key (v + 1)).toNat ++ r.1, r.2)

end Sys2Proof.Machine
end

