-- ==== Sys2Proof/Machine/Sha.lean ====
section
/-! DEFINITION. SHA-256, SHA-384 and SHA-512 of FIPS 180-4 and HMAC of FIPS 198-1 as the engines of chapter 15 compute them
(R453, R459, R460, R468; Table 0-8 names the standards, PRESUMED, assumption log 2). Algorithm codes are those of ARG: 0 SHA-256,
1 SHA-384, 2 SHA-512. -/

namespace Sys2Proof.Machine

/-- Round constants of SHA-512; the upper halves of the first 64 are those of SHA-256. -/
def shaK1 : List (BitVec 64) :=
  [0x428A2F98D728AE22, 0x7137449123EF65CD, 0xB5C0FBCFEC4D3B2F, 0xE9B5DBA58189DBBC,
   0x3956C25BF348B538, 0x59F111F1B605D019, 0x923F82A4AF194F9B, 0xAB1C5ED5DA6D8118,
   0xD807AA98A3030242, 0x12835B0145706FBE, 0x243185BE4EE4B28C, 0x550C7DC3D5FFB4E2,
   0x72BE5D74F27B896F, 0x80DEB1FE3B1696B1, 0x9BDC06A725C71235, 0xC19BF174CF692694,
   0xE49B69C19EF14AD2, 0xEFBE4786384F25E3, 0x0FC19DC68B8CD5B5, 0x240CA1CC77AC9C65,
   0x2DE92C6F592B0275, 0x4A7484AA6EA6E483, 0x5CB0A9DCBD41FBD4, 0x76F988DA831153B5,
   0x983E5152EE66DFAB, 0xA831C66D2DB43210, 0xB00327C898FB213F, 0xBF597FC7BEEF0EE4,
   0xC6E00BF33DA88FC2, 0xD5A79147930AA725, 0x06CA6351E003826F, 0x142929670A0E6E70,
   0x27B70A8546D22FFC, 0x2E1B21385C26C926, 0x4D2C6DFC5AC42AED, 0x53380D139D95B3DF,
   0x650A73548BAF63DE, 0x766A0ABB3C77B2A8, 0x81C2C92E47EDAEE6, 0x92722C851482353B]
def shaK2 : List (BitVec 64) :=
  [0xA2BFE8A14CF10364, 0xA81A664BBC423001, 0xC24B8B70D0F89791, 0xC76C51A30654BE30,
   0xD192E819D6EF5218, 0xD69906245565A910, 0xF40E35855771202A, 0x106AA07032BBD1B8,
   0x19A4C116B8D2D0C8, 0x1E376C085141AB53, 0x2748774CDF8EEB99, 0x34B0BCB5E19B48A8,
   0x391C0CB3C5C95A63, 0x4ED8AA4AE3418ACB, 0x5B9CCA4F7763E373, 0x682E6FF3D6B2B8A3,
   0x748F82EE5DEFB2FC, 0x78A5636F43172F60, 0x84C87814A1F0AB72, 0x8CC702081A6439EC,
   0x90BEFFFA23631E28, 0xA4506CEBDE82BDE9, 0xBEF9A3F7B2C67915, 0xC67178F2E372532B,
   0xCA273ECEEA26619C, 0xD186B8C721C0C207, 0xEADA7DD6CDE0EB1E, 0xF57D4F7FEE6ED178,
   0x06F067AA72176FBA, 0x0A637DC5A2C898A6, 0x113F9804BEF90DAE, 0x1B710B35131C471B,
   0x28DB77F523047D84, 0x32CAAB7B40C72493, 0x3C9EBE0A15C9BEBC, 0x431D67C49C100D4C,
   0x4CC5D4BECB3E42B6, 0x597F299CFC657E2A, 0x5FCB6FAB3AD6FAEC, 0x6C44198C4A475817]
def shaK : List (BitVec 64) := shaK1 ++ shaK2

def shaInit512 : List (BitVec 64) :=
  [0x6A09E667F3BCC908, 0xBB67AE8584CAA73B, 0x3C6EF372FE94F82B, 0xA54FF53A5F1D36F1,
   0x510E527FADE682D1, 0x9B05688C2B3E6C1F, 0x1F83D9ABFB41BD6B, 0x5BE0CD19137E2179]
def shaInit384 : List (BitVec 64) :=
  [0xCBBB9D5DC1059ED8, 0x629A292A367CD507, 0x9159015A3070DD17, 0x152FECD8F70E5939,
   0x67332667FFC00B31, 0x8EB44A8768581511, 0xDB0C2E0D64F98FA7, 0x47B5481DBEFA4FA4]
def shaInit256 : List (BitVec 32) := shaInit512.map (·.extractLsb' 32 32)

/-- Shape of one hash: word width, rotations of the four functions, block bytes. -/
structure ShaForm where
  w : Nat
  big0 : Nat × Nat × Nat
  big1 : Nat × Nat × Nat
  small0 : Nat × Nat × Nat
  small1 : Nat × Nat × Nat

def form256 : ShaForm := ⟨32, (2, 13, 22), (6, 11, 25), (7, 18, 3), (17, 19, 10)⟩
def form512 : ShaForm := ⟨64, (28, 34, 39), (14, 18, 41), (1, 8, 7), (19, 61, 6)⟩

def rot3 {w : Nat} (r : Nat × Nat × Nat) (x : BitVec w) : BitVec w :=
  x.rotateRight r.1 ^^^ x.rotateRight r.2.1 ^^^ x.rotateRight r.2.2

def rot2s {w : Nat} (r : Nat × Nat × Nat) (x : BitVec w) : BitVec w :=
  x.rotateRight r.1 ^^^ x.rotateRight r.2.1 ^^^ (x >>> r.2.2)

/-- The message schedule, newest word first, extended by `n` words. -/
def schedule (f : ShaForm) : Nat → List (BitVec f.w) → List (BitVec f.w)
  | 0, ws => ws
  | n + 1, ws =>
    let at' (i : Nat) := ws.getD i 0
    schedule f n ((rot2s f.small1 (at' 1) + at' 6 + rot2s f.small0 (at' 14) + at' 15) :: ws)

def shaRound (f : ShaForm) (st : List (BitVec f.w)) (kw : BitVec f.w) : List (BitVec f.w) :=
  match st with
  | [a, b, c, d, e, g, h, i] =>
    let t1 := i + rot3 f.big1 e + ((e &&& g) ^^^ (~~~ e &&& h)) + kw
    let t2 := rot3 f.big0 a + ((a &&& b) ^^^ (a &&& c) ^^^ (b &&& c))
    [t1 + t2, a, b, c, d + t1, e, g, h]
  | _ => st

/-- One compression of a block of 16 words. -/
def compress (f : ShaForm) (ks : List (BitVec f.w)) (cv block : List (BitVec f.w)) : List (BitVec f.w) :=
  let ws := (schedule f (ks.length - 16) block.reverse).reverse
  let out := (List.zipWith (· + ·) ks ws).foldl (shaRound f) cv
  List.zipWith (· + ·) cv out

/-- A byte string as words of `k` bytes. -/
def wordsOf (k w : Nat) : Nat → List Byte → List (BitVec w)
  | 0, _ => []
  | n + 1, bs => BitVec.ofNat w (bytesNat (bs.take k)) :: wordsOf k w n (bs.drop k)

/-- Block length of an algorithm (Table 15-3). -/
def blockLen (alg : Nat) : Nat := if alg = 0 then 64 else 128

/-- Digest length of an algorithm (Table 15-3). -/
def digestLen (alg : Nat) : Nat := if alg = 0 then 32 else if alg = 1 then 48 else 64

/-- Engine word of an algorithm (Table 15-3). -/
def engineWord (alg : Nat) : Nat := if alg = 0 then 4 else 8

/-- The initial chaining value, as bytes. -/
def initChain (alg : Nat) : List Byte :=
  if alg = 0 then shaInit256.flatMap (fun x => natBytes 4 x.toNat)
  else (if alg = 1 then shaInit384 else shaInit512).flatMap (fun x => natBytes 8 x.toNat)

/-- One compression on bytes: the chaining value after a block. -/
def compressBytes (alg : Nat) (cv block : List Byte) : List Byte :=
  if alg = 0 then
    (compress form256 ((shaK.take 64).map (·.extractLsb' 32 32)) (wordsOf 4 32 8 cv) (wordsOf 4 32 16 block)).flatMap
      (fun x => natBytes 4 x.toNat)
  else
    (compress form512 shaK (wordsOf 8 64 8 cv) (wordsOf 8 64 16 block)).flatMap (fun x => natBytes 8 x.toNat)

/-- Compressions of the first `n` whole blocks. -/
def compressBlocks (alg : Nat) : Nat → List Byte → List Byte → List Byte
  | 0, cv, _ => cv
  | n + 1, cv, bs => compressBlocks alg n (compressBytes alg cv (bs.take (blockLen alg))) (bs.drop (blockLen alg))

/-- FIPS 180-4 padding of a message of `total` bytes whose unhashed tail is `tail` (R468 step 2). -/
def shaPad (alg : Nat) (total : Nat) (tail : List Byte) : List Byte :=
  let lenBytes := if alg = 0 then 8 else 16
  let used := (tail.length + 1 + lenBytes) % blockLen alg
  let zeros := if used = 0 then 0 else blockLen alg - used
  tail ++ [0x80] ++ List.replicate zeros 0 ++ natBytes lenBytes (8 * total)

/-- Finish a hash from a chaining value, the bytes already hashed and the tail. -/
def shaFinish (alg : Nat) (cv : List Byte) (hashed : Nat) (tail : List Byte) : List Byte :=
  let p := shaPad alg (hashed + tail.length) tail
  (compressBlocks alg (p.length / blockLen alg) cv p).take (digestLen alg)

/-- A whole hash. -/
def sha (alg : Nat) (msg : List Byte) : List Byte := shaFinish alg (initChain alg) 0 msg

/-- The two chaining values of a key padded to one block (R460). -/
def hmacStates (alg : Nat) (key : List Byte) : List Byte × List Byte :=
  let k := (key ++ List.replicate (blockLen alg - key.length) 0).take (blockLen alg)
  (compressBytes alg (initChain alg) (k.map (· ^^^ 0x36#8)), compressBytes alg (initChain alg) (k.map (· ^^^ 0x5C#8)))

/-- HMAC from the two states (R468 step 4). -/
def hmacWith (alg : Nat) (inner outer : List Byte) (msg : List Byte) : List Byte :=
  shaFinish alg outer (blockLen alg) (shaFinish alg inner (blockLen alg) msg)

/-- HMAC under a key of at most one block. -/
def hmac (alg : Nat) (key msg : List Byte) : List Byte :=
  let st := hmacStates alg key
  hmacWith alg st.1 st.2 msg

end Sys2Proof.Machine
end

