-- ==== Sys2Proof/Machine/Ops.lean ====
section
/-! DEFINITION. The named operations over the state that every family uses: one element of an array, Tally time, counters,
unit states, routes and alerts, the fault handler's intake and the clearing of the service path. -/

namespace Sys2Proof.Machine

variable {α : Type} {n : Nat}

/-- Replace one element of a fixed array. -/
def vset (v : Vector α n) (i : Fin n) (x : α) : Vector α n := v.set i.val x i.isLt

/-- Change one element of a fixed array. -/
def vmod (v : Vector α n) (i : Fin n) (f : α → α) : Vector α n := vset v i (f (v.get i))

/-- A CT counter of `w` bits after `k` more counts: it saturates at all ones (R10). -/
def satAdd (w c k : Nat) : Nat := min (2 ^ w - 1) (c + k)

/-- The outcome of a command that runs: the next state. -/
abbrev Res := Host.Outcome State Fault Refusal

/-- Apply a change for every element of a list, in order. -/
def forAll {β : Type} (l : List β) (f : β → State → State) (s : State) : State := l.foldl (fun t x => f x t) s

/-- Apply a change where a condition holds. -/
def when' (c : Bool) (f : State → State) (s : State) : State := if c then f s else s

/-! ### Free values -/

/-- The next value that the spec leaves open (DESIGN CHOICE, assumption log 4). -/
def State.freeValue (s : State) : Word := Config.freeWord s.freeUsed

/-- A free value has been used: the next one is another. -/
def useFree (s : State) : State := { s with freeUsed := s.freeUsed + 1 }

/-! ### Parts of the state -/

/-- Tally time in microseconds (20.3). -/
def State.now (s : State) : Nat := s.tally.now.toNat

def modPower (f : Power → Power) (s : State) : State := { s with power := f s.power }
def modSupply (f : Supply → Supply) (s : State) : State := { s with supply := f s.supply }
def modTally (f : Tally → Tally) (s : State) : State := { s with tally := f s.tally }
def modFloor (f : Floor → Floor) (s : State) : State := { s with floor := f s.floor }
def modYoke (f : Yoke → Yoke) (s : State) : State := { s with yoke := f s.yoke }
def modFabric (f : Fabric → Fabric) (s : State) : State := { s with fabric := f s.fabric }
def modPool (f : Pool → Pool) (s : State) : State := { s with pool := f s.pool }
def modDigest (f : Digest → Digest) (s : State) : State := { s with digest := f s.digest }
def modLining (f : Lining → Lining) (s : State) : State := { s with lining := f s.lining }
def modPorts (f : Ports → Ports) (s : State) : State := { s with ports := f s.ports }
def modXip (f : Xip → Xip) (s : State) : State := modPorts (fun p => { p with xip := f p.xip }) s
def modLog (f : Log → Log) (s : State) : State := { s with log := f s.log }
def modBist (f : Bist → Bist) (s : State) : State := { s with bist := f s.bist }
def modCapture (f : Capture → Capture) (s : State) : State := { s with capture := f s.capture }

def State.thread (s : State) (t : Thread) : ThreadSt := s.threads.get t
def modThread (t : Thread) (f : ThreadSt → ThreadSt) (s : State) : State := { s with threads := vmod s.threads t f }
def State.sleeve (s : State) (i : Sleeve) : SleeveSt := s.sleeves.get i
def modSleeve (i : Sleeve) (f : SleeveSt → SleeveSt) (s : State) : State := { s with sleeves := vmod s.sleeves i f }
def modStream (i : Sleeve) (k : Fin 4) (f : Stream → Stream) : State → State :=
  modSleeve i (fun x => { x with streams := vmod x.streams k f })
def modPush (i : Sleeve) (k : Fin 4) (f : PushEntry → PushEntry) : State → State :=
  modSleeve i (fun x => { x with pushes := vmod x.pushes k f })
def State.inst (s : State) (i : Sleeve) (k : Fin 4) : Inst := (s.fabric.insts.get i).get k
def modInst (i : Sleeve) (k : Fin 4) (f : Inst → Inst) : State → State :=
  modFabric (fun x => { x with insts := vmod x.insts i (fun v => vmod v k f) })
def State.slot (s : State) (k : Fin 32) : Slot := s.slots.get k
def modSlot (k : Fin 32) (f : Slot → Slot) (s : State) : State := { s with slots := vmod s.slots k f }
def State.ctx (s : State) (i : Sleeve) (k : Fin 4) : Context := (s.digest.contexts.get i).get k
def modCtx (i : Sleeve) (k : Fin 4) (f : Context → Context) : State → State :=
  modDigest (fun d => { d with contexts := vmod d.contexts i (fun v => vmod v k f) })
def modCore (k : Fin 4) (f : AesCore → AesCore) : State → State := modFabric (fun x => { x with cores := vmod x.cores k f })
def modSha (k : Fin 6) (f : Health → Health) : State → State := modDigest (fun d => { d with cores := vmod d.cores k f })
def modCond (k : Fin 4) (f : CondCore → CondCore) : State → State := modYoke (fun y => { y with cores := vmod y.cores k f })
def modBank (b : Fin 16) (f : Bank → Bank) : State → State := modPool (fun p => { p with banks := vmod p.banks b f })
def modPS (i : Sleeve) (f : PoolSleeve → PoolSleeve) : State → State := modPool (fun p => { p with per := vmod p.per i f })
def modPort (p : Fin 3) (f : PortSt → PortSt) : State → State := modPorts (fun x => { x with ports := vmod x.ports p f })
def modLane (k : Fin 20) (f : Lane → Lane) : State → State := modPorts (fun x => { x with lanes := vmod x.lanes k f })
def State.sel (s : State) (i : Sel) : SelSt := s.ports.sels.get i
def modSel (i : Sel) (f : SelSt → SelSt) : State → State := modPorts (fun x => { x with sels := vmod x.sels i f })
def State.route (s : State) (i : Sel) : Route := s.ports.routes.get i

/-- The eight sleeves, the sixteen threads, and so on, as lists. -/
abbrev allSleeves : List Sleeve := List.finRange 8
abbrev allThreads : List Thread := List.finRange 16
abbrev allFours : List (Fin 4) := List.finRange 4
abbrev allSels : List Sel := List.finRange 10

/-- Every stream, or push entry, of every sleeve. -/
abbrev allEntries : List (Sleeve × Fin 4) := allSleeves.flatMap (fun i => allFours.map (fun e => (i, e)))

/-- M-threads are T0 to T11 (Table 0-6). -/
def isM (t : Thread) : Bool := t.val < 12

/-- The JTAG IDCODE: stepping C1, part 0xA581, manufacturer 0x695 (R2, R3). -/
def idcode : Word := 0x2A581D2B

/-! ### Module states -/

/-- READY is high (R32). -/
def State.ready (s : State) : Bool :=
  match s.power.phase with
  | .serving | .folding => true
  | _ => false

/-- The lining is restored, so DOOR, FAULT# and the log act (R495, R385). -/
def State.lined (s : State) : Bool :=
  match s.power.phase with
  | .startup | .serving | .folding | .fold | .waking => true
  | _ => false

/-- The core runs: work units carry on (chapters 4 to 8). -/
def State.running (s : State) : Bool :=
  match s.power.phase with
  | .startup | .serving | .folding | .waking => true
  | _ => false

/-! ### Units (R167) -/

def laneFin (p : Fin 3) (lane : Fin 8) : Fin 20 := ⟨(p.val * 8 + lane.val) % 20, Nat.mod_lt _ (by decide)⟩

def State.health (s : State) : UnitRef → Health
  | .thread t => (s.thread t).health
  | .aes k => (s.fabric.cores.get k).health
  | .sha k => s.digest.cores.get k
  | .bank b => (s.pool.banks.get b).health
  | .lane k => (s.ports.lanes.get k).health
  | .port p => (s.ports.ports.get p).health
  | .slot k => (s.slot k).health
  | .inst i k => (s.inst i k).health
  | .sleeve i => (s.sleeve i).health

def modHealth (u : UnitRef) (f : Health → Health) : State → State :=
  match u with
  | .thread t => modThread t (fun x => { x with health := f x.health })
  | .aes k => modCore k (fun x => { x with health := f x.health })
  | .sha k => modSha k f
  | .bank b => modBank b (fun x => { x with health := f x.health })
  | .lane k => modLane k (fun x => { x with health := f x.health })
  | .port p => modPort p (fun x => { x with health := f x.health })
  | .slot k => modSlot k (fun x => { x with health := f x.health })
  | .inst i k => modInst i k (fun x => { x with health := f x.health })
  | .sleeve i => modSleeve i (fun x => { x with health := f x.health })

/-- In service and not out of service for a BIST run (R502). -/
def Health.inSvc (h : Health) : Bool := decide (h.st = .inService) && !h.bist

/-- The unit record that a unit belongs to (Table 16-1). -/
def unitRecord : UnitRef → RecId
  | .thread _ => .threads
  | .aes _ => .aesCores
  | .sha _ => .shaCores
  | .bank b => .banks b
  | .lane _ => .lanes
  | .port _ => .ports
  | .slot _ => .slots
  | .inst _ _ => .instances
  | .sleeve _ => .sleeves

/-- Every unit, as the sweep of R535 examines them. -/
def allUnits : List UnitRef :=
  (List.finRange 16).map .thread ++ (List.finRange 4).map .aes ++ (List.finRange 6).map .sha ++
  (List.finRange 16).map .bank ++ (List.finRange 20).map .lane ++ (List.finRange 32).map .slot ++
  allSleeves.flatMap (fun i => allFours.map (.inst i)) ++ allSleeves.map .sleeve

/-- The two-bit code of a unit state in the registers. -/
def UnitState.code : UnitState → Nat
  | .inService => 0
  | .quarantined => 1
  | .retired => 2

/-- One hour of Tally time (R163). -/
def hourUs : Nat := 3600000000

/-- The fault is the third in the last hour: the earlier of the two kept times lies less than an hour back (R163). -/
def isThird (h : Health) (now : Nat) : Bool :=
  match h.faults with
  | _ :: t :: _ => decide (now - t < hourUs)
  | _ => false

/-- Keep the times of the last two faults (R163). -/
def noteFault (now : Nat) (h : Health) : Health := { h with faults := (now :: h.faults).take 2 }

/-- A conditioning core becomes idle: it is the one idle shortest (R190). -/
def justIdle (k : Fin 4) : State → State :=
  modYoke (fun y => { y with idleOrder := y.idleOrder.filter (· != k) ++ [k] })

/-! ### Routes and alerts -/

/-- Port index of a select: 0 A, 1 B, 2 M (Table 11-6). -/
def selPort (i : Sel) : Fin 3 := if i.val < 4 then 0 else if i.val < 8 then 1 else 2

/-- The sleeve has a ROLE 01 select on the port. -/
def State.onPort (s : State) (i : Sleeve) (p : Fin 3) : Bool :=
  allSels.any (fun c => decide (selPort c = p) && decide ((s.route c).role = 1) && decide ((s.route c).sl = i))

/-- Set bits of a sleeve's alert word (R381). -/
def alert (i : Sleeve) (bits : BitVec 7) : State → State := modSleeve i (fun x => { x with alrt := x.alrt ||| bits })

/-- LANE alert: S0 and every sleeve with a ROLE 01 select on the port (Table 12-6). -/
def alertLane (p : Fin 3) (s : State) : State :=
  forAll (allSleeves.filter (fun i => i = 0 || s.onPort i p)) (fun i => alert i 0x08) s

/-- ALERT_A (port 0) or ALERT_B (port 1) is asserted (R382). -/
def State.alertPin (s : State) (p : Fin 2) : Bool :=
  allSleeves.any fun i =>
    (s.sleeve i).alrt != 0 &&
      (s.onPort i (p.castLE (by decide)) || (decide (p = 0) && !s.onPort i 0 && !s.onPort i 1))

/-! ### The event handler's intake (18.2, 18.3) -/

/-- Ranks of Tables 3-8, 4-5, 5-7, 6-5, 7-7, 8-4, 10-7, 12-8, 13-9, 14-5, 15-10, 16-10, 17-9, 18-5, 19-7 and 20-4; an event
not listed has rank 0. -/
def rank3Codes : List Nat := [0x0024, 0x208B, 0x4013]
def rank2Codes : List Nat :=
  [0x0022, 0x1003, 0x1006, 0x2083, 0x2088, 0x3003, 0x3011, 0x4006, 0x4011, 0x4012, 0x5031, 0x5033, 0x5040, 0x5051, 0x6005,
   0x8004, 0x9003, 0x9004, 0x9030, 0x9032, 0xF004, 0xF011, 0xF012, 0xF032, 0xF050, 0xF052]
def rank1Codes : List Nat :=
  [0x0002, 0x0010, 0x0012, 0x0020, 0x1001, 0x1005, 0x2080, 0x2081, 0x2084, 0x2087, 0x208A, 0x3001, 0x3005, 0x3010, 0x4005,
   0x4010, 0x5001, 0x5003, 0x5004, 0x5020, 0x5021, 0x5022, 0x5023, 0x5024, 0x5042, 0x5050, 0x5055, 0x6003, 0x8003, 0x8005,
   0x9001, 0x9005, 0x9021, 0x9023, 0x9031, 0xA002, 0xA003, 0xF002, 0xF010, 0xF020, 0xF031, 0xF081]

def rankOf (code : BitVec 16) : Nat :=
  if rank3Codes.contains code.toNat then 3
  else if rank2Codes.contains code.toNat then 2
  else if rank1Codes.contains code.toNat then 1
  else 0

/-! ### Wake sources (19.5) -/

/-- The die is at 100 degrees C or above (R109); DIE_T is degrees C plus 64. -/
def State.hot (s : State) : Bool := decide (164 ≤ s.supply.dieT)

/-- Fold was entered by a thermal trip with THERM_ACT 01: only RESUME and WAKE# wake (R109). -/
def State.hostOnly (s : State) : Bool := s.power.foldTherm && decide (field s.supply.policy 28 2 = 1)

/-- A wake waits for THERMAL: a trip with THERM_ACT 00 and a die still at 100 degrees C or above (R576). -/
def State.thermWait (s : State) : Bool := s.power.foldTherm && !s.hostOnly && s.hot

/-- Begin the full start-up test of a thread as a fresh test sequence (R147, R638). -/
def startFull (t : Thread) : State → State :=
  modThread t (fun x => { x with
    test := .full, testPos := 0, testBad := false, checkPos := 0, checkHits := 0, fullDue := false, secondTry := false
    passed := false, rctCount := 0, aptCount := 0, aptPos := 0, heldBack := [], driftPos := 0, driftOnes := 0, driftPairs := 0, estPos := 0, estOnes := 0
    estPairs := Vector.replicate 4 0, bits := [] })

/-- Power a thread that fold had powered down, and test it (R34). -/
def powerThread (t : Thread) (s : State) : State :=
  if (s.thread t).foldOff then
    let s := modThread t (fun x => { x with foldOff := false }) s
    if (s.thread t).health.st = .retired then s else startFull t s
  else s

/-- Steps 1 and 2 of Table 19-5: the timer is cancelled, ports A and B are powered, every port is untrained (R369) and the
selects' frame counters restart (R403), the threads that fold powered down run their tests, and HOLD is measured by the discharge method
(R90, R574). A measurement that runs is begun again once HOLD is charged: the charger is back at 25 mA (R89). -/
def beginWake (s : State) : State :=
  s |> modPower (fun p => { p with phase := .waking, startAt := s.now, wakeAt := none })
    |> modPort 0 (fun p => { p with on := true, trained := false })
    |> modPort 1 (fun p => { p with on := true, trained := false })
    |> modPort 2 (fun p => { p with trained := false })
    |> modPorts (fun p => { p with sels := p.sels.map (fun x => { x with frames := 0 }) })
    |> forAll allThreads powerThread
    |> modSupply (fun p => { p with
        tripped := false, evt := if p.tripped then p.evt ||| 0x400 else p.evt
        measuring := decide (p.charge = 2), measureDue := decide (p.charge ≠ 2)
        charge := if p.charge = 2 then 0 else if p.charge = 0 then 25 else p.charge })

/-- A wake source arises (R572): in fold or in a wake transition it sets its bit; the first one that may wake starts the
transition; a device source drives WAKE# (R573). -/
def wakeSource (n : Nat) (s : State) : State :=
  if s.power.phase = .fold ∨ s.power.phase = .waking then
    let s := modPower (fun p => { p with
      wakeWhy := p.wakeWhy ||| BitVec.twoPow 5 n, wakePin := p.wakePin || decide (2 ≤ n) }) s
    if s.power.phase = .fold ∧ s.thermWait = false then beginWake s else s
  else s

/-- A rank 3 event in fold is the ALARM source (Table 19-4), but after a trip with THERM_ACT 01 (R109). -/
def alarmWake (s : State) : State := if s.hostOnly && decide (s.power.phase = .fold) then s else wakeSource 4 s

/-- Start, or join, a clearing of the service path (R477, R478). Cause 1 bus error, 2 DOOR, 4 rank 3 alarm. Until
SERVICE_CLEARED the windows read zero and no digest result is released (R479 step 1). -/
def clearService (cause : Nat) : State → State :=
  modDigest (fun d => { d with clrCount := satAdd 8 d.clrCount 1, clrLast := cause, clearing := true })

/-- What an alarm does when it reaches the handler's element (R531). -/
def rank3Arrives (code : BitVec 16) (s : State) : State :=
  alarmWake (clearService 4 (modLog (fun l => { l with alarm := true, last3 := code }) s))

/-- The event of lowest rank in a queue. -/
def lowestRank (q : List Ev) : Nat := q.foldl (fun m e => min m e.rank) 3

/-- The LOG_MARK command of the newest event of a rank. -/
def newestCmd (r : Nat) (q : List Ev) : List Nat :=
  match q.reverse.find? (fun e => e.rank == r) with
  | some e => e.cmd.toList
  | none => []

/-- Drop the newest event of a rank. -/
def dropNewest (r : Nat) (q : List Ev) : List Ev :=
  (q.reverse.eraseP (fun e => e.rank == r)).reverse

/-- Lose one event (R534). -/
def countLost (l : Log) : Log := { l with lost := satAdd 16 l.lost 1, lostNow := l.lostNow + 1 }

/-- Where an arriving event goes (R533, R534), and whether it was kept. -/
def placeEv (e : Ev) (l : Log) : Log × Bool :=
  match l.hand with
  | none => ({ l with hand := some e }, true)
  | some h =>
    if h.rank < e.rank then ({ l with hand := some e, stack := h :: l.stack }, true)
    else if l.queue.length < 8 then ({ l with queue := l.queue ++ [e] }, true)
    else if lowestRank l.queue < e.rank then
      (countLost { l with
        queue := dropNewest (lowestRank l.queue) l.queue ++ [e]
        lostCmds := l.lostCmds ++ newestCmd (lowestRank l.queue) l.queue }, true)
    else (countLost l, false)

/-- Give an event to the handler (R533, R534), with the rank 2 and rank 3 actions of Table 18-1 and R531. The state and
whether the event was kept. -/
def offer (e : Ev) (s : State) : State × Bool :=
  let s := if e.rank = 3 then rank3Arrives e.code s else s
  let r := placeEv e s.log
  let l := if r.2 && decide (2 = e.rank) then { r.1 with loss := true } else r.1
  ({ s with log := l }, r.2)

/-- An event of a code, with the source and data of Table 18-3. -/
def mkEv (s : State) (code : BitVec 16) (src : Nat) (data : List Byte) : Ev :=
  ⟨code, rankOf code, src, data, s.now, none, none⟩

/-- Raise an event of the module's own (source 15) with its data. -/
def raiseD (code : BitVec 16) (data : List Byte) (s : State) : State := (offer (mkEv s code 15 data) s).1

def raise (code : BitVec 16) : State → State := raiseD code []

/-- Raise an event whose source is a sleeve. -/
def raiseS (code : BitVec 16) (i : Sleeve) (data : List Byte) (s : State) : State := (offer (mkEv s code i.val data) s).1

/-- Raise an event with what it alerts: a lost event raises no ALERT (R534). -/
def raiseA (code : BitVec 16) (data : List Byte) (act : State → State) (s : State) : State :=
  let r := offer (mkEv s code 15 data) s
  if r.2 then act r.1 else r.1

/-- FAULT# is asserted (R385, R553); at a failed wrap-unit test as R490 gives. -/
def State.faultPin (s : State) : Bool :=
  s.lined && (s.log.alarm || s.log.lr.any (fun e => !e.2) || s.log.fenced) || decide (s.power.phase = .halted)

/-- The log is suspended while both service cores are fenced; a core under a run of its power-up self-test is not (R550;
DEDUCED, assumption log 61). -/
def State.logSusp (s : State) : Bool :=
  decide ((s.digest.cores.get 4).st ≠ .inService) && decide ((s.digest.cores.get 5).st ≠ .inService)

/-- A service core is in service. -/
def State.svcUp (s : State) : Bool := !s.logSusp

/-! ### Commits of the module's own (R94) -/

/-- A record of the module's own enters the pending queue, or is lost (R94). Its body is what the record holds when it is
granted. -/
def pend (c : Commit) (s : State) : State :=
  if s.lining.pending.length < 15 then modLining (fun l => { l with pending := l.pending ++ [c] }) s
  else raise 0xF012 s

/-- The record of a unit's class, after a retirement or a tearing (R165, R253). -/
def pendRecord (r : RecId) : State → State := pend ⟨r, .empty, false, .retire, none⟩

/-! ### Faults of units (R163, R165 to R167, R527, R528) -/

/-- Begin a thread's 1024-sample test as a fresh test sequence (R148, R638). -/
def startShort (t : Thread) : State → State :=
  modThread t (fun x => { x with
    test := .short, testPos := 0, testBad := false, passed := false, rctCount := 0, aptCount := 0, aptPos := 0
    heldBack := [], driftPos := 0, driftOnes := 0, driftPairs := 0, estPos := 0, estOnes := 0
    estPairs := Vector.replicate 4 0, bits := [] })

/-- Start a unit's re-test. A bank is drained first (R255); a lane waits for its port's TRAIN; a thread under capture waits for
the capture's end (R136, R141). -/
def startRetest (u : UnitRef) (s : State) : State :=
  let s := modHealth u (fun h => { h with retest := true }) s
  match u with
  | .thread t => if s.capture.active && decide (s.capture.thread = t) then s else startShort t s
  | _ => s

/-- Event and sticky bit of a retirement. -/
def retireEvent (u : UnitRef) (s : State) : State :=
  match u with
  | .thread t => raiseD 0x5031 [BitVec.ofNat 8 t.val] (modFloor (fun f => { f with evt := f.evt ||| 0x02 }) s)
  | .aes k => raiseD 0x1003 [BitVec.ofNat 8 k.val] (modFabric (fun f => { f with evt := f.evt ||| 0x2 }) s)
  | .sha k =>
    if k.val < 4 then raiseD 0x5051 [BitVec.ofNat 8 k.val] (modYoke (fun y => { y with evt := y.evt ||| 0x2 }) s)
    else raiseD 0x3003 [BitVec.ofNat 8 k.val] (modDigest (fun d => { d with evt := d.evt ||| 0x02 }) s)
  | .bank b => raiseD 0x2083 [BitVec.ofNat 8 b.val] (modPool (fun p => { p with evt := p.evt ||| 0x04 }) s)
  | .lane k => raiseA 0x9003 [BitVec.ofNat 8 k.val] (alertLane (if k.val < 8 then 0 else if k.val < 16 then 1 else 2)) s
  | .port p => raiseA 0x9004 [BitVec.ofNat 8 p.val] (alertLane p) s
  | .slot k => raiseS 0x4006 ⟨k.val / 4, by omega⟩ [BitVec.ofNat 8 k.val] s
  | .inst i k => raiseS 0x1006 i [BitVec.ofNat 8 k.val] s
  | .sleeve i => if i = 0 then raiseS 0x0024 i [] s else raiseS 0x0022 i [] s

/-- What a unit loses when it retires: a thread's test and hold, an instance's or a slot's state (R219, R462). -/
def dropTest (u : UnitRef) (s : State) : State :=
  match u with
  | .thread t => modThread t (fun x => { x with custHold := false, test := .none, passed := false }) s
  | .inst i k => modInst i k (fun x => { Inst.reset with health := x.health, owned := x.owned }) s
  | .slot k => modSlot k (fun x => { x with hash := 0, inner := [], outer := [] }) s
  | _ => s

/-- Retire a unit: fenced at once, journaled, with its event, and RETIRE_FINAL when its readmissions are used (R165, R170). -/
def retireUnit (u : UnitRef) (s : State) : State :=
  let final := decide (3 ≤ (s.health u).used)
  s |> modHealth u (fun h => { h with st := .retired, retest := false, unhandled := false, again := false })
    |> dropTest u
    |> retireEvent u
    |> when' final (fun t => raise 0x5033 (modFloor (fun f => { f with evt := f.evt ||| 0x04 }) t))
    |> pendRecord (unitRecord u)

/-! ### Ports and lanes (R369, R378) -/

/-- Physical lanes of a port, by lane number. -/
def portLanes (p : Fin 3) : List (Fin 8) := if p = 2 then (List.finRange 8).filter (fun l => l.val < 4) else List.finRange 8

/-- The port of a lane. -/
def portOfLane (k : Fin 20) : Fin 3 := if k.val < 8 then 0 else if k.val < 16 then 1 else 2

/-- A port becomes untrained (R369): the lane retrain of R311 begins. -/
def untrain (p : Fin 3) : State → State := modPort p (fun x => { x with trained := false })

/-- Retire a port with fewer than two good lanes (R378). -/
def checkPort (p : Fin 3) (s : State) : State :=
  let good := (portLanes p).filter (fun l => decide ((s.ports.lanes.get (laneFin p l)).health.st ≠ .retired))
  if good.length < 2 ∧ (s.ports.ports.get p).health.st ≠ .retired then retireUnit (.port p) (untrain p s) else s

/-- Retire a unit, and with a lane its port where too few lanes are left. -/
def retireNow (u : UnitRef) (s : State) : State :=
  match u with
  | .lane k => checkPort (portOfLane k) (retireUnit u s)
  | _ => retireUnit u s

/-- The unit is held in quarantine by the custodian (R166). -/
def State.custHeld (s : State) : UnitRef → Bool
  | .thread t => (s.thread t).custHold
  | _ => false

/-- The thread failed its full start-up test: it gets its one re-test, and the failure is no trip of R162 (R150). -/
def State.startupFailed (s : State) : UnitRef → Bool
  | .thread t => (s.thread t).secondTry
  | _ => false

/-- What the handler does when it takes in hand a unit's fault of Tally time `at_`: retire it, or count the fault and start its
re-test (R163, R167, R528). -/
def handleUnit (u : UnitRef) (at_ : Nat) (s : State) : State :=
  let h := s.health u
  if h.st = .quarantined ∧ h.unhandled = true then
    if s.custHeld u then modHealth u (fun h => { h with unhandled := false, again := false }) s
    else if h.again then retireNow u s
    else if s.startupFailed u then startRetest u (modHealth u (fun h => { h with unhandled := false }) s)
    else if isThird h at_ then retireNow u s
    else startRetest u (modHealth u (fun h => { noteFault at_ h with unhandled := false }) s)
  else s

/-- Act for the event that has just come into hand. -/
def handleHand (s : State) : State :=
  match s.log.hand with
  | some e => match e.unit with
    | some u => handleUnit u e.at_ s
    | none => s
  | none => s

/-- An event of the same unit still waits in the handler's queue or on its stack (R528). -/
def State.unitWaits (s : State) (u : UnitRef) : Bool :=
  (s.log.queue ++ s.log.stack).any (fun e => e.unit == some u)

/-- Tally time of the unit's fault that the handler has still to act on; now where none waits. -/
def State.faultAt (s : State) (u : UnitRef) : Nat :=
  (((s.log.hand.toList ++ s.log.queue ++ s.log.stack).find? (fun e => e.unit == some u)).map (·.at_)).getD s.now

/-- Give the event of a unit's fault to the handler, and act for it when it comes into hand at once. -/
def offerUnit (u : UnitRef) (code : BitVec 16) (src : Nat) (data : List Byte) (s : State) : State :=
  let e : Ev := { mkEv s code src data with unit := some u }
  let taken := match s.log.hand with
    | none => true
    | some h => decide (h.rank < e.rank)
  let t := (offer e s).1
  if taken then handleHand t else t

/-- A transient fault of a unit: the fence at once, the handling when the handler takes the event (R527, R528). A fault of a
unit in recovery whose first event still waits is merged into it. A fault of a retired unit changes nothing. -/
def faultUnit (u : UnitRef) (code : BitVec 16) (src : Nat) (data : List Byte) (s : State) : State :=
  match (s.health u).st with
  | .retired => s
  | .quarantined =>
    let held := s.custHeld u
    if s.unitWaits u && !held then modHealth u (fun h => { h with unhandled := true, again := true }) s
    else offerUnit u code src data (modHealth u (fun h => { h with unhandled := true, again := !held }) s)
  | .inService =>
    offerUnit u code src data
      (modHealth u (fun h => { h with st := .quarantined, retest := false, unhandled := true, again := false }) s)

/-- A unit that fails its re-test, or faults during it, is retired (R167). -/
def failRetest (u : UnitRef) : State → State := retireUnit u

/-- No fault met the unit's own re-test: none waits for the handler (R167, R528). -/
def State.recovers (s : State) (u : UnitRef) : Bool := !(s.health u).unhandled && !(s.health u).again

/-- A unit that passes its re-test returns to service; one that faulted meanwhile is retired, also where the handler has not yet
taken that fault (R167). -/
def passRetest (u : UnitRef) (s : State) : State :=
  if s.recovers u then modHealth u (fun h => { h with st := .inService, retest := false, unhandled := false, again := false }) s
  else failRetest u s

end Sys2Proof.Machine
end

