-- ==== Sys2Proof/Machine/Lining.lean ====
section
/-! DEFINITION. The lining's records as data: copies and generations, what a record's body holds, the energy check, and the
requests for journaled commits (chapter 16, R92 to R94). -/

namespace Sys2Proof.Machine

/-- E_avail in units of 0.01 mJ (R92): 0.85 × ½ × C × (V² − V_END²), 0 below V_END. -/
def State.eavail (s : State) : Nat :=
  s.supply.cap * (s.supply.hold10mV * s.supply.hold10mV - 1000000) * 425 / 100000000

/-- What PWR_EAV.EAVAIL shows: E_avail to the nearest 0.01 mJ, as the example of 3.6 step 4 shows it (DEDUCED, assumption
log 62). -/
def State.eavailShown (s : State) : Nat :=
  (s.supply.cap * (s.supply.hold10mV * s.supply.hold10mV - 1000000) * 425 + 50000000) / 100000000

/-- The energy check of R93: 4.0 mJ, not in ride-through, no HOLD_FAULT. -/
def State.energyOk (s : State) : Bool :=
  decide (400 ≤ s.eavail) && !s.supply.ride && !s.supply.holdFault

/-- Zeroization needs only E_COMMIT (R498). -/
def State.energyZeroize (s : State) : Bool := decide (250 ≤ s.eavail)

/-- Copy `b` is newer than copy `a` modulo 2^32 (R487). -/
def newer (a b : Word) : Bool := decide (1 ≤ (b - a).toNat) && decide ((b - a).toNat < 2 ^ 31)

/-- A copy is valid: its marker matches and its header tag verifies (R486). -/
def Copy.valid (c : Copy) : Bool := c.marker && c.headerOk

def Pair.fresh (r : RecId) : Pair := ⟨r, none, none, none, 0, false⟩

def State.pair (s : State) (r : RecId) : Pair := (s.lining.mram.find? (fun p => p.record == r)).getD (Pair.fresh r)

/-- Where a record stands in the MRAM list. -/
def recPlace : RecId → Nat
  | .inst i k => 4 * i.val + k.val
  | .slot k => 32 + k.val
  | .cmdKey i => 64 + i.val
  | .logKey => 72
  | .secretsEpoch => 73
  | .wrapEpoch i => 74 + i.val
  | .bootEpoch => 82
  | .route => 83
  | .quotas => 84
  | .credit => 85
  | .power => 86
  | .door => 87
  | .patch => 88
  | .poolHem => 89
  | .threads => 90
  | .aesCores => 91
  | .shaCores => 92
  | .banks b => 93 + b.val
  | .lanes => 109
  | .ports => 110
  | .slots => 111
  | .instances => 112
  | .sleeves => 113
  | .logRows => 114

/-- Put a pair of locations in its place: the list has each record once, in rising order. -/
def insertPair (p : Pair) : List Pair → List Pair
  | [] => [p]
  | q :: r =>
    if recPlace p.record < recPlace q.record then p :: q :: r
    else if recPlace p.record = recPlace q.record then p :: r
    else q :: insertPair p r

def setPair (p : Pair) : State → State := modLining (fun l => { l with mram := insertPair p l.mram })

/-- Valid copy of a location. -/
def validAt (c : Option Copy) : Option Copy := c.filter Copy.valid

/-- The newest generation held in a valid header of either location, 0 if none (R487). -/
def Pair.newestGen (p : Pair) : Word :=
  match validAt p.loc0, validAt p.loc1 with
  | some a, some b => if newer a.gen b.gen then b.gen else a.gen
  | some a, none => a.gen
  | none, some b => b.gen
  | none, none => 0

/-- The inactive location (R487): never the one in force; with none in force, the one not valid, or the older. -/
def Pair.inactive (p : Pair) : Fin 2 :=
  match p.inForce with
  | some 0 => 1
  | some _ => 0
  | none =>
    match validAt p.loc0, validAt p.loc1 with
    | some a, some b => if newer a.gen b.gen then 0 else 1
    | some _, none => 1
    | _, _ => 0

/-- The owning sleeve of a record whose body is wrapped under a sleeve key (Table 16-1). -/
def ownerOf : RecId → Option Sleeve
  | .inst i _ => some i
  | .slot k => some ⟨k.val / 4, by omega⟩
  | _ => none

/-- What a unit record keeps of a unit: only retirement outlives a power cycle (R165; DEDUCED, assumption log 6). -/
def recHealth (h : Health) : UnitState × Nat := (if h.st = .retired then .retired else .inService, h.used)

/-- The pocket-bank record's torn bits (Table 16-1). -/
def State.tornIn (s : State) (b : Fin 16) : List Nat :=
  ((List.range 256).map (fun k => b.val * 256 + k)).filter (fun p => s.pool.torn.getLsbD p)

/-- The body of a record as the state in force gives it. -/
def State.recordBody (s : State) (r : RecId) : Body :=
  let units (us : List UnitRef) : Body := .units (us.map (fun u => recHealth (s.health u)))
  match r with
  | .threads => units (allThreads.map .thread)
  | .aesCores => units (allFours.map .aes)
  | .shaCores => units ((List.finRange 6).map .sha)
  | .banks b =>
    .bank (recHealth (s.health (.bank b))) (s.tornIn b) (s.pool.tornUsed.filter (fun x => x.1 / 256 == b.val))
  | .lanes => units ((List.finRange 20).map .lane)
  | .ports => units ((List.finRange 3).map .port)
  | .slots => units ((List.finRange 32).map .slot)
  | .instances => units (allSleeves.flatMap (fun i => allFours.map (.inst i)))
  | .sleeves => units (allSleeves.map .sleeve)
  | .logRows => .rows s.log.spares s.log.fenced
  | .door => .door s.lining.act
  | .bootEpoch => .number s.lining.boot
  | .secretsEpoch => .number s.lining.secrets
  | .wrapEpoch i => .number (s.sleeve i).wrapEpoch
  | .route => .route s.ports.routes.toList
  | .quotas =>
    .quotas s.fabric.quota.toList s.fabric.pmax.toList (s.pool.per.toList.map (·.res)) (s.pool.per.toList.map (·.hems))
  | .poolHem => .ghem s.pool.ghem
  | .credit => .credit s.yoke.factors.toList s.floor.pct
  | .power => .power s.supply.policy
  | .patch => .patch s.ports.xip.recOffset s.ports.xip.recLen s.ports.xip.recVersion s.ports.xip.recTag
  | .logKey => .key s.log.keyOk
  | .inst i k => .inst (s.inst i k).owned (s.inst i k).key (s.inst i k).v
  | .slot k => .slot (s.slot k).hash (s.slot k).inner (s.slot k).outer
  | .cmdKey i => .cmdKey (s.sleeve i).cmdKey.inner (s.sleeve i).cmdKey.outer

/-- A command's commit joins those that wait for the journal writer (R93). -/
def requestCommit (c : Commit) : State → State := modLining (fun l => { l with waiting := l.waiting ++ [c] })

/-- The copy that a commit writes (Table 16-3): one more than the newest valid generation, under the present epochs. -/
def State.newCopy (s : State) (c : Commit) : Copy where
  gen := (s.pair c.record).newestGen + 1
  owned := c.owned
  secrets := s.lining.secrets
  wrap := match ownerOf c.record with
    | some i => (s.sleeve i).wrapEpoch
    | none => 0
  body := c.body
  marker := true
  headerOk := true
  bodyOk := true

/-- Step 5 of Table 16-4: the new copy is valid and in force. -/
def writeCopy (c : Commit) (s : State) : State :=
  let p := s.pair c.record
  let new := s.newCopy c
  let p' : Pair :=
    if p.inactive = 0 then { p with loc0 := some new, inForce := some 0, fails := 0 }
    else { p with loc1 := some new, inForce := some 1, fails := 0 }
  setPair p' s

end Sys2Proof.Machine
end

