-- ==== Sys2Proof/Machine/Pool.lean ====
section
/-! DEFINITION. The pocket pool (chapter 8): counts, bookings, claims, frees, hems and back-pressure. -/

namespace Sys2Proof.Machine

def bankOf (p : Nat) : Fin 16 := ⟨p / 256 % 16, Nat.mod_lt _ (by decide)⟩

def setPBit (m : BitVec 4096) (p : Nat) : BitVec 4096 := m ||| BitVec.twoPow 4096 p
def clearPBit (m : BitVec 4096) (p : Nat) : BitVec 4096 := m &&& ~~~ BitVec.twoPow 4096 p

/-- Torn pockets of a bank. -/
def Pool.tornCount (p : Pool) (b : Fin 16) : Nat :=
  if p.torn = 0 then 0 else ((List.range 256).filter (fun k => p.torn.getLsbD (b.val * 256 + k))).length

/-- P of R242: in-service pockets. -/
def Pool.inService (p : Pool) : Nat :=
  ((List.finRange 16).map (fun b => if (p.banks.get b).masked then 0 else 256 - p.tornCount b)).sum

/-- Free pockets. -/
def Pool.freeCount (p : Pool) : Nat := ((List.range 4096).filter (fun k => p.free.getLsbD k)).length

/-- The set reservation: 256 where the record restored as 0 (R243). -/
def PoolSleeve.setRes (x : PoolSleeve) : Nat := if x.res = 0 then 256 else x.res

/-- The reservation under a cut (R248). -/
def PoolSleeve.resAt (x : PoolSleeve) (cut : Nat) : Nat := max 16 (x.setRes - cut)

/-- R_s: the effective reservation. -/
def Pool.resOf (p : Pool) (i : Sleeve) : Nat := (p.per.get i).resAt p.cut

def Pool.resSum (p : Pool) (cut : Nat) : Nat := (p.per.toList.map (fun x => x.resAt cut)).sum

/-- S: the shared remainder, 0 while it is negative. -/
def Pool.shared (p : Pool) : Nat := p.inService - p.resSum p.cut

/-- F_sh: free shared pockets (R242). -/
def Pool.freeShared (p : Pool) : Nat :=
  p.shared - (allSleeves.map (fun i => (p.per.get i).usedCnt - p.resOf i)).sum

/-- A_s: pockets available to a sleeve (R242). -/
def Pool.avail (p : Pool) (i : Sleeve) : Nat := (p.resOf i - (p.per.get i).usedCnt) + p.freeShared

/-- Hems: a word restored as all zeros means 16, 64 and 128 (Table 8-3). -/
def PoolSleeve.hemFloor (x : PoolSleeve) : Nat := if x.hems = 0 then 16 else field x.hems 0 10
def PoolSleeve.hemLow (x : PoolSleeve) : Nat := if x.hems = 0 then 64 else field x.hems 10 10
def PoolSleeve.hemHigh (x : PoolSleeve) : Nat := if x.hems = 0 then 128 else field x.hems 20 11

/-- The global pool hem, 128 by default (R252). -/
def Pool.hem (p : Pool) : Nat := if p.ghem = 0 then 128 else p.ghem

/-- The least multiple of 16 that brings S to 0 or more, no reservation below 16 (R248). -/
def Pool.neededCut (p : Pool) : Nat :=
  16 * ((List.range 127).find? (fun k => decide (p.resSum (16 * k) ≤ p.inService))).getD 127

/-- Judge one sleeve's hems after a change of counts (R249 to R251). -/
def judgeSleeve (i : Sleeve) (s : State) : State :=
  let x := s.pool.per.get i
  let a := s.pool.avail i
  let s :=
    if x.hemHigh ≤ a then
      s |> when' x.bp (fun t => raiseS 0x2086 i [] (modPS i (fun y => { y with bp := false }) t))
        |> modPS i (fun y => { y with low := false })
    else s
  let x := s.pool.per.get i
  let s :=
    if !x.bp && decide (s.pool.resOf i ≤ x.usedCnt) && decide (a ≤ x.hemFloor) then
      raiseS 0x2085 i [] (modPS i (fun y => { y with bp := true, evt := y.evt ||| 2 }) s)
    else s
  if !x.low && decide (a ≤ x.hemLow) then
    let s := modPS i (fun y => { y with low := true, evt := y.evt ||| 1 }) s
    let r := offer (mkEv s 0x2084 i.val []) s
    if r.2 then alert i 0x04 r.1 else r.1
  else s

/-- Judge the global pool hem (R252). -/
def judgeGlobal (s : State) : State :=
  let f := s.pool.freeShared
  if !s.pool.glow && decide (f ≤ s.pool.hem) then
    raiseA 0x2087 [] (alert 0 0x02) (modPool (fun p => { p with glow := true, evt := p.evt ||| 0x08 }) s)
  else if s.pool.glow && decide (s.pool.hem + 64 ≤ f) then modPool (fun p => { p with glow := false }) s
  else s

/-- After every change of U_s or F_sh: every sleeve and the global hem are judged in the same action (R250). -/
def judge (s : State) : State := judgeGlobal (forAll allSleeves judgeSleeve s)

/-- After a change of P: reservations are cut or restored, and hems judged (R248). -/
def recut (s : State) : State :=
  let c := s.pool.neededCut
  let up := decide (s.pool.cut < c)
  let s := modPool (fun p => { p with cut := c, evt := if up then p.evt ||| 0x10 else p.evt }) s
  judge (if up then raiseA 0x2088 [] (alert 0 0x02) s else s)

/-- A booking of `k` pockets is allowed (R245). -/
def Pool.mayBook (p : Pool) (i : Sleeve) (k : Nat) : Bool :=
  let x := p.per.get i
  let e := (x.usedCnt + k - p.resOf i) - (x.usedCnt - p.resOf i)
  decide (e = 0) || (!x.bp && decide (x.hemFloor + e ≤ p.freeShared))

/-- Add to U_s and judge. -/
def addUsed (i : Sleeve) (k : Nat) (s : State) : State :=
  judge (modPS i (fun x => { x with usedCnt := x.usedCnt + k }) s)

/-- Take from U_s and judge. -/
def subUsed (i : Sleeve) (k : Nat) (s : State) : State :=
  if k = 0 then s else judge (modPS i (fun x => { x with usedCnt := x.usedCnt - k }) s)

/-- Insert a claimed pocket in index order. -/
def insertPocket (x : Pocket) : List Pocket → List Pocket
  | [] => [x]
  | y :: r => if x.index < y.index then x :: y :: r else y :: insertPocket x r

/-- The first set bit of the bitmap at or above `k`, among `n` bits. -/
def firstFree (free : BitVec 4096) : Nat → Nat → Option Nat
  | 0, _ => none
  | n + 1, k => if free.getLsbD k then some k else firstFree free n (k + 1)

/-- The lowest-numbered free pocket (R239). -/
def Pool.lowestFree (p : Pool) : Option Nat := firstFree p.free 4096 0

/-- Claim the lowest free pocket for a sleeve (R236, R239): the search and the clearing of its bit are one action. -/
def claimPocket (i : Sleeve) (s : State) : Option (Nat × State) :=
  match s.pool.lowestFree with
  | none => none
  | some k =>
    some (k, modPool (fun p => { p with
      free := clearPBit p.free k
      claimed := insertPocket ⟨k, i, [], false⟩ p.claimed }) s)

def State.pocket (s : State) (k : Nat) : Option Pocket := s.pool.claimed.find? (fun x => x.index == k)

/-- Write a claimed pocket's bytes. -/
def fillPocket (k : Nat) (bs : List Byte) : State → State :=
  modPool (fun p => { p with claimed := p.claimed.map (fun x => if x.index = k then { x with bytes := bs, filled := true } else x) })

/-- Give up claimed pockets: they are cleared, and each waits for its free (R238, R240, R247). -/
def releasePockets (ks : List Nat) : State → State :=
  modPool (fun p => { p with
    claimed := p.claimed.filter (fun x => !ks.contains x.index)
    clearing := p.clearing ++ (p.claimed.filter (fun x => ks.contains x.index)).map (fun x => (x.index, x.owner)) })

/-- Bytes of a list of pockets of a sleeve, in order; a pocket that is lost, or that another sleeve owns, reads zero (R236,
R253). -/
def State.pocketBytes (s : State) (i : Sleeve) (ks : List Nat) : List Byte :=
  ks.flatMap (fun k => match s.pocket k with
    | some x => if x.owner = i then x.bytes else List.replicate 64 0
    | none => List.replicate 64 0)

/-- The bank holds no pocket in use. -/
def Pool.bankIdle (p : Pool) (b : Fin 16) : Bool :=
  !(p.claimed.any (fun x => bankOf x.index == b)) && !(p.clearing.any (fun x => bankOf x.1 == b))

/-- Bits of a bank's untorn pockets that nothing uses. -/
def Pool.bankFree (p : Pool) (b : Fin 16) : List Nat :=
  ((List.range 256).map (fun k => b.val * 256 + k)).filter
    (fun k => !p.torn.getLsbD k && !p.claimed.any (fun x => x.index == k) && !p.clearing.any (fun x => x.1 == k))

/-- Mask a bank: its free pockets leave the store and P falls (R255 step 1). -/
def maskBank (b : Fin 16) (s : State) : State :=
  if (s.pool.banks.get b).masked then s
  else
    s |> modPool (fun p => { p with free := (p.bankFree b).foldl clearPBit p.free })
      |> modBank b (fun x => { x with masked := true, since := s.now, scrub := false })
      |> recut

/-- Return a bank's untorn pockets (R255 step 3). -/
def unmaskBank (b : Fin 16) (s : State) : State :=
  s |> modBank b (fun x => { x with masked := false, scrub := false, errors := [] })
    |> modPool (fun p => { p with free := (p.bankFree b).foldl setPBit p.free })
    |> recut

/-- Every bank is fenced: requests that need pockets are answered FENCED (8.5.3). -/
def Pool.allFenced (p : Pool) : Bool := p.banks.toList.all (·.masked)

end Sys2Proof.Machine
end

