-- ==== Sys2Proof/Machine/Reply.lean ====
section
/-! DEFINITION. Replies: their bytes, seals, the replay cache, and how a command ends (10.1.2, 10.3 to 10.5, 21.2). -/

namespace Sys2Proof.Machine

/-- Status codes (Table 10-4). -/
abbrev stOk : Byte := 0x00
abbrev stAccepted : Byte := 0x01
abbrev stBusy : Byte := 0x02
abbrev stNotReady : Byte := 0x03
abbrev stBadOpcode : Byte := 0x10
abbrev stBadLength : Byte := 0x11
abbrev stNotOwner : Byte := 0x12
abbrev stAuthFail : Byte := 0x13
abbrev stReplay : Byte := 0x14
abbrev stQuota : Byte := 0x15
abbrev stNoEntropy : Byte := 0x16
abbrev stFenced : Byte := 0x17
abbrev stTimeout : Byte := 0x18
abbrev stPowerDenied : Byte := 0x19
abbrev stNotCommitted : Byte := 0x1A
abbrev stAccessFault : Byte := 0x1B
abbrev stInternal : Byte := 0x20

/-- The executed statuses; every other is a refusal (R290, Table 10-4). -/
def executed (st : Byte) : Bool := [stOk, stAccepted, stTimeout, stNotCommitted, stInternal].contains st

/-- PAYLEN of a reply. -/
def Reply.paylen (r : Reply) : Nat := r.payload.length + r.pocketLen

/-- Reply bytes 0 to 6 (Table 10-2). -/
def Reply.head7 (r : Reply) (sealed : Bool) : List Byte :=
  [r.status, BitVec.ofNat 8 (r.tag.toNat + 128 * bit sealed)] ++ natBytes 3 r.paylen ++ natBytes 2 (r.seq.toNat % 65536)

/-- Reply byte 7 (Table 10-2). -/
def Reply.byte7 (r : Reply) : Byte :=
  BitVec.ofNat 8 (r.retry % 4 + 4 * bit r.frozen + 8 * bit r.cached + 16 * bit r.gone + 32 * bit r.noseal)

/-- Payload bytes: reply storage, then pockets cut to their length (R285, R286). -/
def State.replyPayload (s : State) (i : Sleeve) (r : Reply) : List Byte := r.payload ++ (s.pocketBytes i r.pockets).take r.pocketLen

/-- A reply as it is shifted out (R405), before padding. -/
def State.replyBytes (s : State) (i : Sleeve) (r : Reply) : List Byte :=
  r.head7 (!r.sealTag.isEmpty) ++ [r.byte7] ++ s.replyPayload i r ++ r.sealTag

/-- The seal of a reply (R298). -/
def State.replySeal (s : State) (i : Sleeve) (key : List Byte × List Byte) (r : Reply) : List Byte :=
  (hmacWith 0 key.1 key.2
    (wordBytes s.lining.boot ++ wordBytes (s.sleeve i).epoch ++ wordBytes r.seq ++ r.head7 true ++ s.replyPayload i r)).take 16

/-- The sleeve's command key states (R293). -/
def State.cmdKeyOf (s : State) (i : Sleeve) : Option (List Byte × List Byte) :=
  let k := (s.sleeve i).cmdKey
  if k.present then some (k.inner, k.outer) else none

/-- Reply places reserved by a sleeve's commands (R605, Table 21-2). -/
def State.resv (s : State) (i : Sleeve) : Nat := (s.cmds.filter (fun c => c.sl == i)).length

def State.findCmd (s : State) (id : Nat) : Option Cmd := s.cmds.find? (fun c => c.id == id)

def dropCmd (id : Nat) (s : State) : State := { s with cmds := s.cmds.filter (fun c => c.id != id) }

def modCmd (id : Nat) (f : Cmd → Cmd) (s : State) : State :=
  { s with cmds := s.cmds.map (fun c => if c.id = id then f c else c) }

/-- Post a reply into its sleeve's reply queue. -/
def post (i : Sleeve) (r : Reply) : State → State := modSleeve i (fun x => { x with replies := x.replies ++ [r] })

/-- At most once per sleeve in each second of Tally time (R315). -/
def everySecond (last : Option Nat) (now : Nat) : Bool :=
  match last with
  | none => true
  | some t => decide (1000000 ≤ now - t)

/-- Counters and events of a refusal as AUTH_FAIL or REPLAY (Table 10-6, R315). -/
def noteStatus (i : Sleeve) (st : Byte) (s : State) : State :=
  if st = stAuthFail then
    let s := modSleeve i (fun x => { x with authf := satAdd 8 x.authf 1 }) s
    if everySecond (s.sleeve i).lastAuth s.now then
      raiseS 0x0010 i [] (modSleeve i (fun x => { x with lastAuth := some s.now }) s)
    else s
  else if st = stReplay then
    let s := modSleeve i (fun x => { x with replay := satAdd 8 x.replay 1 }) s
    if everySecond (s.sleeve i).lastReplay s.now then
      raiseS 0x0011 i [] (modSleeve i (fun x => { x with lastReplay := some s.now }) s)
    else s
  else s

/-- The command's end in the cache: kept with its reply when executed, removed and its number unmarked when refused, also where
later commands have dropped its entry (R302, R304). -/
def settleCache (c : Cmd) (r : Reply) : State → State :=
  modSleeve c.sl (fun x =>
    if executed r.status then
      { x with cache := x.cache.map (fun e => if e.cmd = c.id then { e with reply := some r } else e) }
    else
      { x with
        consumed := if c.accepted then x.consumed.filter (· != c.seq) else x.consumed
        cache := x.cache.filter (fun e => e.cmd != c.id) })

/-- The reply of a command, before its seal. -/
def replyFor (c : Cmd) (st : Byte) (payload : List Byte) (pockets : List Nat) (plen : Nat) : Reply where
  cmd := c.id
  status := st
  tag := c.tag
  seq := c.seq
  retry := c.retry
  frozen := c.frozen
  cached := false
  gone := false
  noseal := false
  payload := if c.echo then c.header ++ payload else payload
  pockets := pockets
  pocketLen := plen
  sealTag := []

/-- Seal a reply that asks for it, under a key, or mark NOSEAL (R298, R300). -/
def State.sealReply (s : State) (i : Sleeve) (wanted : Bool) (key : Option (List Byte × List Byte)) (r : Reply) : Reply :=
  if wanted then
    match key with
    | some k => { r with sealTag := s.replySeal i k r }
    | none => { r with noseal := true }
  else r

/-- End a command: its reply is posted, its reservation becomes the reply, its cache entry is settled (R302, R310, R605).
A command already ended or withdrawn gets no second reply. -/
def answerWith (key : Option (List Byte × List Byte)) (id : Nat) (st : Byte) (payload : List Byte) (pockets : List Nat)
    (plen : Nat) (s : State) : State :=
  match s.findCmd id with
  | none => s
  | some c =>
    let r := s.sealReply c.sl c.sealed key (replyFor c st payload pockets plen)
    dropCmd id s |> post c.sl r |> settleCache c r |> noteStatus c.sl st

/-- End a command, its seal under the sleeve's command key as it stands (R300). -/
def answerP (id : Nat) (st : Byte) (payload : List Byte) (pockets : List Nat) (plen : Nat) (s : State) : State :=
  match s.findCmd id with
  | none => s
  | some c => answerWith (s.cmdKeyOf c.sl) id st payload pockets plen s

/-- End a command with a payload in reply storage. -/
def answer (id : Nat) (st : Byte) (payload : List Byte) : State → State := answerP id st payload [] 0

/-- End a command if there is one. -/
def answerOpt (id : Option Nat) (st : Byte) (payload : List Byte) (s : State) : State :=
  match id with
  | some k => answer k st payload s
  | none => s

/-- Replace a posted reply by an INTERNAL reply without payload, with the same tag, its pockets given up (R253). -/
def internalReply (i : Sleeve) (cmd : Nat) (s : State) : State :=
  match (s.sleeve i).replies.find? (fun r => r.cmd == cmd) with
  | none => s
  | some r =>
    let r' : Reply := { r with status := stInternal, payload := [], pockets := [], pocketLen := 0, sealTag := [] }
    let r' := s.sealReply i (!r.sealTag.isEmpty) (s.cmdKeyOf i) r'
    releasePockets r.pockets s
      |> modSleeve i (fun x => { x with
          replies := x.replies.map (fun q => if q.cmd = cmd then r' else q)
          cache := x.cache.map (fun e => if e.cmd = cmd then { e with reply := some r' } else e) })

end Sys2Proof.Machine
end

