-- ==== Sys2Proof/Machine/FabricOps.lean ====
section
/-! DEFINITION. The fabric's shared operations: tags, instance states, streams' chains, admission, the start of an instance's
head operation, arbitration order, and how an operation ends (chapters 7 and 9, 8.6). -/

namespace Sys2Proof.Machine

/-! ### Stream patterns (Table 9-2) -/

def patInst (w : Word) : BitVec 4 := w.extractLsb' 0 4
def patPr (w : Word) : Bool := w.getLsbD 4
def patSeal (w : Word) : Bool := w.getLsbD 5
def patKey (w : Word) : Fin 32 := ⟨field w 6 5 % 32, Nat.mod_lt _ (by decide)⟩
def patPush (w : Word) : Bool := w.getLsbD 11
def patFrame (w : Word) : Nat := if field w 12 4 = 0 then 16 else field w 12 4
def patDepth (w : Word) : Nat :=
  let d := field w 16 7
  if d = 0 then 16 else if d < 4 then 4 else if 64 < d then 64 else d
def patReq (w : Word) : Nat :=
  let r := field w 0 11
  if r = 0 then 16 else if 1024 < r then 1024 else r

/-! ### Chains and frames (8.6, R256) -/

/-- The mark left in a chain by a dropped frame, whose counter value is skipped (R612). -/
def tombstone (pat : Word) : Place := ⟨4096, true, pat, 0⟩

def Place.dropped (p : Place) : Bool := p.pocket == 4096

/-- The place was assigned at a grant whose claim still stalls (R241, R256). -/
def Place.unclaimed (p : Place) : Bool := p.pocket == 4097

/-- Cut a chain into frames from its head; the last may be incomplete. -/
def cutFrames : Nat → List Place → List (List Place)
  | 0, _ => []
  | _, [] => []
  | n + 1, p :: r =>
    let k := if p.dropped then 1 else patFrame p.pat0
    (p :: r).take k :: cutFrames n ((p :: r).drop k)

def Stream.frames (x : Stream) : List (List Place) := cutFrames x.chain.length x.chain

/-- A frame has every place assigned. -/
def wholeFrame (f : List Place) : Bool :=
  match f with
  | [] => false
  | p :: _ => p.dropped || decide (f.length = patFrame p.pat0)

/-- The chain stands at a frame boundary (R36). -/
def Stream.atBoundary (x : Stream) : Bool := x.frames.all wholeFrame

/-- Assigned places, dropped frames aside (R257). -/
def Stream.assigned (x : Stream) : Nat := (x.chain.filter (fun p => !p.dropped)).length

/-- The seal key that a pattern names resolves for a sleeve (R274, Table 9-4). -/
def State.sealKeyFor (s : State) (i : Sleeve) (pat : Word) : Option (List Byte × List Byte) :=
  let k := patKey pat
  let x := s.slot k
  if decide (k.val / 4 = i.val) && x.owned && decide (x.hash = 1) && decide (x.health.st = .inService) then
    some (x.inner, x.outer)
  else none

/-- The frames of a chain with their record numbers. -/
def Stream.numbered (x : Stream) : List (BitVec 64 × List Place) := x.frames.mapIdx (fun j f => (x.record + BitVec.ofNat 64 j, f))

def Stream.sealOf (x : Stream) (r : BitVec 64) : Option Seal := x.seals.find? (fun z => z.record == r)

/-- The tag of a record's seal, once it is complete. -/
def Stream.sealTag (x : Stream) (r : BitVec 64) : Option (List Byte) := (x.sealOf r).bind (·.tag)

/-- A record's seal is complete with a tag, or starts again; a record that was claimed has no seal left (Table 15-2). -/
def putTag (r : BitVec 64) (tag : Option (List Byte)) (x : Stream) : Stream :=
  { x with seals := x.seals.map (fun z => if z.record == r then { z with tag := tag } else z) }

/-- Every pocket of a frame is filled, and it was not dropped. -/
def builtFrame (f : List Place) : Bool := wholeFrame f && f.all (fun p => p.filled && !p.dropped)

/-- A record is sealed (Table 9-2). -/
def sealedFrame (f : List Place) : Bool := f.any (fun p => patSeal p.pat0)

/-- Seals that start: of every record whose first pocket is filled (R475; DEDUCED, assumption log 83). -/
def State.newSeals (s : State) (i : Sleeve) (k : Fin 4) : List Seal :=
  let x := (s.sleeve i).streams.get k
  x.numbered.filterMap (fun q => match q.2.head? with
    | some p => if p.filled && !p.dropped && patSeal p.pat0 && (x.sealOf q.1).isNone then
        some ⟨q.1, s.sealKeyFor i p.pat0, none⟩ else none
    | none => none)

/-- A built frame whose seal key did not resolve: it is dropped unsealed (Table 9-4). -/
def Stream.unsealable (x : Stream) (q : BitVec 64 × List Place) : Bool :=
  builtFrame q.2 && (match x.sealOf q.1 with
    | some z => z.key.isNone
    | none => false)

/-- A lane that fills a pocket which is lost goes on, and its output is discarded. -/
def loseLane (ps : List Nat) : State → State :=
  modFabric (fun f => { f with cores := f.cores.map (fun c => match c.counter with
    | .pocket o p => if ps.contains p then { c with counter := .pocket o 4096 } else c
    | _ => c) })

/-- Give up frames of a chain: their pockets are freed, and a mark is left for the counter value that is skipped. A pocket of
them that a lane still fills is lost to that lane. -/
def giveUpFrames (i : Sleeve) (k : Fin 4) (bad : BitVec 64 × List Place → Bool) (s : State) : State :=
  let x := (s.sleeve i).streams.get k
  let hit := x.numbered.filter bad
  let ps := ((hit.flatMap (·.2)).filter (fun p => !p.dropped)).map (·.pocket)
  if hit.isEmpty then s
  else
    s |> releasePockets ps
      |> loseLane ps
      |> modStream i k (fun y => { y with
          chain := y.numbered.flatMap (fun q => if bad q then (q.2.take 1).map (fun p => tombstone p.pat0) else q.2)
          seals := y.seals.filter (fun z => !((hit.map (·.1)).contains z.record)) })

/-- Pass over dropped frames at the head of a chain: each uses its counter value (R417, R612). -/
def passDropped (i : Sleeve) (k : Fin 4) : State → State :=
  modStream i k (fun y => { y with
    chain := y.chain.dropWhile Place.dropped
    record := y.record + BitVec.ofNat 64 (y.chain.takeWhile Place.dropped).length })

/-- Settle a stream's chain: start the seals that are due, drop built frames whose seal key does not resolve, and pass over dropped
frames at the head (R475, Table 9-4). -/
def settleChain (i : Sleeve) (k : Fin 4) (s : State) : State :=
  let s := modStream i k (fun y => { y with seals := y.seals ++ s.newSeals i k }) s
  passDropped i k (giveUpFrames i k ((s.sleeve i).streams.get k).unsealable s)

/-- A record is ready: built, and sealed where its pattern says so (R258, R475). -/
def Stream.frameReady (x : Stream) (q : BitVec 64 × List Place) : Bool :=
  builtFrame q.2 && (!sealedFrame q.2 || (x.sealTag q.1).isSome)

/-- The head record is ready (R258, R475). -/
def Stream.headReady (x : Stream) : Bool :=
  match x.frames with
  | [] => false
  | f :: _ => x.frameReady (x.record, f)

/-- Whole records ready in the chain, saturating at 15 (Table 21-4); a dropped frame between them is passed over. -/
def Stream.ready (x : Stream) : Nat :=
  min 15 ((x.numbered.filter (fun q => !q.2.any Place.dropped)).takeWhile x.frameReady).length

/-- Drop whole every frame of a chain that holds a place for which `bad` holds; its value is skipped (R209, R253). -/
def dropFrames (i : Sleeve) (k : Fin 4) (bad : Place → Bool) (s : State) : State :=
  settleChain i k (giveUpFrames i k (fun q => q.2.any bad) s)

/-! ### Tags (7.5.1) -/

def Fabric.quotaOf (f : Fabric) (i : Sleeve) : Nat := if f.quota.get i = 0 then 16 else f.quota.get i

/-- PMAX: 0 is the default, 3 for S0 and 2 otherwise (Table 7-6). -/
def Fabric.pmaxOf (f : Fabric) (i : Sleeve) : Nat :=
  if f.pmax.get i = 0 then (if i = 0 then 3 else 2) else f.pmax.get i

def Fabric.freeTags (f : Fabric) : Nat := 128 - f.held.toList.sum

/-- The reserve of R224: two tags for every other sleeve. -/
def Fabric.reserve (f : Fabric) (i : Sleeve) : Nat :=
  ((allSleeves.filter (fun j => j ≠ i)).map (fun j => 2 - f.held.get j)).sum

/-- Whether `k` tags can be taken: none, or the refusal of R225. -/
def Fabric.tagRefusal (f : Fabric) (i : Sleeve) (k : Nat) : Option Byte :=
  if k = 0 then none
  else if f.quotaOf i < f.held.get i + k then some stQuota
  else if f.freeTags < k + f.reserve i then some stBusy
  else none

/-- A BUSY refusal sets SHORT, counts, and writes 0x1013 once for each episode (R225). -/
def noteTagBusy (s : State) : State :=
  let s' := modFabric (fun f => { f with busyRef := satAdd 16 f.busyRef 1, short := true }) s
  if s.fabric.short then s' else raise 0x1013 (modFabric (fun f => { f with evt := f.evt ||| 8 }) s')

def takeTags (i : Sleeve) (k : Nat) : State → State :=
  modFabric (fun f => { f with held := vmod f.held i (· + k) })

/-- Release tags; the short episode ends when 16 are free (R225). -/
def releaseTags (i : Sleeve) (k : Nat) : State → State :=
  modFabric (fun f =>
    let g := { f with held := vmod f.held i (· - k) }
    { g with short := g.short && decide (g.freeTags < 16) })

/-! ### Instances (7.3) -/

def Inst.fenced (x : Inst) : Bool := decide (x.health.st ≠ .inService)

/-- The state of Table 7-3. -/
def Inst.code (x : Inst) : Nat :=
  match x.health.st with
  | .retired => 5
  | .quarantined => 4
  | .inService =>
    if !x.owned then 0
    else if x.reseedReq then 2
    else if 2 ^ 20 ≤ x.belowCount then 3
    else 1

/-- A generate on this instance first reseeds (R212). -/
def Inst.needsReseed (x : Inst) (pr : Bool) : Bool := pr || x.reseedReq || decide (2 ^ 32 < x.counter)

/-- No AES core is in service. -/
def State.noAes (s : State) : Bool := allFours.all (fun k => !(s.fabric.cores.get k).health.inSvc)

/-! ### Operations -/

def State.findOp (s : State) (id : Nat) : Option Op := s.fabric.ops.find? (fun o => o.id == id)
def modOp (id : Nat) (f : Op → Op) : State → State :=
  modFabric (fun x => { x with ops := x.ops.map (fun o => if o.id = id then f o else o) })

def Op.isStream (o : Op) : Bool := match o.kind with
  | .stream _ => true
  | _ => false

/-- Pockets an operation books (R244). -/
def Op.needs (o : Op) : Nat := match o.kind with
  | .generate | .generatePr | .getSeed | .stream _ => (o.nbytes + 63) / 64
  | _ => 0

/-- The operation generates output. -/
def Op.generates (o : Op) : Bool := match o.kind with
  | .generate | .generatePr | .stream _ => true
  | _ => false

/-- A stream's request can be granted now: its instance resolves (R274, Table 9-4). -/
def State.streamResolves (s : State) (o : Op) : Bool :=
  let x := s.inst o.sl o.inst
  let reseeds := x.needsReseed o.pr
  x.owned && !x.fenced && !s.noAes && !(reseeds && s.floor.below) && !(!reseeds && decide (2 ^ 20 ≤ x.belowCount))

/-- An operation of a stream that has begun nothing and does not resolve holds no place in its instance's order. -/
def State.idleStream (s : State) (o : Op) : Bool :=
  o.isStream && decide (o.phase = .queued) && !s.streamResolves o

/-- The operation uses this one's instance. -/
def Op.shares (o p : Op) : Bool := p.sl == o.sl && p.inst == o.inst && decide (p.kind ≠ .getSeed)

/-- The head operation of its instance (R227): the one that has begun, since one runs at a time (R222), else the first. A
GET_SEED uses no instance. -/
def State.isHead (s : State) (o : Op) : Bool :=
  decide (o.kind = .getSeed) ||
  match s.fabric.ops.find? (fun p => o.shares p && decide (p.phase ≠ .queued)) with
  | some p => p.id == o.id
  | none =>
    match s.fabric.ops.find? (fun p => o.shares p && !s.idleStream p) with
    | some p => p.id == o.id
    | none => false

/-- Work on either lane of any core belongs to this operation. -/
def LaneWork.op : LaneWork → Option Nat
  | .idle => none
  | .pocket k _ => some k
  | .update k => some k

def State.onLane (s : State) (id : Nat) : Bool :=
  allFours.any (fun k => (s.fabric.cores.get k).counter.op == some id || (s.fabric.cores.get k).update.op == some id)

/-- A drawer leaves its round; a round that is left empty is over (R197). -/
def Fabric.dropDrawer (f : Fabric) (id : Nat) : Fabric :=
  let now := f.drawers.filter (· != id)
  let next := f.drawersNext.filter (· != id)
  if now.isEmpty then { f with drawers := next, drawersNext := [], served := [] } else { f with drawers := now, drawersNext := next }

/-- Take an operation out of the fabric: lanes, drawers and stalled claims forget it, its unclaimed booking is returned, and
a command's tag is released (R223, R247). -/
def removeOp (id : Nat) (s : State) : State :=
  match s.findOp id with
  | none => s
  | some o =>
    let clearLane (w : LaneWork) : LaneWork := if w.op == some id then .idle else w
    let s := modFabric (fun f => { f.dropDrawer id with
      ops := f.ops.filter (fun p => p.id != id)
      claims := f.claims.filter (fun c => c.op != id)
      cores := f.cores.map (fun c => { c with counter := clearLane c.counter, update := clearLane c.update }) }) s
    let s := subUsed o.sl o.booked s
    match o.kind with
    | .stream _ | .uninstantiate => s
    | _ => releaseTags o.sl 1 s

/-- Give up the pocket that a lane is filling for an operation, where it is not in the operation's own list. -/
def lanePockets (s : State) (id : Nat) : List Nat :=
  (allFours.filterMap (fun k => match (s.fabric.cores.get k).counter with
    | .pocket o p => if o = id then some p else none
    | _ => none))

/-- The instance after work on it was cut off: reseed-required, or cleared where it was not yet instantiated (R209, R308). -/
def spoilInst (i : Sleeve) (k : Fin 4) : State → State :=
  modInst i k (fun x => if x.owned then { x with reseedReq := true } else { x with key := 0, v := 0, counter := 0 })

/-- Add a stream's next request on one of its instances (R264). -/
def newRequest (i : Sleeve) (n : Fin 4) (k : Fin 4) (s : State) : State :=
  let x := (s.sleeve i).streams.get n
  let o : Op :=
    { id := s.fabric.nextOp, sl := i, inst := k, kind := .stream n, addl := [], addlNow := none, nbytes := 64 * patReq x.pat1
      urgent := false, pr := patPr x.pat0, cmd := none, phase := .queued, began := false, passedOver := 0, booked := 0
      pockets := [], made := 0, seed := [], leaving := false }
  modFabric (fun f => { f with ops := f.ops ++ [o], nextOp := f.nextOp + 1 }) s

/-- End an operation that fails with work in progress (R209): its undelivered pockets are cleared, a command is answered
INTERNAL, its instance is reseed-required, and a stream drops the frames that hold its pockets and asks again. -/
def failOp (id : Nat) (s : State) : State :=
  match s.findOp id with
  | none => s
  | some o =>
    let lane := lanePockets s id
    match o.kind with
    | .stream n =>
      let s := removeOp id s |> spoilInst o.sl o.inst |> releasePockets lane |> dropFrames o.sl n (fun p => p.op == id)
      if !o.leaving && ((s.sleeve o.sl).streams.get n).tags.getLsbD o.inst.val then newRequest o.sl n o.inst s else s
    | .getSeed => removeOp id s |> releasePockets (o.pockets ++ lane) |> answerOpt o.cmd stInternal []
    | _ => removeOp id s |> spoilInst o.sl o.inst |> releasePockets (o.pockets ++ lane) |> answerOpt o.cmd stInternal []

/-- A reseed draw, an Update or output has begun (R326, R259). -/
def Op.begun (o : Op) : Bool := o.began || !o.seed.isEmpty

/-- Withdraw an operation without an answer; `worked` says whether its instance must be reseeded (R205, R259, R308). -/
def withdrawOp (id : Nat) (worked : Op → Bool) (s : State) : State :=
  match s.findOp id with
  | none => s
  | some o =>
    let lane := lanePockets s id
    let s := removeOp id s |> releasePockets (o.pockets ++ lane)
    if worked o && decide (o.kind ≠ .getSeed) && decide (o.kind ≠ .uninstantiate) then spoilInst o.sl o.inst s else s

/-- End an operation with an answer and no output. -/
def refuseOp (o : Op) (st : Byte) (s : State) : State := removeOp o.id s |> answerOpt o.cmd st []

/-! ### The reservoir's drawers (6.3) -/

/-- A draw finds the reservoir short: WAIT, event 0x5053 once for each episode, and the conditioning cores with staged
blocks run their tests (R192, R199). -/
def noteShort (s : State) : State :=
  let was := s.yoke.short
  let s := modYoke (fun y => { y with
    short := true
    evt := if was then y.evt else y.evt ||| 4
    cores := y.cores.mapFinIdx (fun k c hk =>
      if (s.digest.cores.get ⟨k, by omega⟩).inSvc && !c.staged.isEmpty then { c with kat := true } else c) }) s
  if was then s else raise 0x5053 s

/-- Join the drawers: one that the present round has granted waits for the next (R197). -/
def joinDrawers (o : Op) (units : Nat) (s : State) : State :=
  let s := modFabric (fun f =>
    if f.served.contains o.id && !f.drawers.isEmpty then { f with drawersNext := f.drawersNext ++ [o.id] }
    else { f with drawers := f.drawers ++ [o.id] }) (modOp o.id (fun p => { p with phase := .draw }) s)
  if s.yoke.reservoir.length < units then noteShort s else s

/-- Units of an operation's next grant: 48 B for a seed, up to 64 B for GET_SEED (Table 6-2). -/
def Op.grantUnits (o : Op) : Nat := if o.kind = .getSeed then min 4 ((o.nbytes - o.made + 15) / 16) else 3

/-- A draw waits on a reservoir that holds fewer units than its grant (R192, R199). -/
def State.drawShort (s : State) : Bool :=
  (s.fabric.drawers ++ s.fabric.drawersNext).any (fun id => match s.findOp id with
    | some o => decide (s.yoke.reservoir.length < o.grantUnits)
    | none => false)

/-- A stream's request that had only booked waits again from its start (R177, Table 9-4). -/
def requeue (o : Op) (s : State) : State :=
  s |> subUsed o.sl o.booked
    |> modOp o.id (fun p => { p with phase := .queued, booked := 0 })
    |> modFabric (fun f => f.dropDrawer o.id)

/-! ### The head of an instance's order -/

/-- After its booking: a draw, the Update of the additional input, or the counter lane (R212, R227). -/
def afterBooking (o : Op) (s : State) : State :=
  match o.kind with
  | .getSeed => joinDrawers o o.grantUnits s
  | _ =>
    if (s.inst o.sl o.inst).needsReseed o.pr then joinDrawers o 3 s
    else if o.addlNow.isSome then modOp o.id (fun p => { p with phase := .updAddl }) s
    else modOp o.id (fun p => { p with phase := .output, passedOver := 0 }) s

/-- Book and go on, or wait (R244, R245). -/
def tryBook (o : Op) (s : State) : State :=
  if s.pool.mayBook o.sl o.needs then
    afterBooking o (modOp o.id (fun p => { p with booked := o.needs }) (addUsed o.sl o.needs s))
  else modOp o.id (fun p => { p with phase := .booking }) s

/-- A generate request refused below the floor or on an exhausted instance: event 0x5042 once for each instance (R177, R178). -/
def exhaust (o : Op) (s : State) : State :=
  let x := s.inst o.sl o.inst
  let s := if x.belowSaid || !s.floor.below then s
    else raiseS 0x5042 o.sl [BitVec.ofNat 8 o.inst.val] (modInst o.sl o.inst (fun y => { y with belowSaid := true }) s)
  if o.isStream then s else refuseOp o stNoEntropy s

/-- Examine an operation that has come to the head of its instance (Table 7-3, R177, R217, R218). -/
def startHead (o : Op) (s : State) : State :=
  let x := s.inst o.sl o.inst
  match o.kind with
  | .instantiate =>
    if x.fenced then refuseOp o stFenced s
    else if x.owned then refuseOp o stBadOpcode s
    else if s.floor.below then refuseOp o stNoEntropy s
    else joinDrawers o 3 s
  | .reseed =>
    if x.fenced then refuseOp o stFenced s
    else if !x.owned then refuseOp o stNotOwner s
    else if s.floor.below then refuseOp o stNoEntropy s
    else joinDrawers o 3 s
  | .uninstantiate =>
    if x.health.st = .quarantined then refuseOp o stFenced s
    else if !x.owned && decide (x.health.st ≠ .retired) then refuseOp o stNotOwner s
    else
      s |> modOp o.id (fun p => { p with phase := .commit })
        |> requestCommit ⟨.inst o.sl o.inst, .inst false 0 0, false, .uninstantiate o.id, o.cmd⟩
  | .getSeed =>
    if s.floor.below then refuseOp o stNoEntropy s
    else tryBook o s
  | .generate | .generatePr =>
    if x.fenced then refuseOp o stFenced s
    else if !x.owned then refuseOp o stNotOwner s
    else if x.needsReseed o.pr && s.floor.below then refuseOp o stNoEntropy s
    else if !x.needsReseed o.pr && decide (2 ^ 20 ≤ x.belowCount) then exhaust o s
    else tryBook o s
  | .stream _ => if s.streamResolves o then tryBook o s else s

/-- Examine every new head, in order of admission; `n` bounds the operations that end in turn. -/
def settleHeads : Nat → State → State
  | 0, s => s
  | n + 1, s =>
    match s.fabric.ops.find? (fun o => decide (o.phase = .queued) && s.isHead o && !s.idleStream o) with
    | none => s
    | some o => settleHeads n (startHead o s)

/-- Operations that have read nothing of an instance that is retired end: FENCED, or, for a stream, they wait again (Table 7-3,
Table 9-4). -/
def fenceWaiting (s : State) : State :=
  forAll (s.fabric.ops.filter (fun o => (decide (o.phase = .draw) || decide (o.phase = .booking)) && decide (o.kind ≠ .getSeed) &&
      decide ((s.inst o.sl o.inst).health.st = .retired)))
    (fun o t => if o.isStream then requeue o t else refuseOp o stFenced t) s

/-- Let every operation that has come to the head go on. -/
def settleFabric (s : State) : State :=
  if s.running then settleHeads (s.fabric.ops.length + 1) (fenceWaiting s) else s

/-- Admit an operation of a command, with its tag, or refuse it (R223, R225). -/
def enterOp (o : Op) (s : State) : State :=
  let k := if o.kind = .uninstantiate then 0 else 1
  match s.fabric.tagRefusal o.sl k with
  | some st => answerOpt o.cmd st [] (if st = stBusy then noteTagBusy s else s)
  | none =>
    takeTags o.sl k s
      |> modFabric (fun f => { f with ops := f.ops ++ [{ o with id := f.nextOp }], nextOp := f.nextOp + 1 })
      |> settleFabric

/-! ### Arbitration (7.5.2) -/

/-- Effective priority (R229, R230). -/
def State.prioOf (s : State) (o : Op) : Nat :=
  let base := if o.urgent then s.fabric.pmaxOf o.sl else min (s.inst o.sl o.inst).prio (s.fabric.pmaxOf o.sl)
  min 3 (base + o.passedOver / 256)

/-- Distance in the rounds: sleeves from the one after the last granted, then the sleeve's instances likewise (R228). -/
def State.roundKey (s : State) (o : Op) : Nat :=
  let d := (o.sl.val + 7 - s.fabric.lastSleeve.val) % 8
  let e := (o.inst.val + 3 - (s.fabric.lastInst.get o.sl).val) % 4
  d * 4 + e

/-- `a` goes before `b`. -/
def State.before (s : State) (a b : Op) : Bool :=
  decide (s.prioOf b < s.prioOf a) || (decide (s.prioOf a = s.prioOf b) && decide (s.roundKey a < s.roundKey b))

/-- The operation that goes before every other. -/
def State.pick (s : State) : List Op → Option Op
  | [] => none
  | o :: r =>
    match s.pick r with
    | none => some o
    | some p => if s.before p o then some p else some o

/-- DEPTH of a stream's chain: of the pattern in force, and while a frame is incomplete the deeper of that and of the committed
pattern, so that the frame is completed and its boundary reached (R270, 9.2.1 items 1 and 3, 9.5 steps 4 and 6; DEDUCED,
assumption log 65). -/
def State.chainDepth (s : State) (i : Sleeve) (n : Fin 4) : Nat :=
  let x := (s.sleeve i).streams.get n
  if x.atBoundary then patDepth x.pat0 else max (patDepth x.pat0) (patDepth ((s.sleeve i).live.get ⟨2 * n.val, by omega⟩))

/-- The operation's instance can be read: a lane serves none that is fenced (R167, Table 7-3). -/
def State.instUp (s : State) (o : Op) : Bool := !(s.inst o.sl o.inst).fenced

/-- The heads that compete for a counter lane (R227, R244, R250, R257). -/
def State.competing (s : State) : List Op :=
  s.fabric.ops.filter fun o =>
    decide (o.phase = .output) && s.isHead o && !o.leaving && s.instUp o && !s.onLane o.id &&
    !(s.fabric.claims.any (fun c => c.op == o.id)) &&
    match o.kind with
    | .stream n =>
      decide (((s.sleeve o.sl).streams.get n).assigned < s.chainDepth o.sl n) && (s.inst o.sl o.inst).owned
    | _ => true

/-- The Updates that wait for a lane. The spec binds none to a core before its grant: they are counted module-wide (DESIGN CHOICE,
assumption log 74). -/
def State.waitingUpdates (s : State) : List Op :=
  s.fabric.ops.filter fun o =>
    (decide (o.phase = .updSeed) || decide (o.phase = .updAddl) || decide (o.phase = .updFinal)) && s.isHead o && s.instUp o &&
    !s.onLane o.id

/-- The round pointers after a grant. -/
def noteGrant (o : Op) : State → State :=
  modFabric (fun f => { f with lastSleeve := o.sl, lastInst := vset f.lastInst o.sl o.inst })

/-! ### Patterns of a running stream (R270, R271) -/

/-- A place of the chain waits for the operation's pocket. -/
def Stream.placeOpen (x : Stream) (o : Op) : Bool := x.chain.any (fun p => p.op == o.id && !p.filled && !p.dropped)

/-- A request of an instance whose bit is cleared: one that still fills a place of an old frame ends with that pocket, any other
is withdrawn now (R36, R271). -/
def unbind (i : Sleeve) (n : Fin 4) (o : Op) (s : State) : State :=
  if ((s.sleeve i).streams.get n).placeOpen o then modOp o.id (fun q => { q with leaving := true }) s else withdrawOp o.id Op.begun s

/-- A request that has begun nothing is asked again under the new pattern's PR and REQ; one that has begun runs on as it began,
since a frame may hold pockets of several requests (R264; DEDUCED, assumption log 75). -/
def renewRequest (i : Sleeve) (n : Fin 4) (o : Op) (s : State) : State :=
  let x := (s.sleeve i).streams.get n
  let bytes := 64 * patReq x.pat1
  if o.begun || (o.pr == patPr x.pat0 && o.nbytes == bytes) then s
  else modOp o.id (fun q => { q with pr := patPr x.pat0, nbytes := bytes }) (requeue o s)

/-- Apply the live pattern at a frame boundary: cleared INST bits release their tags and withdraw their requests, kept ones ask
as the new pattern says, added bits ask for output. -/
def applyPattern (i : Sleeve) (n : Fin 4) (s : State) : State :=
  let x := (s.sleeve i).streams.get n
  let live := (s.sleeve i).live
  let p0 := live.get ⟨2 * n.val, by omega⟩
  let p1 := live.get ⟨2 * n.val + 1, by omega⟩
  let new := patInst p0
  let gone := x.tags &&& ~~~ new
  let added := new &&& ~~~ (patInst x.pat0)
  let mine := s.fabric.ops.filter (fun o => o.kind == .stream n && o.sl == i && !o.leaving)
  let s := modStream i n (fun y => { y with pat0 := p0, pat1 := p1, pend := false, tags := new }) s
  let s := forAll (mine.filter (fun o => gone.getLsbD o.inst.val)) (unbind i n) s
  let s := forAll (mine.filter (fun o => !gone.getLsbD o.inst.val)) (renewRequest i n) s
  let s := releaseTags i ((allFours.filter (fun k => gone.getLsbD k.val)).length) s
  forAll (allFours.filter (fun k => added.getLsbD k.val)) (newRequest i n) s

/-- Apply a waiting pattern if the chain stands at a boundary. -/
def settlePattern (i : Sleeve) (n : Fin 4) (s : State) : State :=
  let x := (s.sleeve i).streams.get n
  if x.running && x.pend && x.atBoundary then applyPattern i n s else s

/-! ### Fencing of the last core (R326) -/

/-- The commit of the operation's command is in the journal writer: it runs to its marker (R309). -/
def State.opGranted (s : State) (o : Op) : Bool := decide (o.phase = .commit) && s.lining.writer.any (fun c => c.cmd == o.cmd)

/-- The commit that the operation's command waits for leaves the queue for the journal writer. -/
def dropOpCommit (o : Op) : State → State :=
  when' (decide (o.phase = .commit)) (modLining (fun l => { l with waiting := l.waiting.filter (fun c => c.cmd != o.cmd) }))

/-- With no core in service, every DRBG operation in flight ends: INTERNAL where it had begun, FENCED otherwise. -/
def endAllOps (s : State) : State :=
  if s.noAes then
    forAll (s.fabric.ops.filter (fun o => decide (o.kind ≠ .getSeed) && decide (o.kind ≠ .uninstantiate) && !s.opGranted o))
      (fun o => if o.begun then failOp o.id ∘ dropOpCommit o else if o.isStream then id else refuseOp o stFenced) s
  else s

/-- Stop a stream: its requests are withdrawn, its chain is given up but for whole filled frames, its tags released (R259). -/
def stopStream (i : Sleeve) (n : Fin 4) (s : State) : State :=
  let x := (s.sleeve i).streams.get n
  if !x.running then s
  else
    let s := forAll (s.fabric.ops.filter (fun o => o.kind == .stream n && o.sl == i)) (fun o => withdrawOp o.id Op.begun) s
    let x := (s.sleeve i).streams.get n
    let keep := match x.frames with
      | f :: _ => if wholeFrame f && f.all (fun p => p.filled && !p.dropped) then f else []
      | [] => []
    let gone := (x.chain.drop keep.length).filter (fun p => !p.dropped)
    s |> releasePockets (gone.map (·.pocket))
      |> releaseTags i ((allFours.filter (fun k => x.tags.getLsbD k.val)).length)
      |> modStream i n (fun y => { y with
          running := false, chain := keep, tags := 0, pend := false
          seals := if keep.isEmpty then [] else y.seals.filter (fun z => z.record == y.record) })

end Sys2Proof.Machine
end

