-- ==== Sys2Proof/Machine/DigestOps.lean ====
section
/-! DEFINITION. The service path's shared operations: contexts, one block of work on an engine, the comparator, faults of a
service core, and the digest opcodes on a context (11.5, chapter 15). -/

namespace Sys2Proof.Machine

/-- The service core that a core number names, as one of the six SHA cores (R453). -/
def svcSha (k : Fin 2) : Fin 6 := ⟨4 + k.val, by omega⟩

/-- Set bits of a sleeve's DGT_ERR. -/
def dgtErr (i : Sleeve) (bits : BitVec 5) : State → State := modSleeve i (fun x => { x with dgtErr := x.dgtErr ||| bits })

/-- Every command of a context, served or waiting. -/
def Context.commands (c : Context) : List Nat := c.cmd.toList ++ c.waitq.map (·.1)

/-- Clear a context to idle and answer the commands on it (R457, R462, R463, R479). -/
def clearCtx (i : Sleeve) (k : Fin 4) (st : Byte) (s : State) : State :=
  let ids := (s.ctx i k).commands
  forAll ids (fun id => answer id st []) (modCtx i k (fun _ => .reset) s)

/-- Contexts begun under a slot are cleared, with DGT_ERR.SLOT (R462, R463). -/
def clearSlotContexts (k : Fin 32) (s : State) : State :=
  let i : Sleeve := ⟨k.val / 4, by omega⟩
  forAll (allFours.filter (fun c => (s.ctx i c).hmac == some k && decide ((s.ctx i c).state ≠ 0)))
    (fun c t => dgtErr i 0x10 (clearCtx i c stBadOpcode t)) s

/-- Engines of a service core. -/
def enginesOf (k : Fin 2) : List (Fin 16) := (List.finRange 16).filter (fun e => e.val / 8 = k.val)

/-- A message that begins anew in a context has no suspect compression behind it. -/
def unsuspect (i : Sleeve) (k : Fin 4) : State → State :=
  modDigest (fun d => { d with engines := d.engines.map (fun e => { e with suspects := e.suspects.filter (· != (i, k)) }) })

/-- Work touched by a core's suspect compressions (Table 15-2): contexts are cleared with their commands FENCED, seals not
yet claimed start again. -/
def clearSuspects (k : Fin 2) (s : State) : State :=
  let ctxs := (enginesOf k).flatMap (fun e => (s.digest.engines.get e).suspects)
  let seals := (enginesOf k).flatMap (fun e => (s.digest.engines.get e).seals)
  s |> forAll ctxs (fun c t =>
        if (t.ctx c.1 c.2).state = 0 then t
        else
          let ids := (t.ctx c.1 c.2).commands
          let err := decide ((t.ctx c.1 c.2).state = 1)
          when' err (dgtErr c.1 0x08) (forAll ids (fun id => answer id stFenced []) (modCtx c.1 c.2 (fun _ => .reset) t)))
    |> forAll seals (fun r => modStream r.sl r.stream (fun x => if x.run = r.run then putTag r.record none x else x))
    |> modDigest (fun d => { d with engines := d.engines.mapFinIdx (fun j e _ =>
        if j / 8 = k.val then { e with suspects := [], seals := [], since := 0 } else e) })

/-- A transient fault of a service core (R457, R473, R477). -/
def svcFault (k : Fin 2) (code : BitVec 16) (s : State) : State :=
  faultUnit (.sha (svcSha k)) code 15 [BitVec.ofNat 8 (4 + k.val)] (clearSuspects k s)

/-- A comparator glitch (R473). -/
def cmpGlitch (k : Fin 2) (s : State) : State :=
  svcFault k 0x3005 (modDigest (fun d => { d with glitch := satAdd 16 d.glitch 1, evt := d.evt ||| 0x04 }) s)

/-- The core whose comparator is used: the one named if it is in service, else the other. -/
def State.cmpCore (s : State) (k : Fin 2) : Fin 2 :=
  if (s.digest.cores.get (svcSha k)).inSvc then k else 1 - k

/-- The comparator's pair (EQ, EQ_N) for operands that are equal or not (Table 15-5). -/
def cmpPair (eq : Bool) : CmpOut → Bool × Bool
  | .clean => (eq, !eq)
  | .bothZero => (false, false)
  | .bothOne => (true, true)

/-- The pair counts as a glitch. -/
def glitched : CmpOut → Bool
  | .clean => false
  | _ => true

/-! ### One block of a context -/

/-- The chaining value a context's next block starts from: an HMAC context reads its slot at its first compression (R462). -/
def State.ctxChain (s : State) (c : Context) : List Byte :=
  match c.hmac with
  | some k => if c.chain.isEmpty then (s.slot k).inner else c.chain
  | none => c.chain

/-- Bytes of the message that the length field counts: an HMAC context counts its key block (R467). -/
def Context.total (c : Context) : Nat := c.count + (if c.hmac.isSome then blockLen c.alg else 0)

/-- A context has a block to compress. -/
def Context.hasWork (c : Context) : Bool := c.cmd.isSome && decide (blockLen c.alg ≤ c.buffer.length)

/-- One compression for a context (R455). -/
def State.stepCtx (s : State) (c : Context) : Context :=
  let b := blockLen c.alg
  { c with chain := compressBytes c.alg (s.ctxChain c) (c.buffer.take b), buffer := c.buffer.drop b }

/-- What follows when a context's blocks are done: the OK of an UPDATE, the outer hash of an HMAC, or the result (R467,
R468, R470). -/
def finishCtx (i : Sleeve) (k : Fin 4) (s : State) : State :=
  let c := s.ctx i k
  if c.hasWork || c.cmd.isNone then s
  else if !c.final then
    answerOpt c.cmd stOk [] (modCtx i k (fun x => { x with cmd := none }) s)
  else
    let d := c.chain.take (digestLen c.alg)
    match c.hmac, c.inner with
    | some slot, [] =>
      modCtx i k (fun x => { x with
        inner := d, chain := (s.slot slot).outer, buffer := shaPad x.alg (blockLen x.alg + d.length) d }) s
    | _, _ =>
      let s' := modCtx i k (fun x => { x with
        cmd := none, final := false, inner := [], chain := [], result := d, state := if x.route then 2 else 3 }) s
      answerOpt c.cmd stOk (if c.route then [] else d) s'

/-! ### Digest opcodes (Tables 11-12, 15-4) -/

def argBits (arg mask : Word) : Bool := (arg &&& ~~~ mask) == 0

def paramBytes (c : Cmd) : List Byte := wordsBytes c.params

/-- DIGEST_BEGIN (R333). -/
def digestBegin (c : Cmd) (k : Fin 4) (s : State) : State :=
  let alg := field c.arg 4 2
  let ks : Fin 32 := ⟨field c.arg 8 5 % 32, Nat.mod_lt _ (by decide)⟩
  if !argBits c.arg 0x00011F33 || !c.params.isEmpty || (alg != 3 && ks.val != 0) then answer c.id stBadLength [] s
  else
    let start (a : Nat) (h : Option (Fin 32)) (s : State) : State :=
      unsuspect c.sl k <| s |> modCtx c.sl k (fun x => { Context.reset with
        state := 1, alg := a, hmac := h, route := c.arg.getLsbD 16, waitq := x.waitq
        chain := if h.isSome then [] else initChain a })
    if alg = 3 then
      let x := s.slot ks
      if ks.val / 4 ≠ c.sl.val ∨ x.owned = false then answer c.id stNotOwner [] s
      else if x.health.st ≠ .inService then answer c.id stFenced [] s
      else if x.hash = 0 then answer c.id stBadOpcode [] s
      else answer c.id stOk [] (start (x.hash - 1) (some ks) s)
    else answer c.id stOk [] (start alg none s)

/-- DIGEST_UPDATE (R467). -/
def digestUpdate (c : Cmd) (k : Fin 4) (s : State) : State :=
  let x := s.ctx c.sl k
  if !argBits c.arg 0x3 || c.params.isEmpty then answer c.id stBadLength [] s
  else if x.state ≠ 1 then answer c.id stBadOpcode [] s
  else if (4 * c.params.length) % engineWord x.alg ≠ 0 then answer c.id stBadLength [] s
  else if (if x.alg = 0 then 2 ^ 61 - 1 else 2 ^ 64 - 1) < x.total + 4 * c.params.length then answer c.id stBadLength [] s
  else if !s.svcUp && decide (blockLen x.alg ≤ x.buffer.length + 4 * c.params.length) then answer c.id stFenced [] s
  else
    s |> modCtx c.sl k (fun y => { y with
          buffer := y.buffer ++ paramBytes c, count := y.count + 4 * c.params.length, cmd := some c.id })
      |> finishCtx c.sl k

/-- DIGEST_FINAL (R334, R468). -/
def digestFinal (c : Cmd) (k : Fin 4) (s : State) : State :=
  let x := s.ctx c.sl k
  let vb := field c.arg 20 3
  let w := engineWord x.alg
  if !argBits c.arg 0x00700003 || decide (2 < c.params.length) then answer c.id stBadLength [] s
  else if x.state ≠ 1 then answer c.id stBadOpcode [] s
  else if w ≤ vb ∨ (c.params ≠ [] ∧ 4 * c.params.length ≠ w) then answer c.id stBadLength [] s
  else if !s.svcUp then answer c.id stFenced [] s
  else
    let last := paramBytes c
    let tail := if vb = 0 then last else last.take vb
    s |> modCtx c.sl k (fun y => { y with
          last := last, count := y.count + tail.length, cmd := some c.id, final := true
          buffer := shaPad y.alg (y.total + tail.length) (y.buffer ++ tail) })
      |> finishCtx c.sl k

/-- DIGEST_SAVE (R336, Table 11-13). -/
def digestSave (c : Cmd) (k : Fin 4) (s : State) : State :=
  let x := s.ctx c.sl k
  if !argBits c.arg 0x3 || !c.params.isEmpty then answer c.id stBadLength [] s
  else if x.state ≠ 1 ∨ x.hmac.isSome ∨ x.count % blockLen x.alg ≠ 0 then answer c.id stBadOpcode [] s
  else answer c.id stOk (natBytes 4 x.alg ++ natBytes 8 x.count ++ x.chain) s

/-- DIGEST_RESTORE (R336, R469). -/
def digestRestore (c : Cmd) (k : Fin 4) (s : State) : State :=
  let a := (c.params.headD 0).toNat
  let st := paramBytes c
  let count := bytesNat ((st.drop 4).take 8)
  if !argBits c.arg 0x00010003 || (c.params.length != 11 && c.params.length != 19) then answer c.id stBadLength [] s
  else if 2 < a ∨ c.params.length ≠ (if a = 0 then 11 else 19) ∨ count % blockLen a ≠ 0 then answer c.id stBadLength [] s
  else
    s |> modCtx c.sl k (fun x => { Context.reset with
          state := 1, alg := a, route := c.arg.getLsbD 16, chain := st.drop 12, count := count, waitq := x.waitq })
      |> unsuspect c.sl k
      |> answer c.id stOk []

/-- DIGEST_COMPARE (R335, R472, R473). -/
def digestCompare (c : Cmd) (k : Fin 4) (cmp : CmpOut) (core : Fin 2) (s : State) : State :=
  let x := s.ctx c.sl k
  let elen := field c.arg 24 6
  if !argBits c.arg 0x3F000003 || decide (elen < 4) || decide (c.params.length ≠ elen) then answer c.id stBadLength [] s
  else if x.state ≠ 2 then answer c.id stBadOpcode [] s
  else if digestLen x.alg < 4 * elen then answer c.id stBadLength [] s
  else if !s.svcUp then answer c.id stFenced [] s
  else
    let pair := cmpPair (x.result.take (4 * elen) == paramBytes c) cmp
    let out := natBytes 4 (bit pair.1 + 2 * bit pair.2)
    s |> modCtx c.sl k (fun y => { Context.reset with waitq := y.waitq })
      |> answer c.id stOk out
      |> when' (glitched cmp) (fun t => cmpGlitch (t.cmpCore core) t)

/-- Run a digest opcode on its context; while a clearing runs it is answered BAD_OPCODE (R479). -/
def digestBody (c : Cmd) (k : Fin 4) (cmp : CmpOut) (core : Fin 2) (s : State) : State :=
  if s.digest.clearing then answer c.id stBadOpcode [] s
  else if c.op = 0x30 then digestBegin c k s
  else if c.op = 0x31 then digestUpdate c k s
  else if c.op = 0x32 then digestFinal c k s
  else if c.op = 0x33 then digestSave c k s
  else if c.op = 0x34 then digestRestore c k s
  else digestCompare c k cmp core s

/-- Serve the commands that wait on a context once it is free (R466); `n` bounds how many end at once. -/
def drainCtx (i : Sleeve) (k : Fin 4) : Nat → State → State
  | 0, s => s
  | n + 1, s =>
    let x := s.ctx i k
    if x.cmd.isSome then s
    else
      match x.waitq with
      | [] => s
      | (id, cmp, core) :: r =>
        let s := modCtx i k (fun y => { y with waitq := r }) s
        match s.findCmd id with
        | some c => drainCtx i k n (digestBody c k cmp core s)
        | none => drainCtx i k n s

/-- Take a digest command: behind the commands on its context (R466). -/
def digestTake (cmp : CmpOut) (core : Fin 2) (c : Cmd) (s : State) : State :=
  let k : Fin 4 := ⟨field c.arg 0 2 % 4, Nat.mod_lt _ (by decide)⟩
  let s := modCtx c.sl k (fun y => { y with waitq := y.waitq ++ [(c.id, cmp, core)] }) s
  drainCtx c.sl k ((s.ctx c.sl k).waitq.length) s

end Sys2Proof.Machine
end

