-- ==== Sys2Proof/Machine/Tailor.lean ====
section
/-! DEFINITION. Tailor's intake: the take of a packet and the checks of Table 10-3, the sequence rules and the replay cache
(10.1, 10.2, 10.4, 10.5, 21.2). -/

namespace Sys2Proof.Machine

/-- The opcodes of Table 11-1. -/
def definedOps : List Nat :=
  [0x00, 0x01, 0x02, 0x03, 0x04, 0x05, 0x10, 0x11, 0x12, 0x13, 0x14, 0x15, 0x16, 0x20, 0x21, 0x22, 0x23, 0x24,
   0x30, 0x31, 0x32, 0x33, 0x34, 0x35, 0x40, 0x41, 0x42, 0x43, 0x50, 0x51, 0x52, 0x53, 0x54, 0x60, 0x61,
   0x70, 0x71, 0x72, 0x73, 0x80, 0x81, 0x82, 0x90, 0x91, 0x92, 0x93, 0xA0]

def opDefined (op : Byte) : Bool := definedOps.contains op.toNat

/-- Custodian opcodes (Table 11-1); BIST_RUN with READMIT is one. -/
def opCust (op : Byte) (arg : Word) : Bool :=
  [0x03, 0x04, 0x05, 0x51, 0x52, 0x53, 0x54, 0x70, 0x71, 0x92, 0x93, 0xA0].contains op.toNat ||
    (op == 0x60 && arg.getLsbD 7)

/-- Opcodes that require a MAC (R292). -/
def opMac (op : Byte) (arg : Word) : Bool := opCust op arg || [0x40, 0x41, 0x42, 0x43].contains op.toNat

/-- Opcodes admitted in fold (Table 11-1). -/
def opFold (op : Byte) : Bool := [0x00, 0x02, 0x72, 0x73].contains op.toNat

/-- Opcodes for which the Opcode Reference gives no ARG (10.1.3). -/
def opNoArg (op : Byte) : Bool :=
  [0x00, 0x01, 0x02, 0x03, 0x20, 0x21, 0x43, 0x50, 0x53, 0x70, 0x72, 0x73, 0x81, 0x82, 0xA0].contains op.toNat

/-! ### Header fields (Table 10-1) -/

def pktByte (p : Packet) (n : Nat) : Byte := p.bytes.getD n 0
def Packet.op (p : Packet) : Byte := pktByte p 0
def Packet.sleeve (p : Packet) : Nat := (pktByte p 1).toNat % 8
def Packet.auth (p : Packet) : Bool := (pktByte p 1).getLsbD 3
def Packet.sealed (p : Packet) : Bool := (pktByte p 1).getLsbD 4
def Packet.pr (p : Packet) : Bool := (pktByte p 1).getLsbD 5
def Packet.urgent (p : Packet) : Bool := (pktByte p 1).getLsbD 6
def Packet.echo (p : Packet) : Bool := (pktByte p 1).getLsbD 7
def Packet.tag (p : Packet) : BitVec 7 := (pktByte p 2).extractLsb' 0 7
def Packet.plen (p : Packet) : Nat := (pktByte p 3).toNat % 64
def Packet.seq (p : Packet) : Word := BitVec.ofNat 32 (bytesNat ((p.bytes.drop 4).take 4))
def Packet.arg (p : Packet) : Word := BitVec.ofNat 32 (bytesNat ((p.bytes.drop 8).take 4))
def Packet.params (p : Packet) : List Word := bytesWords ((p.bytes.drop 12).take (4 * p.plen))
def Packet.mac (p : Packet) : List Byte := p.bytes.drop (12 + 4 * p.plen)

def Cmd.pr (c : Cmd) : Bool := (c.header.getD 1 0).getLsbD 5
def Cmd.urgent (c : Cmd) : Bool := (c.header.getD 1 0).getLsbD 6

/-- The packet is well formed: lengths and reserved bits (R280, R281, 10.1.3). -/
def Packet.wellFormed (p : Packet) : Bool :=
  decide (p.bytes.length = 12 + 4 * p.plen + (if p.auth then 16 else 0)) && !(pktByte p 2).getLsbD 7 &&
    decide ((pktByte p 3).toNat < 64) && !(opNoArg p.op && p.arg != 0)

/-- A service core is in service, so not out of it for a BIST run either (step 7 of Table 10-3, R502). -/
def State.svcServes (s : State) : Bool := (s.digest.cores.get 4).inSvc || (s.digest.cores.get 5).inSvc

/-- Steps 1 to 7 of Table 10-3: the first failure. -/
def State.intakeFail (s : State) (i : Sleeve) (p : Packet) : Option Byte :=
  if !p.wellFormed then some stBadLength
  else if p.sleeve ≠ i.val then some stNotOwner
  else if !opDefined p.op then some stBadOpcode
  else if opCust p.op p.arg && decide (i ≠ 0) then some stNotOwner
  else if decide (s.power.phase ≠ .serving) && !opFold p.op then some stNotReady
  else if opMac p.op p.arg && !p.auth then some stAuthFail
  else if !(p.auth || p.sealed) then none
  else if !s.lining.bootDone then some stPowerDenied
  else if !s.svcServes then some stFenced
  else if (s.cmdKeyOf i).isNone then some stAuthFail
  else none

/-- The MAC of a packet (R294). -/
def State.macOf (s : State) (i : Sleeve) (p : Packet) : List Byte :=
  match s.cmdKeyOf i with
  | some k =>
    (hmacWith 0 k.1 k.2
      (wordBytes s.lining.boot ++ wordBytes (s.sleeve i).epoch ++ p.bytes.take (12 + 4 * p.plen))).take 16
  | none => []

/-- A sequence number is accepted (R301). -/
def SleeveSt.seqOk (x : SleeveSt) (n : Word) : Bool :=
  n != 0 &&
    ((decide (1 ≤ (n - x.seqHi).toNat) && decide ((n - x.seqHi).toNat < 2 ^ 31)) ||
     (decide ((x.seqHi - n).toNat ≤ 63) && !x.consumed.contains n))

/-- Accept a sequence number: the window moves, the number is consumed, and the command enters the cache in flight (R301,
R302, R304). -/
def SleeveSt.accept (x : SleeveSt) (id : Nat) (tag : BitVec 7) (n : Word) : SleeveSt :=
  let hi := if decide (1 ≤ (n - x.seqHi).toNat) && decide ((n - x.seqHi).toNat < 2 ^ 31) then n else x.seqHi
  { x with
    seqHi := hi
    consumed := (n :: x.consumed).filter (fun m => decide ((hi - m).toNat ≤ 63))
    cache := ((⟨id, tag, n, none⟩ : CacheEntry) :: x.cache).take 8 }

/-- The copy that answers a retransmit of a popped reply (Table 10-5). -/
def copyReply (r : Reply) (id retry : Nat) : Reply :=
  if r.pocketLen = 0 then { r with cmd := id, retry := retry, frozen := false, cached := true, sealTag := [] }
  else
    { r with cmd := id, retry := retry, frozen := false, cached := true, gone := true, payload := [], pockets := []
             pocketLen := 0, sealTag := [] }

/-- A retransmit: absorbed while the original is in flight or its reply is queued, and answered by a copy after it was popped
(R305). -/
def retransmit (c : Cmd) (e : CacheEntry) (s : State) : State :=
  let s := dropCmd c.id (modSleeve c.sl (fun x => { x with dup := satAdd 8 x.dup 1 }) s)
  match e.reply with
  | none => s
  | some r =>
    if (s.sleeve c.sl).replies.any (fun q => q.cmd == e.cmd) then s
    else post c.sl (s.sealReply c.sl (!r.sealTag.isEmpty) (s.cmdKeyOf c.sl) (copyReply r c.id c.retry)) s

/-- Step 9 and step 10: the cache, the sequence rules, then the opcode (R301 to R305). -/
def acceptCmd (body : Cmd → State → State) (c : Cmd) (s : State) : State :=
  match (s.sleeve c.sl).cache.find? (fun e => e.tag == c.tag && e.seq == c.seq) with
  | some e => retransmit c e s
  | none =>
    if (s.sleeve c.sl).seqOk c.seq then
      body c (modCmd c.id (fun k => { k with accepted := true }) (modSleeve c.sl (fun x => x.accept c.id c.tag c.seq) s))
    else answer c.id stReplay [] s

/-- The command just taken, the newest in flight, has its reply sealed where its packet asks for it (R298). -/
def sealNewest (v : Bool) (s : State) : State :=
  { s with cmds := match s.cmds with
    | c :: r => { c with sealed := v } :: r
    | [] => [] }

/-- Step 8: the MAC on the compare route (R294, R296). -/
def checkMac (t : Take) (p : Packet) (body : Cmd → State → State) (c : Cmd) (s : State) : State :=
  let pair := cmpPair (s.macOf c.sl p == p.mac) t.cmp
  let s := if glitched t.cmp then cmpGlitch (s.cmpCore t.core) s else s
  if pair = (true, false) then
    let c := { c with sealed := p.sealed }
    acceptCmd body c (sealNewest p.sealed s)
  else answer c.id stAuthFail [] s

/-- The length of an execution timeout in microseconds (R307). -/
def SleeveSt.tmoUs (x : SleeveSt) : Nat := 1000 * (if x.tmo = 0 then 100 else x.tmo)

/-- The checks of Table 10-3 on a packet taken from a sleeve's queue, then the opcode (R287). -/
def intake (t : Take) (p : Packet) (body : Cmd → State → State) (s : State) : State :=
  let c : Cmd :=
    { id := s.nextCmd, sl := t.sl, op := p.op, tag := p.tag, seq := p.seq, arg := p.arg, header := p.bytes.take 12
      params := p.params, sealed := false, echo := p.echo, retry := p.retry, frozen := false, frozenUs := 0
      deadline := s.now + (s.sleeve t.sl).tmoUs, granted := false, accepted := false }
  let s := { s with cmds := c :: s.cmds, nextCmd := s.nextCmd + 1 }
  let s := modSleeve t.sl (fun x => { x with cmdq := x.cmdq.drop 1, removing := true }) s
  match s.intakeFail t.sl p with
  | some st => answer c.id st [] s
  | none =>
    if p.auth then checkMac t p body c s
    else acceptCmd body { c with sealed := p.sealed } (sealNewest p.sealed s)

/-- Tailor may take a packet of a sleeve: serving, or fold; the sleeve in service; a reply place free; the last take's
removal complete (R73, R605, Table 18-2). -/
def State.mayTake (s : State) (i : Sleeve) : Bool :=
  let x := s.sleeve i
  (decide (s.power.phase = .serving) || decide (s.power.phase = .folding) || decide (s.power.phase = .fold)) &&
  decide (x.health.st = .inService) && !x.removing && decide (x.replies.length + s.resv i < 32)

/-- Sleeves with a packet that may be taken and that the present round has not served. -/
def State.roundLeft (s : State) : List Sleeve :=
  allSleeves.filter (fun i => s.mayTake i && !(s.sleeve i).cmdq.isEmpty && !s.taken.contains i)

/-- The sleeve's turn: the round has not served it, or leaves none to serve (R56, R282). -/
def State.turn (s : State) (i : Sleeve) : Bool := !s.taken.contains i || s.roundLeft.isEmpty

/-- The sleeve is served in the round; the round that left none to serve is over. -/
def noteTake (i : Sleeve) (s : State) : State := { s with taken := if s.roundLeft.isEmpty then [i] else i :: s.taken }

/-- Take the packet at the head of a sleeve's queue if it may be taken, its turn has come and it is of the row's kind; otherwise
nothing happens (DESIGN CHOICE, assumption log 7). -/
def takeWith (t : Take) (kind : Byte → Word → Bool) (body : Cmd → State → State) (s : State) : State :=
  match (s.sleeve t.sl).cmdq with
  | p :: _ => if s.mayTake t.sl && s.turn t.sl && kind p.op p.arg then intake t p body (noteTake t.sl s) else s
  | [] => s

/-- A row that takes one opcode. -/
def takeOp (t : Take) (op : Byte) (body : Cmd → State → State) (s : State) : State :=
  takeWith t (fun o _ => o == op) body s

end Sys2Proof.Machine
end

