-- ==== Sys2Proof/Machine/ThreadOps.lean ====
section
/-! DEFINITION. The threads' shared operations: claims and cutoffs, the live estimate, credit, the floor ratio, trips, the
tests' windows and raw captures (chapters 4 to 6). -/

namespace Sys2Proof.Machine

/-! ### Parameters (R128, Table 5-2) -/

def claim (t : Thread) : Nat := if isM t then 500 else 800
def rctCutoff (t : Thread) : Nat := if isM t then 61 else 39
def aptCutoff (t : Thread) : Nat := if isM t then 813 else 684
def driftCutoff (t : Thread) : Nat := if isM t then 196 else 184
def estTrip (t : Thread) : Nat := if isM t then 250 else 400

/-! ### The block estimate (R158) -/

/-- Integer square root, two bits a step; `k` steps serve numbers below 4^k. -/
def isqrt : Nat → Nat → Nat
  | 0, _ => 0
  | k + 1, n =>
    let r := 2 * isqrt k (n / 4)
    if (r + 1) * (r + 1) ≤ n then r + 1 else r

/-- p_u of the most-common-value estimate for a largest count m of n symbols, times 2^64, rounded up, at most 1. -/
def upperBound (m n : Nat) : Nat :=
  let root := isqrt 130 (2576 * 2576 * m * (n - m) * 2 ^ 128 / (n - 1)) + 1
  min (2 ^ 64) ((m * 1000 * 2 ^ 64 + root) / (1000 * n) + 1)

/-- ⌊1000 × H / d⌋ where H = −log2 of p / 2^64 and d is 1 or 2 (R158, R159; DEDUCED, assumption log 11). -/
def permille (p d : Nat) : Nat := Nat.log2 (2 ^ (64 * (1000 / d)) / p ^ (1000 / d))

/-- The block estimate in permille from the ones of 65,536 samples and the counts of the four pair symbols. -/
def blockEstimate (ones : Nat) (pairs : List Nat) : Nat :=
  min (permille (upperBound (max ones (65536 - ones)) 65536) 1) (permille (upperBound (pairs.foldl max 0) 32768) 2)

/-- The live estimate: the lowest of the last four, a missing block counting as the claim (R159). -/
def liveEst (t : Thread) (x : ThreadSt) : Nat :=
  (x.ests.take 4).foldl min (if x.ests.length < 4 then claim t else 1000)

/-! ### Credit (R41, R172, R173, R181) -/

def State.creditBit (s : State) (t : Thread) : Nat :=
  let f := s.yoke.factors.get t
  min (min (claim t) (liveEst t (s.thread t))) (if f = 0 then claim t else f)

/-- A capture takes the thread's samples (R135). -/
def State.captured (s : State) (t : Thread) : Bool := s.capture.active && decide (s.capture.thread = t)

/-- The thread is under capture: from acceptance until it passes the re-test that follows (R136). -/
def State.underCapture (s : State) (t : Thread) : Bool := s.captured t || (s.thread t).capHold

/-- THR_RUN.HELD (Table 4-9). -/
def State.held (s : State) (t : Thread) : Bool :=
  let x := s.thread t
  x.railHold || x.rideHold || x.foldOff || s.underCapture t

/-- Yoke takes the thread's bytes: every thread's while READY is high, the fold thread's in fold and through a wake (R145,
R557). -/
def State.yokeTakes (s : State) (t : Thread) : Bool :=
  s.ready || ((decide (s.power.phase = .fold) || decide (s.power.phase = .waking)) && decide (s.power.foldThread = some t))

/-- THR_RUN.RUN: the thread delivers samples to Yoke. -/
def State.delivers (s : State) (t : Thread) : Bool :=
  let x := s.thread t
  s.yokeTakes t && x.health.inSvc && x.passed && decide (x.test = .none) && !s.held t

/-- A restart of mode 2 holds the thread in its power-up condition (R132). -/
def State.restarting (s : State) (t : Thread) : Bool := s.captured t && decide (s.now < s.capture.holdUntil)

/-- The thread makes samples: it is powered (an A-thread's rail and conditioning among that) and not held by the rail, by
ride-through or by a capture's restart (R126, R99, R132, R560, Table 4-8). -/
def State.samples (s : State) (t : Thread) : Bool :=
  let x := s.thread t
  (if s.power.phase = .startup then s.power.testsBegun else s.running || decide (s.power.phase = .fold)) &&
    !x.railHold && !x.rideHold && !x.foldOff && (isM t || s.supply.railOk && !s.power.railSkipped) && !s.restarting t

/-- A thread counts in the credited rate (R172). -/
def State.counts (s : State) (t : Thread) : Bool :=
  let x := s.thread t
  x.health.inSvc && x.passed && !s.underCapture t

/-- Credited rate of a thread in samples per 20 us times permille; below 100 permille it counts 0 (R183). -/
def State.creditOf (s : State) (t : Thread) : Nat :=
  let c := s.creditBit t
  if s.counts t && decide (100 ≤ c) then (s.thread t).rate * c else 0

def State.creditSum (s : State) : Nat := (allThreads.map s.creditOf).sum

/-- M-threads that produced samples in the last period. -/
def State.producers (s : State) : List Thread :=
  (allThreads.filter isM).filter (fun t => !(s.thread t).foldOff && decide (0 < (s.thread t).rate))

/-- Samples of an A-thread in 20 us at the present pace (Table 4-2). -/
def State.paceSamples (s : State) : Nat := if s.supply.paceLow then 4000 else 5000

/-- The full-complement rate, as a fraction, in samples per 20 us times permille (R173). -/
def State.fullRate (s : State) : Nat × Nat :=
  let p := s.producers
  let a := 4 * 800 * s.paceSamples
  if p.isEmpty then (12 * 500 * 5200 * s.supply.speed + a * 64, 64)
  else (12 * 500 * (p.map (fun t => (s.thread t).rate)).sum + a * p.length, p.length)

/-- No conditioning core is in service (R193). -/
def State.noCond (s : State) : Bool := allFours.all (fun k => !(s.digest.cores.get ⟨k.val, by omega⟩).inSvc)

/-- The floor ratio in percent for a credit sum, rounded down; 0 while nothing conditions (R173, R193). -/
def State.ratioOf (s : State) (credit : Nat) : Nat :=
  if s.noCond then 0 else 100 * credit * s.fullRate.2 / s.fullRate.1

/-- The custodian's floor in percent (R174). -/
def Floor.percent (f : Floor) : Nat := if f.pct = 0 then 25 else f.pct

/-- A credit sum lies below the floor (R173). -/
def State.isBelow (s : State) (credit : Nat) : Bool :=
  s.noCond || decide (100 * credit * s.fullRate.2 < s.floor.percent * s.fullRate.1)

/-- Taking threads out of credit would put the module below the floor (R133, R345, R504). -/
def State.wouldFall (s : State) (ts : List Thread) : Bool :=
  s.isBelow (s.creditSum - (ts.map s.creditOf).sum)

/-- Recompute THR_FLOOR from the rates of the last period (R173). -/
def showFloor (s : State) : State :=
  let c := s.creditSum
  modFloor (fun f => { f with ratio := s.ratioOf c, credit := c / 20000 }) s

/-- Draws that wait when the module goes below the floor: a command is answered NO_ENTROPY, a stream's request waits again
from its start (R177, R198, R327). -/
def refuseDraws (s : State) : State :=
  forAll (s.fabric.ops.filter (fun o => decide (o.phase = .draw)))
    (fun o t => if o.isStream then requeue o t else releasePockets o.pockets (refuseOp o stNoEntropy t))
    s

/-- Judge the floor while READY is high (R172, R176): entry at once, exit after 10 ms at or above it. -/
def judgeFloor (s : State) : State :=
  if !s.ready then s
  else if s.isBelow s.creditSum then
    let s' := modFloor (fun f => { f with okSince := none }) s
    if s.floor.below then s'
    else
      s' |> modFloor (fun f => { f with below := true, evt := f.evt ||| 0x08 })
         |> (fun t =>
              let r := offer (mkEv t 0x5040 15 []) t
              if r.2 then forAll allSleeves (fun i => alert i 0x40) r.1 else r.1)
         |> refuseDraws
  else if s.floor.okSince.isNone then modFloor (fun f => { f with okSince := some s.now }) s
  else s

/-! ### Test windows (R638) -/

/-- Drop every open window of a thread. -/
def ThreadSt.fresh (x : ThreadSt) : ThreadSt :=
  { x with
    rctCount := 0, aptCount := 0, aptPos := 0, heldBack := [], driftPos := 0, driftOnes := 0, driftPairs := 0
    estPos := 0, estOnes := 0, estPairs := Vector.replicate 4 0, bits := [] }

/-- One sample of the repetition count test (R154). -/
def rctStep (b : Bool) (x : ThreadSt) : ThreadSt :=
  { x with
    rctCount := if x.rctCount = 0 then 1 else if x.rctLast = b then x.rctCount + 1 else 1
    rctLast := b }

/-- One sample of the adaptive proportion test (R155). -/
def aptStep (b : Bool) (x : ThreadSt) : ThreadSt :=
  if x.aptPos = 0 then { x with aptRef := b, aptCount := 1, aptPos := 1 }
  else { x with aptCount := if b = x.aptRef then x.aptCount + 1 else x.aptCount, aptPos := x.aptPos + 1 }

/-- One sample of the drift window: ones among the first 4095, pairs of ones (R156). -/
def driftStep (b : Bool) (x : ThreadSt) : ThreadSt :=
  { x with
    driftOnes := if decide (x.driftPos < 4095) && b then x.driftOnes + 1 else x.driftOnes
    driftPairs := if decide (0 < x.driftPos) && x.driftLast && b then x.driftPairs + 1 else x.driftPairs
    driftLast := b
    driftPos := x.driftPos + 1 }

/-- D of R156. -/
def driftFigure (x : ThreadSt) : Nat :=
  let e := x.driftOnes * x.driftOnes / 4096
  (x.driftPairs - e) + (e - x.driftPairs)

/-- One sample of the live-estimate block (R158): pairs do not overlap, the first sample the high bit. -/
def estStep (b : Bool) (x : ThreadSt) : ThreadSt :=
  let sym : Fin 4 := ⟨(2 * bit x.estHalf + bit b) % 4, Nat.mod_lt _ (by decide)⟩
  { x with
    estOnes := x.estOnes + bit b
    estPairs := if x.estPos % 2 = 1 then vmod x.estPairs sym (· + 1) else x.estPairs
    estHalf := b
    estPos := x.estPos + 1 }

/-- One sample of the servo's block (R122). -/
def servoStep (b : Bool) (x : ThreadSt) : ThreadSt :=
  { x with servoOnes := x.servoOnes + bit b, servoPos := x.servoPos + 1 }

/-! ### The injected known-delay check (Table 5-1) -/

/-- Trials of the check: 16 for each of an M-thread's five conditions, 16 pulses and 256 samples for an A-thread. -/
def checkLen (t : Thread) : Nat := if isM t then 80 else 272

/-- The conditions of Table 5-1 are injected, in the table's order (DESIGN CHOICE, assumption log 67): the thread delivers no raw
bit (R118). -/
def ThreadSt.injecting (t : Thread) (x : ThreadSt) : Bool := decide (x.test = .full) && decide (x.checkPos < checkLen t)

/-- The trial's code meets the condition of its place. -/
def trialHit (t : Thread) (pos code : Nat) : Bool :=
  if isM t then
    if pos < 48 then
      let sep := 2 + 4 * (pos / 16)
      decide (sep ≤ code + 1) && decide (code ≤ sep + 1)
    else if pos < 64 then decide (code ≤ 3)
    else decide (6 ≤ code)
  else if pos < 16 then decide (code % 2 = 1)
  else decide (code % 2 = 0)

/-- Trials of the 16 of one condition that must meet it. -/
def trialsNeeded (t : Thread) (pos : Nat) : Nat :=
  if !isM t || decide (pos < 48) then 16 else if pos < 64 then 15 else 8

/-- One trial at Tally time `now`: every sixteenth judges its condition; the bias of an A-thread's junction then has 50 us to
settle. -/
def checkStep (t : Thread) (now code : Nat) (x : ThreadSt) : ThreadSt :=
  let hits := (if x.checkPos % 16 = 0 then 0 else x.checkHits) + bit (trialHit t x.checkPos code)
  { x with
    checkPos := x.checkPos + 1, checkHits := hits
    testBad := decide (x.checkPos % 16 = 15) && decide (hits < trialsNeeded t x.checkPos)
    settleAt := if isM t then x.settleAt else now + 50 }

/-! ### Trips (R162, Table 5-3) -/

/-- Event code of a trip kind (Table 5-6). -/
def tripCode : Nat → BitVec 16
  | 0 => 0x5020
  | 1 => 0x5021
  | 2 => 0x5022
  | 3 => 0x5023
  | 4 => 0x5024
  | 5 => 0x5003
  | _ => 0x5004

/-- Count a trip in THR_TRIP and THR_EVT. -/
def noteTrip (t : Thread) (kind : Nat) : State → State :=
  modFloor (fun f => { f with
    trips := satAdd 16 f.trips 1, lastThread := t.val, lastKind := kind, evt := f.evt ||| 0x01 })

/-- A trip of a thread that is not under capture: its open windows are dropped and it is faulted (R152, R162, R166). A trip of a
retired thread is counted and logs no event: Table 5-3 gives it no row (DESIGN CHOICE, assumption log 71). -/
def tripThread (t : Thread) (kind : Nat) (s : State) : State :=
  s |> noteTrip t kind
    |> modThread t (fun x => { ThreadSt.fresh x with secondTry := false, capHold := false })
    |> faultUnit (.thread t) (tripCode kind) 15 [BitVec.ofNat 8 t.val]

/-- A trip under capture: counted in the summary for the three tests it names, and logged as 0x5012 (R137). -/
def tripCaptured (t : Thread) (kind : Nat) (s : State) : State :=
  s |> noteTrip t kind
    |> modCapture (fun c => { c with
        trips := if h : kind < 3 then vmod c.trips ⟨kind, h⟩ (satAdd 16 · 1) else c.trips })
    |> raiseD 0x5012 [BitVec.ofNat 8 t.val]

/-- A trip wherever the thread is. -/
def trip (t : Thread) (kind : Nat) (s : State) : State :=
  if s.captured t then tripCaptured t kind s else tripThread t kind s

/-! ### Raw capture (4.4) -/

/-- The header record (Table 4-6). -/
def State.captureHeader (s : State) : List Byte :=
  let c := s.capture
  let a := !isM c.thread
  [0x43, 0x41, 0x50, 0x54, BitVec.ofNat 8 c.thread.val, BitVec.ofNat 8 c.mode] ++ natBytes 2 c.restarts ++
    natBytes 4 c.samples ++ natBytes 4 s.now ++ natBytes 2 s.supply.vcore ++ natBytes 1 s.supply.dieT ++
    natBytes 1 (if a then s.supply.rail10mV / 10 else 0) ++ natBytes 2 (if a then (s.thread c.thread).servo else 0) ++
    natBytes 2 c.seq ++ List.replicate 8 0

/-- The summary record (Table 4-7). -/
def State.captureSummary (s : State) (endCode : Nat) : List Byte :=
  let c := s.capture
  [0x43, 0x41, 0x50, 0x45, BitVec.ofNat 8 c.thread.val, BitVec.ofNat 8 endCode] ++
    natBytes 2 (c.trips.get 0) ++ natBytes 2 (c.trips.get 1) ++ natBytes 2 (c.trips.get 2) ++
    natBytes 4 c.taken ++ natBytes 4 s.now ++ natBytes 2 s.supply.vcore ++ natBytes 1 s.supply.dieT ++
    natBytes 1 c.pace ++ natBytes 2 c.servoSteps ++ natBytes 2 c.seq ++ List.replicate 4 0

/-- Data bytes of a capture (Table 4-5, R143). -/
def captureData (mode restarts samples : Nat) : Nat :=
  if mode = 0 then (samples + 7) / 8
  else if mode = 1 then (samples + 1) / 2
  else restarts * ((samples + 7) / 8)

/-- Pockets of a capture (R134). -/
def capturePockets (mode restarts samples : Nat) : Nat := (64 + captureData mode restarts samples + 63) / 64

/-- A byte of bits, first sample in bit 7, padded with zeros. -/
def packBits (bs : List Bool) : Byte :=
  BitVec.ofNat 8 ((bs ++ List.replicate (8 - bs.length) false).foldl (fun n b => 2 * n + bit b) 0)

/-- The samples of a capture in all. -/
def Capture.total (c : Capture) : Nat := c.restarts * c.samples

/-- The sample numbered `n` is the last of a restart of mode 2. -/
def Capture.restartsAt (c : Capture) (n : Nat) : Bool := c.mode == 2 && n % c.samples == 0

/-- Take one sample into the capture's data (R143). Mode 1 packs codes as four bits, first sample high. -/
def Capture.take (c : Capture) (code : BitVec 4) : Capture :=
  let part := if c.mode = 1
    then c.part ++ [code.getLsbD 3, code.getLsbD 2, code.getLsbD 1, code.getLsbD 0] else c.part ++ [code.getLsbD 0]
  let n := c.taken + 1
  let close := decide (part.length = 8) || c.restartsAt n || n == c.total
  if close then { c with taken := n, bytes := c.bytes ++ [packBits part], part := [] }
  else { c with taken := n, part := part }

/-- A test starts over: its windows, and the known-delay check of a full test. -/
def ThreadSt.restart (x : ThreadSt) : ThreadSt :=
  { ThreadSt.fresh x with testPos := 0, testBad := false, checkPos := 0, checkHits := 0 }

/-- The re-test that follows a capture (R140): a thread in service stays under capture until it passes it; one that the rail or
ride-through holds runs it when the hold ends. A thread out of service stays in its state, and a re-test of its own that the
capture cut off begins again (R141, 4.4.5 item 3; DEDUCED, assumption log 69). -/
def afterCapture (t : Thread) (s : State) : State :=
  let x := s.thread t
  let s := modThread t (fun x => { ThreadSt.fresh x with capHold := decide (x.health.st = .inService), passed := false }) s
  if x.health.st = .inService then
    if x.railHold || x.rideHold then s else if x.fullDue then startFull t s else startShort t s
  else if decide (x.health.st = .quarantined) && x.health.retest && !x.custHold then startShort t s
  else s

/-- End the capture (R140): the summary is written, DONE sets, and the thread's re-test follows. A capture that ends before any
sample has a header taken at its end (DESIGN CHOICE, assumption log 68). -/
def endCapture (endCode : Nat) (s : State) : State :=
  let c := s.capture
  let t := c.thread
  let bytes := c.bytes ++ (if c.part.isEmpty then [] else [packBits c.part])
  let s := modCapture (fun c => { c with
    active := false, done := true, part := []
    bytes := (if c.started then bytes else s.captureHeader) ++ s.captureSummary endCode }) s
  let keep := (s.capture.bytes.length - s.capture.readPos + 63) / 64
  let s := releasePockets (s.capture.pockets.drop keep) s
  let s := modCapture (fun c => { c with pockets := c.pockets.take keep }) s
  afterCapture t (raiseD 0x5011 [BitVec.ofNat 8 t.val] s)

/-- RESET_SLEEVE of S0 frees every pocket of its capture chain; a capture that runs ends (8.1.1, R324; DESIGN CHOICE, assumption
log 78). -/
def dropCapture (s : State) : State :=
  let s := if s.capture.active then endCapture 1 s else s
  let c := s.capture
  releasePockets (c.pockets ++ c.older.flatMap (fun q => q.2.1)) s
    |> modCapture (fun c => { c with pockets := [], older := [], readPos := c.bytes.length })

/-- The capture chain holds data (R139). -/
def Capture.holds (c : Capture) : Bool :=
  !c.older.isEmpty || (!c.pockets.isEmpty && decide (c.readPos < c.bytes.length))

end Sys2Proof.Machine
end

