-- ==== Sys2Proof/Machine/Regs.lean ====
section
/-! DEFINITION. What every register word reads: the global pages of Tables 20-2, 20-5 and 20-7 and the sleeve page of Table
21-1, each from the state it shows. -/

namespace Sys2Proof.Machine

/-- A word from its fields, each a low bit, a width and a value; other bits read 0 (R12). -/
def pack (fs : List (Nat × Nat × Nat)) : Word := BitVec.ofNat 32 ((fs.map (fun f => f.2.2 % 2 ^ f.2.1 * 2 ^ f.1)).sum)

/-- Fields of one width, side by side from bit 0. -/
def packRow (w : Nat) (vs : List Nat) : Word := pack (vs.mapIdx (fun i v => (w * i, w, v)))

/-- Unit states, two bits each (R167). -/
def State.stateRow (s : State) (us : List UnitRef) : List Nat := us.map (fun u => (s.health u).st.code)

/-- Readmissions used, two bits each (R170). -/
def State.lifeRow (s : State) (us : List UnitRef) : List Nat := us.map (fun u => (s.health u).used)

def allAes : List UnitRef := allFours.map .aes
def allSha : List UnitRef := (List.finRange 6).map .sha
def allBanks : List UnitRef := (List.finRange 16).map .bank
def allPorts : List UnitRef := (List.finRange 3).map .port
def lanesAB : List UnitRef := ((List.finRange 20).filter (fun k => k.val < 16)).map .lane
def lanesM : List UnitRef := ((List.finRange 20).filter (fun k => 16 ≤ k.val)).map .lane

/-- A unit is quarantined or retired (R31): pockets and log rows are units too (Table 1-3, R253, R529). -/
def State.degraded (s : State) : Bool :=
  (allUnits ++ allPorts).any (fun u => decide ((s.health u).st ≠ .inService)) || s.pool.torn != 0 || !s.log.spares.isEmpty

/-- GBL_STATE.STATE (Table 20-3, Table 1-5). -/
def State.stateCode (s : State) : Nat :=
  match s.power.phase with
  | .serving | .folding => if s.degraded then 2 else 1
  | .fold => 3
  | _ => 0

/-! ### Page 0x00 -/

/-- The 5-bit route field: no sleeve for ROLE 00 and ROLE 11 (R586). -/
def Route.field (r : Route) : Nat := (if r.role = 1 || r.role = 2 then r.sl.val else 0) + 8 * r.role.val

def State.faultWord (s : State) : Word :=
  pack [(0, 1, bit s.log.alarm), (1, 1, bit s.log.loss), (2, 1, bit s.log.fenced), (3, 1, bit s.logSusp),
        (4, 1, bit s.faultPin), (16, 16, s.log.last3.toNat)]

def State.errWord (s : State) : Word :=
  pack [(0, 16, s.log.lost), (16, 4, s.log.queue.length),
        (20, 2, match s.log.hand with
          | some e => e.rank
          | none => 0),
        (22, 1, bit s.log.hand.isSome)]

def State.page0 (s : State) (w : Nat) : Word :=
  let r := s.ports.routes.toList.map Route.field
  match w with
  | 0 => 0x50538128
  | 1 => 0x0103C142
  | 2 => s.lining.boot
  | 3 => pack [(0, 2, s.stateCode), (2, 1, bit s.floor.below), (16, 16, s.ports.xip.version)]
  | 4 => s.faultWord
  | 8 => pack [(0, 16, s.power.readyMs), (16, 2, s.power.cause)]
  | 9 => s.errWord
  | 10 => pack [(0, 16, s.dropw)]
  | 11 => packRow 5 (r.take 6)
  | 12 => packRow 5 (r.drop 6)
  | _ => 0

/-! ### Page 0x01 (Table 20-5) -/

def State.page1 (s : State) (w : Nat) : Word :=
  match w with
  | 0 => BitVec.ofNat 32 s.now
  | 1 => BitVec.ofNat 32 (s.now / 2 ^ 32)
  | 2 => pack [(0, 1, bit s.tally.ref), (1, 1, bit s.tally.f25), (2, 1, bit s.tally.present), (16, 16, s.tally.oscErr.toNat)]
  | 3 => pack [(0, 1, bit s.tally.noref)]
  | 4 => pack [(0, 2, s.tally.evt.toNat)]
  | _ => 0

/-! ### Page 0x02 (Tables 4-9, 5-6) -/

def State.floorWord (s : State) : Word :=
  pack [(0, 7, s.floor.pct), (7, 1, bit s.floor.below), (8, 8, min 255 s.floor.ratio), (16, 16, s.floor.credit)]

def State.runWord (s : State) : Word :=
  pack [(0, 16, (packRow 1 (allThreads.map (fun t => bit (s.delivers t)))).toNat),
        (16, 16, (packRow 1 (allThreads.map (fun t => bit (s.held t)))).toNat)]

/-- Two threads' ten-bit figures in one word, thread 2n low. -/
def pairWord (f : Thread → Nat) (n : Nat) : Word :=
  let t (k : Nat) : Thread := ⟨k % 16, Nat.mod_lt _ (by decide)⟩
  pack [(0, 10, f (t (2 * n))), (16, 10, f (t (2 * n + 1)))]

def State.page2 (s : State) (w : Nat) : Word :=
  match w with
  | 0 => packRow 2 (s.stateRow (allThreads.map .thread))
  | 1 => s.runWord
  | 2 => packRow 2 (s.lifeRow (allThreads.map .thread))
  | 3 => s.floorWord
  | 4 => pack [(0, 12, s.supply.rail10mV), (12, 1, bit s.supply.railOk), (13, 1, bit s.supply.paceLow)]
  | 5 => packRow 8 ((allThreads.filter (fun t => !isM t)).map (fun t => (s.thread t).servo % 128))
  | 6 => pack [(0, 4, s.capture.thread.val), (4, 2, s.capture.mode), (6, 1, bit s.capture.active), (7, 1, bit s.capture.done),
               (8, 21, s.capture.taken)]
  | 7 => pack [(0, 16, s.floor.trips), (16, 4, s.floor.lastThread), (20, 3, s.floor.lastKind)]
  | 8 => packRow 1 (allThreads.map (fun t => bit (s.thread t).custHold))
  | 9 => pack [(0, 5, s.floor.evt.toNat)]
  | w => if 16 ≤ w ∧ w < 24 then pairWord (fun t => liveEst t (s.thread t)) (w - 16) else 0

/-! ### Page 0x03 (Table 6-4) -/

/-- Blocks on the conditioning cores, waiting or open count against the reservoir (R195). -/
def State.condBlocks (s : State) : Nat :=
  (s.yoke.reservoir.length + 3) / 4 + (s.yoke.cores.toList.map (fun c => c.staged.length + bit c.block.isSome)).sum +
    s.yoke.waiting.length

/-- No block may open (R195). -/
def State.yokePaused (s : State) : Bool := decide (1023 < s.condBlocks) || s.yoke.paused

def State.page3 (s : State) (w : Nat) : Word :=
  match w with
  | 0 =>
    pack [(0, 13, s.yoke.reservoir.length), (13, 8, (s.yoke.cores.toList.map (·.staged.length)).sum),
          (21, 4, (packRow 1 (allFours.map (fun k => bit (s.lined && (s.digest.cores.get ⟨k.val, by omega⟩).inSvc)))).toNat),
          (25, 1, bit s.yokePaused), (26, 1, bit s.drawShort)]
  | 1 => BitVec.ofNat 32 s.yoke.blkCount
  | 2 => BitVec.ofNat 32 s.yoke.drawCount
  | 3 => pack [(0, 16, s.yoke.discCount)]
  | 4 => pack [(0, 4, s.yoke.evt.toNat)]
  | w => if 8 ≤ w ∧ w < 16 then pairWord (fun t => s.yoke.factors.get t) (w - 8) else 0

/-! ### Page 0x04 (Table 7-6) -/

def nth8 (n : Nat) : Sleeve := ⟨n % 8, Nat.mod_lt _ (by decide)⟩

def State.coreWord (s : State) : Word :=
  pack [(0, 8, (packRow 2 (s.stateRow allAes)).toNat), (8, 8, (packRow 2 (s.lifeRow allAes)).toNat)]

def State.page4 (s : State) (w : Nat) : Word :=
  match w with
  | 0 => s.coreWord
  | 1 => pack [(0, 8, s.fabric.freeTags), (8, 1, bit s.fabric.short)]
  | 2 => pack [(0, 16, s.fabric.mismatch), (16, 16, s.fabric.busyRef)]
  | 3 => pack [(0, 4, s.fabric.evt.toNat)]
  | w =>
    if 8 ≤ w ∧ w < 16 then
      let i := nth8 (w - 8)
      pack [(0, 7, s.fabric.quota.get i), (8, 2, s.fabric.pmax.get i), (16, 7, s.fabric.held.get i)]
    else 0

/-! ### Page 0x05 (Table 8-3) -/

def State.page5 (s : State) (w : Nat) : Word :=
  let p := s.pool
  match w with
  | 0 => packRow 2 (s.stateRow allBanks)
  | 1 => pack [(0, 13, p.inService), (13, 13, p.freeCount)]
  | 2 => pack [(0, 13, p.shared), (13, 13, p.freeShared), (26, 1, bit (decide (p.freeShared ≤ p.hem))),
      (27, 1, bit (decide (p.cut ≠ 0)))]
  | 3 => pack [(0, 10, p.ghem)]
  | 4 => packRow 2 (s.lifeRow allBanks)
  | 5 => pack [(0, 13, ((List.finRange 16).map p.tornCount).sum), (16, 12, p.lastTorn)]
  | 6 => pack [(0, 16, p.corr), (16, 16, p.uncorr)]
  | 7 => pack [(0, 7, p.evt.toNat)]
  | w =>
    if 8 ≤ w ∧ w < 16 then
      let i := nth8 (w - 8)
      pack [(0, 13, (p.per.get i).usedCnt), (13, 12, p.resOf i), (25, 1, bit (p.per.get i).bp)]
    else 0

/-! ### Pages 0x06 to 0x08 (Tables 15-9, 16-9, 3-7, 19-6) -/

def State.shaWord (s : State) : Word :=
  pack [(0, 12, (packRow 2 (s.stateRow allSha)).toNat), (12, 12, (packRow 2 (s.lifeRow allSha)).toNat)]

def State.page6 (s : State) (w : Nat) : Word :=
  match w with
  | 0 => s.shaWord
  | 1 => pack [(0, 16, s.digest.katFail), (16, 16, s.digest.glitch)]
  | 2 => pack [(0, 8, s.digest.clrCount), (8, 3, s.digest.clrLast)]
  | 3 => pack [(0, 5, s.digest.evt.toNat)]
  | _ => 0

def State.page7 (s : State) (w : Nat) : Word :=
  match w with
  | 0 => pack [(0, 2, s.lining.act), (2, 8, s.lining.maint), (10, 1, bit s.lining.doorOpen), (11, 1, bit s.lining.zeroPend)]
  | 1 => s.lining.secrets
  | 2 => pack [(0, 8, s.lining.badCopy), (8, 8, s.lining.recLost), (16, 8, s.lining.wrFail)]
  | 3 => pack [(0, 5, s.lining.evt.toNat)]
  | _ => 0

def State.statWord (s : State) : Word :=
  let p := s.supply
  pack [(0, 10, p.vcore), (10, 8, p.dieT), (18, 8, p.speed), (26, 1, bit p.limitTh), (27, 1, bit p.limitCeil),
        (28, 1, bit p.floorUnmet), (29, 1, bit p.pinOvr), (30, 1, bit (decide (p.share < 16) || s.yoke.paused)), (31, 1, bit p.ride)]

def State.page8 (s : State) (w : Nat) : Word :=
  let p := s.supply
  match w with
  | 0 => s.statWord
  | 1 => pack [(0, 16, p.vinMv), (16, 16, p.pinMw)]
  | 2 => pack [(0, 12, p.hold10mV), (12, 12, p.cap), (24, 4, min 15 s.lining.pending.length)]
  | 3 => pack [(0, 16, min 65535 s.eavailShown)]
  | 4 => p.policy
  | 5 => pack [(0, 11, p.evt.toNat)]
  | 6 => pack [(0, 16, p.dips), (16, 16, p.denied)]
  | 7 => pack [(0, 5, s.power.wakeWhy.toNat)]
  | _ => 0

/-! ### Page 0x09 (Tables 12-7, 14-2) -/

/-- Width code: 2, 4 and 8 lanes as 1, 2 and 3; 0 retired or off. -/
def widthCode (w : Nat) : Nat := if w = 8 then 3 else if w = 4 then 2 else if w = 2 then 1 else 0

/-- The width a port shows: 0 when retired or off. -/
def PortSt.shown (p : PortSt) : Nat := if p.on && decide (p.health.st ≠ .retired) then p.width else 0

/-- Port F is powered as A and B are (Table 1-4, R363). -/
def State.fWidth (s : State) : Nat := if (s.ports.ports.get 0).on then s.ports.xip.fWidth else 0

/-- The port masters while its transfer queue holds an entry (R423, R426). -/
def PortSt.mastering (p : PortSt) : Bool := !p.queue.isEmpty && p.trained && !p.mmf

def State.page9 (s : State) (w : Nat) : Word :=
  let ps := s.ports.ports.toList
  match w with
  | 0 =>
    pack [(0, 6, (packRow 2 (ps.map (fun p => widthCode p.shown))).toNat), (6, 2, widthCode s.fWidth),
          (8, 3, (packRow 1 (ps.map (fun p => bit p.trained))).toNat)]
  | 1 => packRow 2 (s.stateRow lanesAB)
  | 2 => packRow 2 (s.stateRow (lanesM ++ allPorts))
  | 3 =>
    pack [(0, 1, bit (s.ports.ports.get 0).mmf), (1, 1, bit (s.ports.ports.get 1).mmf),
          (2, 1, bit (s.ports.ports.get 0).mastering), (3, 1, bit (s.ports.ports.get 1).mastering), (4, 1, bit s.ports.xip.off)]
  | 4 => packRow 2 (s.lifeRow lanesAB)
  | 5 => packRow 2 (s.lifeRow (lanesM ++ allPorts))
  | 6 => pack [(0, 16, (s.ports.ports.get 0).fail), (16, 16, (s.ports.ports.get 1).fail)]
  | 7 => pack [(0, 16, (s.ports.ports.get 2).fail)]
  | 8 => pack [(0, 5, s.ports.xip.smp), (5, 2, s.ports.xip.clk)]
  | 9 => s.ports.xip.rdcmd
  | 10 => pack [(0, 16, s.ports.xip.f0fail), (16, 16, s.ports.xip.fault)]
  | w => if 16 ≤ w ∧ w < 24 then pack [(0, 3, (s.ports.pcfg.get (nth8 (w - 16))).toNat)] else 0

/-! ### Pages 0x0A and 0x0B (Tables 17-9, 18-4) -/

/-- The units a slice covers (Table 17-1). -/
def sliceUnits (k : Fin 32) : List UnitRef :=
  if k.val < 16 then [.thread ⟨k.val % 16, Nat.mod_lt _ (by decide)⟩]
  else if k.val < 20 then [.aes ⟨(k.val - 16) % 4, Nat.mod_lt _ (by decide)⟩]
  else if k.val < 26 then [.sha ⟨(k.val - 20) % 6, Nat.mod_lt _ (by decide)⟩]
  else if k.val < 30 then ((List.finRange 16).filter (fun b => b.val / 4 = k.val - 26)).map .bank
  else if k.val = 30 then ((List.finRange 20).filter (fun l => l.val < 8 ∨ 16 ≤ l.val)).map .lane
  else ((List.finRange 20).filter (fun l => 8 ≤ l.val ∧ l.val < 16)).map .lane

def State.page10 (s : State) (w : Nat) : Word :=
  let b := s.bist
  match w with
  | 0 =>
    pack ([(16, 3, b.queue.length)] ++
      ((b.active.take 2).mapIdx (fun i r => [(8 * i, 7, r.slice.val), (8 * i + 7, 1, 1)])).flatten)
  | 1 => packRow 1 ((List.finRange 32).map (fun k => bit (b.active.any (fun r => r.slice == k))))
  | 2 => b.failed
  | 3 => pack [(0, 16, b.runs), (16, 16, b.fails)]
  | 4 => pack [(0, 4, b.evt.toNat)]
  | _ => 0

def State.page11 (s : State) (w : Nat) : Word :=
  match w with
  | 0 => s.log.next
  | 1 => pack [(0, 7, s.log.spares.length), (16, 16, s.log.wfail)]
  | 2 => pack [(0, 3, (s.log.lr.filter (fun e => !e.2)).length), (16, 16, s.log.overflow)]
  | _ => 0

/-- A word of a global page; reserved words read 0 (R580). -/
def State.globalWord (s : State) (page w : Nat) : Word :=
  match page with
  | 0 => s.page0 w
  | 1 => s.page1 w
  | 2 => s.page2 w
  | 3 => s.page3 w
  | 4 => s.page4 w
  | 5 => s.page5 w
  | 6 => s.page6 w
  | 7 => s.page7 w
  | 8 => s.page8 w
  | 9 => s.page9 w
  | 10 => s.page10 w
  | 11 => s.page11 w
  | _ => 0

/-! ### Sleeve pages (Table 21-1) -/

def State.qstat (s : State) (i : Sleeve) : Word :=
  let x := s.sleeve i
  pack [(0, 4, x.cmdq.length), (8, 6, x.replies.length), (16, 6, s.resv i)]

def State.instWord (s : State) (i : Sleeve) : Word :=
  packRow 8 (allFours.map (fun k => (s.inst i k).code + 8 * min 3 (s.inst i k).prio))

/-- The state code of Table 11-15. -/
def Slot.code (x : Slot) : Nat :=
  match x.health.st with
  | .retired => 5
  | .quarantined => 4
  | .inService => x.hash

def slotOf (i : Sleeve) (k : Fin 4) : Fin 32 := ⟨4 * i.val + k.val, by omega⟩

def State.kslot (s : State) (i : Sleeve) : Word :=
  pack [(0, 16, (packRow 4 (allFours.map (fun k => (s.slot (slotOf i k)).code))).toNat),
        (16, 4, (packRow 1 (allFours.map (fun k => bit (s.slot (slotOf i k)).owned))).toNat),
        (20, 1, bit (s.sleeve i).cmdKey.present), (21, 1, bit (s.sleeve i).cmdKey.transport)]

/-- Word 0 of the pattern a stream shows: the pattern in use, or the live bank where it does not run (R611). -/
def SleeveSt.shownPat (x : SleeveSt) (n : Fin 4) : Word :=
  if (x.streams.get n).running then (x.streams.get n).pat0 else x.live.get ⟨2 * n.val, by omega⟩

def SleeveSt.strm (x : SleeveSt) : Word :=
  packRow 8 (allFours.map (fun n =>
    bit (x.streams.get n).running + 2 * bit (patPush (x.shownPat n)) + 4 * bit (patSeal (x.shownPat n)) +
      16 * (x.streams.get n).ready))

def SleeveSt.sctr (x : SleeveSt) (n : Nat) : Word :=
  let k (j : Nat) : Fin 4 := ⟨j % 4, Nat.mod_lt _ (by decide)⟩
  pack [(0, 16, (x.streams.get (k (2 * n))).record.toNat % 65536),
        (16, 16, (x.streams.get (k (2 * n + 1))).record.toNat % 65536)]

/-- State of a push entry (Table 21-5): LOST and suspended before active; active while the live entry is enabled. -/
def SleeveSt.pushState (x : SleeveSt) (e : Fin 4) : Nat :=
  let p := x.pushes.get e
  if p.lost then 2
  else if p.suspended then 3
  else if (x.live.get ⟨8 + 4 * e.val, by omega⟩).getLsbD 2 then 1
  else 0

def SleeveSt.pushWord (x : SleeveSt) : Word :=
  packRow 8 (allFours.map (fun e =>
    x.pushState e + 4 * (x.pushes.get e).doublings + 16 * bit (x.pushes.get e).lastMissed))

/-- The algorithm code a context shows: 3 under a key slot (Table 11-11). -/
def Context.algCode (c : Context) : Nat := if c.hmac.isSome then 3 else c.alg

def State.dctx (s : State) (i : Sleeve) : Word :=
  pack [(0, 24, (packRow 6 (allFours.map (fun k =>
          let c := s.ctx i k
          c.state + 4 * c.algCode + 16 * bit c.route + 32 * bit c.cmd.isSome))).toNat),
        (24, 2, (s.sleeve i).dsel.val), (26, 1, bit (s.sleeve i).dhalf)]

/-- What the result window shows a sleeve: the 32 bytes, and the DGT_ERR bit a zero read sets, 1 EARLY or 2 NORES (R471). -/
def State.window (s : State) (i : Sleeve) : List Byte × BitVec 5 :=
  let x := s.sleeve i
  let c := s.ctx i x.dsel
  let zeros : List Byte := List.replicate 32 0
  if s.digest.clearing then (zeros, 2)
  else if c.state = 1 then (zeros, 1)
  else if c.state ≠ 3 ∨ (x.dhalf = true ∧ c.result.length ≤ 32) then (zeros, 2)
  else (((if x.dhalf then c.result.drop 32 else c.result) ++ zeros).take 32, 0)

def State.windowWord (s : State) (i : Sleeve) (n : Nat) : Word :=
  BitVec.ofNat 32 (bytesNat (((s.window i).1.drop (4 * n)).take 4))

/-- A word of a sleeve page but PAGE. -/
def State.sleeveWord (s : State) (i : Sleeve) (w : Nat) : Word :=
  let x := s.sleeve i
  let p := s.pool.per.get i
  match w with
  | 0 => s.qstat i
  | 1 => s.instWord i
  | 2 => pack [(0, 7, s.fabric.held.get i), (8, 7, s.fabric.quota.get i), (16, 2, s.fabric.pmax.get i)]
  | 3 => BitVec.ofNat 32 (s.inst i 0).belowCount
  | 4 => BitVec.ofNat 32 (s.inst i 1).belowCount
  | 5 => BitVec.ofNat 32 (s.inst i 2).belowCount
  | 6 => BitVec.ofNat 32 (s.inst i 3).belowCount
  | 7 => pack [(0, 13, p.usedCnt), (13, 12, min (s.pool.avail i) p.hemHigh), (25, 1, bit p.bp), (26, 1, bit p.low)]
  | 8 => p.hems
  | 9 => pack [(0, 3, p.evt.toNat)]
  | 10 => x.seqHi
  | 11 => x.epoch
  | 12 => pack [(0, 10, x.tmo)]
  | 13 => pack [(0, 8, x.authf), (8, 8, x.replay), (16, 8, x.tmoCnt), (24, 8, x.dup)]
  | 14 => pack [(0, 16, x.undr), (16, 16, x.aflt)]
  | 15 => pack [(0, 7, x.alrt.toNat)]
  | 16 => s.kslot i
  | 17 => x.strm
  | 18 => x.sctr 0
  | 19 => x.sctr 1
  | 20 => x.pushWord
  | 21 => s.dctx i
  | 30 => pack [(0, 5, x.dgtErr.toNat)]
  | w => if 22 ≤ w ∧ w < 30 then s.windowWord i (w - 22) else 0

/-- The PAGE word of a select (Table 13-2). -/
def State.pageWord (s : State) (c : Sel) : Word :=
  let r := s.route c
  pack [(0, 8, (s.sel c).page.toNat), (8, 3, if r.role = 1 then r.sl.val else 0), (11, 2, r.role.val)]

/-- The word at an absolute address as a select reads it (R393, R395). -/
def State.readWord (s : State) (c : Sel) (addr : Nat) : Word :=
  let page := addr / 32
  let w := addr % 32
  if w = 31 then s.pageWord c
  else if page < 16 then s.globalWord page w
  else s.sleeveWord (nth8 (page - 16)) w

end Sys2Proof.Machine
end

