-- ==== Sys2Proof/Machine/Wire.lean ====
section
/-! DEFINITION. How frames travel on the lanes: frame kinds, the bits of command and count bytes, data phases, PRBS-7 and a
lane's window (R371, R373, R387 to R390). -/

namespace Sys2Proof.Machine

/-! ### The command byte (Table 13-1, R388) -/

/-- Frame kinds, with what bits [4:0] carry. -/
inductive FrameKind where
  | readReg (word : Fin 32)
  | writeReg (word : Fin 32)
  | pushCmd
  | popReply
  | streamRead (stream : Fin 4)
  | status
  | train
  | reserved
  deriving DecidableEq, Repr

/-- The kind that a command byte names. A STREAM_READ with [4:2] not zero names the stream in [1:0] (DESIGN CHOICE, assumption
log 77). -/
def frameKind (b : Byte) : FrameKind :=
  let low : Fin 32 := ⟨b.toNat % 32, Nat.mod_lt _ (by decide)⟩
  match b.toNat / 32 with
  | 0 => .readReg low
  | 1 => .writeReg low
  | 2 => .pushCmd
  | 3 => .popReply
  | 4 => .streamRead ⟨b.toNat % 4, Nat.mod_lt _ (by decide)⟩
  | 5 => .status
  | 6 => .train
  | _ => .reserved

/-- A command byte of a kind code and its low bits. -/
def cmdByte (kind : Nat) (low : Fin 32) : Byte := BitVec.ofNat 8 (32 * kind + low.val)

/-- Lane 1 and lane 0 in each of the four periods of a command or count byte. -/
def serialBits (b : Byte) : List (Bool × Bool) := (List.range 4).map (fun k => (b.getLsbD (7 - 2 * k), b.getLsbD (6 - 2 * k)))

/-- The byte that four periods carry. -/
def serialByte (ps : List (Bool × Bool)) : Byte :=
  BitVec.ofNat 8 (ps.foldl (fun n p => 4 * n + 2 * p.1.toNat + p.2.toNat) 0)

/-! ### Data phases (R389) -/

/-- The bits of one byte at width `w`, one entry per UI, lane j in bit j. -/
def byteUIs (w : Nat) (b : Byte) : List Byte :=
  (List.range (8 / w)).map (fun k => (b >>> (8 - w * (k + 1))) &&& BitVec.ofNat 8 (2 ^ w - 1))

/-- A phase as it stands on the logical lanes. -/
def phaseUIs (w : Nat) (bs : List Byte) : List Byte := bs.flatMap (byteUIs w)

/-- The bytes of a phase of `n` bytes from its UIs. -/
def phaseBytes (w : Nat) : Nat → List Byte → List Byte
  | 0, _ => []
  | n + 1, us => (us.take (8 / w)).foldl (fun b u => (b <<< w) ||| u) 0 :: phaseBytes w n (us.drop (8 / w))

/-! ### PRBS-7 (R371) -/

/-- One UI of the generator: s[6] xor s[5] is shifted into s[0]. -/
def prbsNext (s : Nat) : Nat := (2 * s + (s / 64 + s / 32) % 2) % 128

/-- The next `n` bits from a register, the first in bit 0. -/
def prbsBits : Nat → Nat → Nat
  | 0, _ => 0
  | n + 1, s => prbsNext s % 2 + 2 * prbsBits n (prbsNext s)

/-- The bits of lane `n` in an inbound phase of 1024 UI. -/
def prbsLane (n : Nat) : BitVec 1024 := BitVec.ofNat 1024 (prbsBits 1024 (n + 1))

/-- The outbound phase of a TRAIN frame: 256 UI on logical lanes 0 to w - 1, as bytes of the phase. -/
def trainOut (w : Nat) : List Byte :=
  let lanes := (List.range w).map (fun j => prbsBits 256 (j + 1))
  let uis := (List.range 256).map (fun k => BitVec.ofNat 8 ((lanes.mapIdx (fun j x => (x.testBit k).toNat * 2 ^ j)).sum))
  phaseBytes w (32 * w) uis

/-! ### Windows (R373) -/

/-- The widest run of phases that are good: its first phase and its length; the first of equal runs. `at_` is the phase looked
at, `run` the length of the run that ends before it. -/
def widestRun : List Bool → Nat → Nat → Nat × Nat → Nat × Nat
  | [], _, _, best => best
  | true :: r, at_, run, best => widestRun r (at_ + 1) (run + 1) (if best.2 < run + 1 then (at_ - run, run + 1) else best)
  | false :: r, at_, _, best => widestRun r (at_ + 1) 0 best

/-- A lane's window in an inbound phase, in 32nds of a UI. -/
def laneWindow (l : Fin 8) (phases : List (BitVec 1024)) : Nat × Nat :=
  widestRun ((phases.take 32).map (· == prbsLane l.val)) 0 0 (0, 0)

/-- The centre of a window, in 64ths of a UI. -/
def windowCentre (w : Nat × Nat) : Nat := 2 * w.1 + w.2 - 1

/-- The lane passes: 0.35 UI on ports A and B, without error on port M. -/
def lanePasses (p : Fin 3) (l : Fin 8) (phases : List (BitVec 1024)) : Bool :=
  if p = 2 then phases.head? == some (prbsLane l.val) else decide (35 * 32 ≤ 100 * (laneWindow l phases).2)

/-- The distance of two points within one UI, in 64ths. -/
def uiApart (a b : Nat) : Nat := min ((a + 64 - b) % 64) ((b + 64 - a) % 64)

/-- The sampling point that tracking sets: within 0.25 UI of the trained centre (R376). -/
def trackPoint (centre : Nat) (drift : Int) : Nat := (((centre : Int) + max (-16) (min 16 drift)) % 64).toNat

/-- A transition within 0.15 UI of the sampling point (R376). -/
def isMargin (point : Nat) (edge : Fin 64) : Bool := decide (100 * uiApart edge.val point ≤ 15 * 64)

end Sys2Proof.Machine
end

