-- ==== Sys2Proof/Machine/FrameOps.lean ====
section
/-! DEFINITION. Slave frames' shared operations: which frames a select serves, access to words, trailers, CRC charges, pops
and stream records (chapter 13). -/

namespace Sys2Proof.Machine

/-! ### Whether and how a frame is served (R370, R392, R422) -/

def State.portSt (s : State) (c : Sel) : PortSt := s.ports.ports.get (selPort c)
def State.role (s : State) (c : Sel) : Nat := (s.route c).role.val
def State.selSleeve (s : State) (c : Sel) : Sleeve := (s.route c).sl

/-- The port carries frames other than TRAIN on this select. -/
def State.serves (s : State) (c : Sel) : Bool :=
  let p := s.portSt c
  p.on && p.trained && decide (p.health.st ≠ .retired) && decide (s.role c ≠ 2)

/-- Fold, on port M (Table 13-10). -/
def State.foldM (s : State) (c : Sel) : Bool := decide (s.power.phase = .fold) && decide (selPort c = 2)

/-- READY is low and the fold column does not apply (Table 13-10). -/
def State.early (s : State) (c : Sel) : Bool := !s.ready && !s.foldM c

/-- A READ_REG frame reads nothing yet; in a wake port M serves it (19.5.1). -/
def State.earlyRead (s : State) (c : Sel) : Bool :=
  s.early c && !(decide (s.power.phase = .waking) && decide (selPort c = 2))

/-- The select is a slave of an in-service sleeve (Table 18-2). -/
def State.fencedSleeve (s : State) (c : Sel) : Bool := decide ((s.sleeve (s.selSleeve c)).health.st ≠ .inService)

/-! ### Access (Table 13-3, R394, R579) -/

/-- Subset words of a global page (Table 20-1). -/
def subsetWords (page : Nat) : Nat :=
  match page with
  | 0 => 5
  | 1 => 3
  | 2 => 4
  | 4 => 1
  | 5 => 1
  | 6 => 1
  | 8 => 2
  | 9 => 4
  | _ => 0

/-- The requester may read words of this page. -/
def State.pageOk (s : State) (c : Sel) (page : Nat) : Bool :=
  match s.role c with
  | 1 =>
    if s.selSleeve c = 0 then decide (page ≤ 16)
    else decide (page = 16 + (s.selSleeve c).val) || decide (0 < subsetWords page)
  | 3 => decide (0 < subsetWords page)
  | _ => false

/-- A word is permitted in a READ_REG frame. -/
def State.mayRead (s : State) (c : Sel) (addr : Nat) : Bool :=
  let page := addr / 32
  let w := addr % 32
  s.pageOk c page &&
    (decide (w = 31) || decide (w < subsetWords page) || (decide (s.role c = 1) && (s.selSleeve c = 0 || decide (16 ≤ page))))

/-- A word is permitted in a WRITE_REG frame, with the PAGE value it would write (R394, R397). -/
def State.mayWrite (s : State) (c : Sel) (addr : Nat) (v : Word) : Bool :=
  let page := addr / 32
  let w := addr % 32
  s.pageOk c page &&
    (if w = 31 then s.pageOk c (v.toNat % 256)
     else decide (s.role c = 1) && (s.selSleeve c = 0 || decide (16 ≤ page)))

/-! ### What the module drives (R403) -/

/-- Drive bytes without a trailer. -/
def drive (c : Sel) (data trailer : List Byte) : State → State := modSel c (fun x => { x with out := ⟨data, trailer, []⟩ })

/-- The frame ends with a trailer, and the select's frame counter advances. -/
def endFrame (c : Sel) (data : List Byte) (st : Byte) (detail : Nat) (s : State) : State :=
  let n := (s.sel c).frames
  modSel c (fun x => { x with frames := x.frames + 1, out := ⟨data, [st, BitVec.ofNat 8 detail] ++ natBytes 2 n.toNat, []⟩ }) s

/-- Trailer statuses of Table 13-4 that Table 10-4 lacks. -/
abbrev trCrcFail : Byte := 0x30
abbrev trUnderrun : Byte := 0x31
abbrev trEmpty : Byte := 0x32
abbrev trIdle : Byte := 0x33

/-- Raise a frame event whose source is the sleeve the select belongs to, or the module. -/
def raiseSel (code : BitVec 16) (c : Sel) (s : State) : State :=
  if s.role c = 1 then raiseS code (s.selSleeve c) [BitVec.ofNat 8 c.val] s else raiseD code [BitVec.ofNat 8 c.val] s

/-- A frame or record that carried UNDERRUN (R421). -/
def noteUnderrun (c : Sel) (s : State) : State :=
  let s := if s.role c = 1 then modSleeve (s.selSleeve c) (fun x => { x with undr := satAdd 16 x.undr 1 }) s else s
  if everySecond (s.sel c).lastUndr s.now then raiseSel 0x9010 c (modSel c (fun x => { x with lastUndr := some s.now }) s)
  else s

/-- A frame that carried ACCESS_FAULT (R421). -/
def noteAccess (c : Sel) (s : State) : State :=
  let s := if s.role c = 1 then modSleeve (s.selSleeve c) (fun x => { x with aflt := satAdd 16 x.aflt 1 }) s else s
  if everySecond (s.sel c).lastAflt s.now then raiseSel 0x9011 c (modSel c (fun x => { x with lastAflt := some s.now }) s)
  else s

/-! ### CRC failures and lane charges (R312, R376, R377) -/

/-- Lanes of a port in service, lowest first. -/
def State.lanesUp (s : State) (p : Fin 3) : List (Fin 8) :=
  (portLanes p).filter (fun l => (s.ports.lanes.get (laneFin p l)).health.inSvc)

/-- The active lanes: the lowest-numbered in service, as many as the width (R366). -/
def State.active (s : State) (p : Fin 3) : List (Fin 8) := (s.lanesUp p).take (s.ports.ports.get p).width

/-- Widest of 8, 4 and 2 lanes. -/
def widest (n : Nat) : Nat := if 8 ≤ n then 8 else if 4 ≤ n then 4 else if 2 ≤ n then 2 else 0

/-- A lane fault (R377): the burst quarantines or retires the lane, with its event and alerts (a lost event raises none, R534), and
untrains the port; on a lane already quarantined it is a fault during its recovery (R167). -/
def laneFault (p : Fin 3) (l : Fin 8) (s : State) : State :=
  let u := UnitRef.lane (laneFin p l)
  let data := [BitVec.ofNat 8 (laneFin p l).val]
  let told := s.unitWaits u || (placeEv (mkEv s 0x9001 15 data) s.log).2
  if (s.health u).st = .retired then s
  else
    s |> modLane (laneFin p l) (fun x => { x with charges := [] })
      |> untrain p
      |> when' told (alertLane p)
      |> faultUnit u 0x9001 15 data
      |> checkPort p

/-- One charge to a lane: four within 1 ms make a burst. -/
def charge (p : Fin 3) (l : Fin 8) (s : State) : State :=
  let k := laneFin p l
  let cs := (s.now :: (s.ports.lanes.get k).charges).take 4
  let s := modLane k (fun x => { x with charges := cs }) s
  if cs.length = 4 ∧ s.now - cs.getLastD 0 < 1000 then laneFault p l s else s

/-- The sampling points follow the data transitions of an inbound phase, on the active lanes of ports A and B (R376). -/
def trackLanes (f : FrameIn) (s : State) : State :=
  let p := selPort f.sel
  if p = 2 then s
  else
    let act := s.active p
    forAll (f.lanes.filter (fun x => act.contains x.lane))
      (fun x => modLane (laneFin p x.lane) (fun l => { l with point := trackPoint l.centre x.drift })) s

/-- Active lanes that recorded a margin event during the frame. -/
def State.marginLanes (s : State) (f : FrameIn) : List (Fin 8) :=
  let p := selPort f.sel
  if p = 2 then []
  else (s.active p).filter (fun l => f.lanes.any (fun x => x.lane == l &&
    x.edges.any (isMargin (s.ports.lanes.get (laneFin p l)).point)))

/-- A failed push or write frame: the port's counter, the charges to active lanes with a margin event, and, for pushes, the
charges of the fourth and further consecutive failures. -/
def crcFailed (f : FrameIn) (push : Bool) (s : State) : State :=
  let p := selPort f.sel
  let act := s.active p
  let hit := s.marginLanes f
  let s := modPort p (fun x => { x with fail := satAdd 16 x.fail 1 }) s
  let s := if push then modSel f.sel (fun x => { x with fails := x.fails + 1 }) s else s
  let s := forAll hit (charge p) s
  if push && decide (4 ≤ (s.sel f.sel).fails) then forAll act (charge p) s else s

/-- The frame's CRC-32 over the command byte, the count byte and the data (R390). -/
def crcOk (f : FrameIn) (cmd count : Byte) (data : List Byte) : Bool := f.crc == crc32 (cmd :: count :: data)

/-! ### Module-driven data phases (R403, R404, R408, R409, R421) -/

/-- The Seam holds RDY high in a data phase: it buffers 64 bytes of it, or the whole remainder (R408). -/
def rdyIn (buffered remainder : Nat) : Bool := decide (64 ≤ buffered) || decide (remainder ≤ buffered)

/-- Of `n` words, those not held at their first UI. -/
def goneWords (sh : Shift) (n : Nat) : List Nat := match sh with
  | .underrun ws => (List.range n).filter (fun k => ws.contains k)
  | _ => []

/-- Of `n` bytes, how many are shifted out. -/
def shiftedBytes (sh : Shift) (n : Nat) : Nat := match sh with
  | .cut b => min b n
  | _ => n

/-- Replace the words at the named positions by the word driven before them; `prev` is the word before the first. -/
def repeatWords (gone : List Nat) : Nat → Word → List Word → List Word
  | _, _, [] => []
  | n, prev, w :: r =>
    let d := if gone.contains n then prev else w
    d :: repeatWords gone (n + 1) d r

/-- Trailer statuses that go before UNDERRUN (R404). -/
def beforeUnderrun (st : Byte) : Bool := st == stNotReady || st == stBadLength || st == trCrcFail

/-- A data phase and its trailer. The word repeated before the first of a frame is free (DESIGN CHOICE, assumption log 4). -/
def readAnswer (c : Sel) (data : List Byte) (st : Byte) (detail : Nat) (sh : Shift) (s : State) : State :=
  let gone := goneWords sh (data.length / 4)
  if shiftedBytes sh (data.length + 4) < data.length + 4 then drive c (data.take (shiftedBytes sh (data.length + 4))) [] s
  else if gone.isEmpty then
    let t := endFrame c data st detail s
    if st = stAccessFault then noteAccess c t else t
  else
    let out := wordsBytes (repeatWords gone 0 s.freeValue (bytesWords data))
    if beforeUnderrun st then endFrame c out st detail (useFree s)
    else noteUnderrun c (endFrame c out trUnderrun (min 255 gone.length) (useFree s))

/-! ### READ_REG (R395, R396, R471, R582) -/

/-- Effects of sampling one word: the result window's DGT_ERR bit, once for the frame. -/
def sampleWord (c : Sel) (addr : Nat) (first : Bool) (s : State) : State :=
  let page := addr / 32
  let w := addr % 32
  if 16 ≤ page ∧ 22 ≤ w ∧ w < 30 ∧ first = true then
    let i := s.selSleeve c
    dgtErr i (s.window i).2 s
  else s

/-- PWR_WAKEWHY was read: the bits it returned clear, bits that hardware set meanwhile stay, and WAKE# is released once no
device bit is left (R13, R573). Hardware sets bits only in fold or in a wake transition (R572). -/
def clearWakeWhy (seen during : BitVec 5) (s : State) : State :=
  let d := if decide (s.power.phase = .fold) || decide (s.power.phase = .waking) then during else 0
  modPower (fun p =>
    let w := (p.wakeWhy &&& ~~~ seen) ||| d
    { p with wakeWhy := w, wakePin := (p.wakePin || (d &&& 0x1C) != 0) && (w &&& 0x1C) != 0 }) s

def wakeWhyAddr : Nat := 8 * 32 + 7

/-- Read the words at consecutive addresses, in order: `n` words left, `k` the index of the next, `held` the words held and
`out` the words fully shifted out. -/
def readWords (c : Sel) (base : Nat) (gone : List Nat) (outWords : Nat) (during : BitVec 5) :
    Nat → Nat → Bool → State → List Word × State
  | 0, _, _, s => ([], s)
  | n + 1, k, win, s =>
    let addr := base + k
    if gone.contains k then
      let r := readWords c base gone outWords during n (k + 1) win s
      (0 :: r.1, r.2)
    else
      let isWin := decide (16 ≤ addr / 32) && decide (22 ≤ addr % 32) && decide (addr % 32 < 30)
      let v := s.readWord c addr
      let s := sampleWord c addr (isWin && !win) s
      let s := if addr = wakeWhyAddr ∧ k < outWords then clearWakeWhy (v.extractLsb' 0 5) during s else s
      let r := readWords c base gone outWords during n (k + 1) (win || isWin) s
      (v :: r.1, r.2)

/-- Words of `n` from index 0 that are permitted before the first forbidden one (R396). -/
def State.permitted (s : State) (c : Sel) (base n : Nat) : Nat :=
  ((List.range n).takeWhile (fun k => s.mayRead c (base + k))).length

/-- A READ_REG frame. -/
def readFrame (f : ReadFrame) (s : State) : State :=
  let c := f.sel
  let n := f.count
  if !s.serves c then drive c [] [] s
  else if s.earlyRead c then readAnswer c (List.replicate (4 * n) 0) stNotReady 0 f.shift s
  else
    let base := 32 * (s.sel c).page.toNat + f.word.val
    let ok := s.permitted c base n
    let shifted := shiftedBytes f.shift (4 * n + 4)
    let begun := min ok ((shifted + 3) / 4)
    let r := readWords c base (goneWords f.shift n) (shifted / 4) f.during begun 0 false s
    let data := wordsBytes (r.1 ++ List.replicate (n - begun) 0)
    if ok < n then readAnswer c data stAccessFault ok f.shift r.2 else readAnswer c data stOk 0 f.shift r.2

/-! ### Stream records (R411 to R419, R639) -/

/-- Header word of a record (Table 13-8). -/
def recordHeader (len : Nat) (isSealed capture : Bool) (n : Nat) : Word :=
  pack [(0, 11, len), (11, 1, bit isSealed), (12, 1, bit capture), (13, 2, n)]

/-- A record as it is driven: header, payload, seal, CRC-32 over them and the trailer, trailer. -/
def recordBytes (body : List Byte) (st : Byte) (detail counter : Nat) : List Byte × List Byte :=
  let tr := [st, BitVec.ofNat 8 detail] ++ natBytes 2 (counter % 65536)
  (body ++ wordBytes (crc32 (body ++ tr)), tr)

/-- Append a record to what the select drives. -/
def driveRecord (c : Sel) (r : List Byte × List Byte) : State → State :=
  modSel c (fun x => { x with out := ⟨x.out.data ++ x.out.trailer ++ r.1, r.2, x.out.periods⟩ })

/-- What the read may go on with after a record: another record, nothing, or zero words (R417, R418). -/
inductive After where
  | more | stop | zeros
  deriving DecidableEq, Repr

/-- Drive the first bytes of a record that is cut off: no trailer. -/
def driveCut (c : Sel) (r : List Byte × List Byte) (b : Nat) : State → State :=
  modSel c (fun x => { x with out := ⟨x.out.data ++ x.out.trailer ++ (r.1 ++ r.2).take b, [], x.out.periods⟩ })

/-- A record with LEN 0: its trailer counts once it is shifted out (R421). Every word of it is held. -/
def emptyRecord (c : Sel) (n : Nat) (st : Byte) (counter : Nat) (sh : Shift) (s : State) : State × After :=
  let r := recordBytes (wordBytes (recordHeader 0 false false n)) st 0 counter
  match sh with
  | .cut b => if b < 12 then (driveCut c r b s, .stop) else (noteEmpty st (driveRecord c r s), .zeros)
  | _ => (noteEmpty st (driveRecord c r s), .zeros)
where
  noteEmpty (st : Byte) (s : State) : State :=
    if st = trUnderrun then noteUnderrun c s else if st = stAccessFault then noteAccess c s else s

/-- Zero bytes that an entry clocks after a record with LEN 0 (R418). -/
def clockedBytes : Shift → Nat
  | .full => 4
  | .cut b => b
  | .underrun ws => 4 * ws.length

/-- The zero words of the rest of a frame. -/
def zeroWords (c : Sel) (records : List Shift) : State → State :=
  driveRecord c (List.replicate ((records.map clockedBytes).sum) 0, [])

/-- A frame that is one record with LEN 0, and zero words. -/
def emptyFrame (c : Sel) (n : Nat) (st : Byte) (counter : Nat) : List Shift → State → State
  | [], s => s
  | sh :: r, s =>
    let q := emptyRecord c n st counter sh s
    if q.2 = .zeros ∧ r ≠ [] then zeroWords c r q.1 else q.1

/-- Send a record that is claimed: `unheld` are words the Seam can not hold, after the header, which is always held (R409, R411,
R416); UNDERRUN goes before INTERNAL (R404). -/
def sendRecord (c : Sel) (body : List Byte) (unheld : List Nat) (st : Byte) (counter : Nat) (sh : Shift) (s : State) :
    State × After :=
  let n := (body.length + 3) / 4
  let gone := (List.range n).filter (fun w => decide (0 < w) && (unheld.contains w || (goneWords sh n).contains w))
  let pad := body ++ List.replicate ((4 - body.length % 4) % 4) 0
  let out := (wordsBytes (repeatWords gone 0 0 (bytesWords pad))).take body.length
  let r := recordBytes out (if gone.isEmpty then st else trUnderrun) (min 255 gone.length) counter
  if shiftedBytes sh (body.length + 8) < body.length + 8 then (driveCut c r (shiftedBytes sh (body.length + 8)) s, .stop)
  else
    let s := driveRecord c r s
    (if gone.isEmpty then s else noteUnderrun c s, .more)

/-- The bytes of the capture chain that the next record may take, and that record's number: an earlier capture's rest first;
of a running capture only whole pockets (R419). -/
def Capture.front (k : Capture) : List Byte × Nat :=
  match k.older with
  | (b, _, n) :: _ => (b, n)
  | [] =>
    let b := k.bytes.drop k.readPos
    (if k.active then b.take (b.length / 64 * 64) else b, k.records)

/-- Pockets of the first `len` bytes of the capture chain. -/
def Capture.frontPockets (k : Capture) (len : Nat) : List Nat :=
  match k.older with
  | (_, ps, _) :: _ => ps.take ((len + 63) / 64)
  | [] => k.pockets.take ((len + 63) / 64)

/-- The capture chain after a record of `len` bytes was taken. -/
def Capture.advance (k : Capture) (len : Nat) : Capture :=
  match k.older with
  | (b, ps, n) :: r =>
    let b' := b.drop len
    { k with older := if b'.isEmpty then r else (b', ps.drop ((len + 63) / 64), n + 1) :: r }
  | [] => { k with readPos := k.readPos + len, records := k.records + 1, pockets := k.pockets.drop ((len + 63) / 64) }

/-- One capture record (R419), or none while no filled pocket waits. -/
def captureRecord (c : Sel) (sh : Shift) (s : State) : State × After :=
  let k := s.capture
  let len := min 1024 k.front.1.length
  if len = 0 ∨ sh = .cut 0 then (s, .stop)
  else
    sendRecord c (wordBytes (recordHeader len false true 0) ++ k.front.1.take len) [] stOk k.front.2 sh
      (s |> releasePockets (k.frontPockets len) |> modCapture (fun q => q.advance len))

/-- Claim the head frame of a chain: its pockets leave the chain, its number is used (R416). -/
def claimFrame (i : Sleeve) (n : Fin 4) (f : List Place) (s : State) : State :=
  s |> releasePockets (f.map (·.pocket))
    |> modStream i n (fun y => { y with
        chain := y.chain.drop f.length, record := y.record + 1, seals := y.seals.filter (fun z => z.record != y.record) })
    |> settleChain i n
    |> settlePattern i n
    |> settleFabric

/-- The 64 bytes of a chain place: zero where its pocket is not filled, or not this sleeve's (R236). -/
def State.placeBytes (s : State) (i : Sleeve) (p : Place) : List Byte :=
  ((match s.pocket p.pocket with
    | some y => if y.owner = i then y.bytes else []
    | none => []) ++ List.replicate 64 0).take 64

/-- The record of a frame of a stream, before its CRC (Table 13-7): header, payload, seal. -/
def State.streamBody (s : State) (i : Sleeve) (n : Fin 4) (f : List Place) : List Byte :=
  let isSealed := sealedFrame f
  let x := (s.sleeve i).streams.get n
  let tag := if isSealed then ((x.sealTag x.record).getD (List.replicate 16 0)).take 16 else []
  wordBytes (recordHeader (64 * f.length) isSealed false n.val) ++ f.flatMap (s.placeBytes i) ++ tag

/-- Words of a record that the Seam does not hold: of unfilled places, and of a seal not complete (R409, R639). -/
def Stream.unheld (x : Stream) (f : List Place) : List Nat :=
  let unfilled := (List.range (16 * f.length)).filter (fun w => !((f.getD (w / 16) ⟨0, false, 0, 0⟩).filled))
  let noSeal := if sealedFrame f && (x.sealTag x.record).isNone then
      (List.range 4).map (· + 16 * f.length) else []
  (unfilled ++ noSeal).map (· + 1)

/-- The host clocks against a low RDY. -/
def clocksAgainst : Shift → Bool
  | .underrun _ => true
  | _ => false

/-- One stream record of a running stream or of its last whole frame (R411, R416, R418, R639). While the record is not ready the
Seam buffers none of it and RDY is low (R277, R408). -/
def streamRecord (c : Sel) (i : Sleeve) (n : Fin 4) (sh : Shift) (s : State) : State × After :=
  let x := (s.sleeve i).streams.get n
  let counter := x.record.toNat % 65536
  /- a stream in push mode shows a read an empty chain (R277) -/
  match (if patPush x.pat0 then [] else x.frames) with
  | f :: _ =>
    let body := s.streamBody i n f
    let rdy := rdyIn (if x.headReady then body.length + 8 else 0) (body.length + 8)
    if (!rdy && !clocksAgainst sh) || sh == .cut 0 then (s, .stop)
    else if !x.headReady && !(wholeFrame f && f.all (fun p => !p.dropped)) then emptyRecord c n.val trUnderrun counter sh s
    else sendRecord c body (x.unheld f) stOk counter sh (claimFrame i n f s)
  | [] =>
    if sh == .cut 0 then (s, .stop)
    else if !x.running then emptyRecord c n.val trIdle counter sh s
    else if clocksAgainst sh then emptyRecord c n.val trUnderrun counter sh s
    else (s, .stop)

/-- The records of a STREAM_READ frame, one after another, up to the first that is not ready (DESIGN CHOICE, assumption log 63),
and the zero words after a record with LEN 0 (R418). -/
def streamRecords (c : Sel) (i : Sleeve) (n : Fin 4) : List Shift → State → State
  | [], s => s
  | sh :: r, s =>
    let q := if i = 0 ∧ s.capture.holds = true then captureRecord c sh s else streamRecord c i n sh s
    match q.2 with
    | .more => streamRecords c i n r q.1
    | .stop => q.1
    | .zeros => if r = [] then q.1 else zeroWords c r q.1

end Sys2Proof.Machine
end

