-- ==== Sys2Proof/Machine/PoolOps.lean ====
section
/-! DEFINITION. What a lost pocket does to whatever holds it, tearing, and a bank's drain (8.5). -/

namespace Sys2Proof.Machine

/-- The operation that holds a pocket or fills it. -/
def State.opOf (s : State) (p : Nat) : Option Op :=
  s.fabric.ops.find? (fun o => o.pockets.contains p || (lanePockets s o.id).contains p)

/-- Whatever holds a pocket loses it (R253, R255 step 4): an unposted reply is answered INTERNAL, a posted reply reads zero from
that pocket on at its next pop, which replaces it, a stream frame is dropped, captured bytes read zero. -/
def losePocket (p : Nat) (s : State) : State :=
  match s.pocket p with
  | none => s
  | some x =>
    let i := x.owner
    let s := forAll allFours (fun n => dropFrames i n (fun y => y.pocket == p)) s
    let s := modSleeve i (fun y => { y with replies := y.replies.map (fun r => { r with
      pockets := r.pockets.map (fun q => if q = p then 4096 else q) }) }) s
    let s := match s.opOf p with
      | some o => if o.isStream then s else failOp o.id s
      | none => s
    modCapture (fun c =>
      let zero (from_ : Nat) (ps : List Nat) (bs : List Byte) : List Byte :=
        if ps.contains p then
          let k := 64 * (ps.idxOf p) + from_
          bs.mapIdx (fun j b => if k ≤ j ∧ j < k + 64 then 0 else b)
        else bs
      { c with bytes := zero c.readPos c.pockets c.bytes, older := c.older.map (fun q => (zero 0 q.2.1 q.1, q.2)) }) s

/-- Readmissions used by a pocket (R254). -/
def Pool.pocketUsed (p : Pool) (k : Nat) : Nat := ((p.tornUsed.find? (fun x => x.1 == k)).map (·.2)).getD 0

/-- The sleeve whose count a pocket stands in: claimed, or cleared and not yet freed. -/
def State.pocketOwner (s : State) (p : Nat) : Option Sleeve :=
  match s.pocket p with
  | some x => some x.owner
  | none => (s.pool.clearing.find? (fun x => x.1 == p)).map (·.2)

/-- Take a pocket out of every list of the pool; its owner's count falls, and a lane that fills it loses it. -/
def forgetPocket (p : Nat) (s : State) : State :=
  let owner := s.pocketOwner p
  let s := modPool (fun q => { q with
    claimed := q.claimed.filter (fun x => x.index != p)
    clearing := q.clearing.filter (fun x => x.1 != p)
    free := clearPBit q.free p }) (loseLane [p] s)
  match owner with
  | some i => modPS i (fun x => { x with usedCnt := x.usedCnt - 1 }) s
  | none => s

/-- Retire a bank whose torn pockets reach 32, or that faults for the third time: it is drained too (R255). -/
def retireBank (b : Fin 16) (s : State) : State :=
  if (s.health (.bank b)).st = .retired then s else maskBank b (retireUnit (.bank b) s)

/-- Tear a pocket (R253). -/
def tearPocket (p : Nat) (s : State) : State :=
  if s.pool.torn.getLsbD p then s
  else
    let b := bankOf p
    let owner := s.pocketOwner p
    let s := forgetPocket p (losePocket p s)
    let s := modPool (fun q => { q with
      torn := setPBit q.torn p, lastTorn := p, uncorr := satAdd 16 q.uncorr 1, evt := q.evt ||| 0x01 }) s
    let s := match owner with
      | some i => modPS i (fun x => { x with evt := x.evt ||| 0x4 }) s
      | none => s
    let s := raiseD 0x2080 (natBytes 2 p) s
    let s := if 3 ≤ s.pool.pocketUsed p then raise 0x5033 (modFloor (fun f => { f with evt := f.evt ||| 0x04 }) s) else s
    let s := recut (pendRecord (.banks b) s)
    if 32 ≤ s.pool.tornCount b then retireBank b s else s

/-- Readmit the torn pockets of a bank that have readmissions left: each counts one (R254). -/
def readmitPockets (b : Fin 16) (s : State) : State :=
  let back := (s.tornIn b).filter (fun p => decide (s.pool.pocketUsed p < 3))
  s |> modPool (fun q => { q with
        torn := back.foldl clearPBit q.torn
        tornUsed := back.foldl (fun l p => (l.filter (fun x => x.1 < p)) ++ [(p, q.pocketUsed p + 1)] ++
          (l.filter (fun x => p < x.1))) q.tornUsed })

/-- 100 ms after a drain began, the pockets of a bank that are still in use are lost, cleared and masked with it (R255 step
4); event 0x208A. -/
def forceDrain (b : Fin 16) (s : State) : State :=
  let ps := ((s.pool.claimed.map (·.index)) ++ (s.pool.clearing.map (·.1))).filter (fun p => bankOf p = b)
  let s := forAll ps (fun p t => forgetPocket p (losePocket p t)) s
  judge (raiseD 0x208A [BitVec.ofNat 8 b.val] (modPool (fun q => { q with evt := q.evt ||| 0x20 }) s))

end Sys2Proof.Machine
end

