-- ==== Sys2Proof/Machine/BistOps.lean ====
section
/-! DEFINITION. Built-in self-test: judging a request, starting and ending a run, and readmissions (chapter 17, R169). -/

namespace Sys2Proof.Machine

/-- A budget field in units of 0.5 ms; 0 means the default (R344). -/
def budget (v dflt : Nat) : Nat := if v = 0 then dflt else v

/-- The type of a slice, for its ROM signature (R509). -/
def sliceType (k : Fin 32) : Nat :=
  if k.val < 12 then 0 else if k.val < 16 then 1 else if k.val < 20 then 2 else if k.val < 24 then 3
  else if k.val < 26 then 4 else if k.val < 30 then 5 else 6

/-- Ports that a SEAM slice covers (Table 17-1). -/
def slicePorts (k : Fin 32) : List (Fin 3) := if k.val = 30 then [0, 2] else if k.val = 31 then [1] else []

/-- The class of a slice's units (R345). -/
def sliceClass (k : Fin 32) : List UnitRef :=
  if k.val < 16 then []
  else if k.val < 20 then allAes
  else if k.val < 24 then (List.finRange 6).filter (fun c => c.val < 4) |>.map .sha
  else if k.val < 26 then (List.finRange 6).filter (fun c => 4 ≤ c.val) |>.map .sha
  else if k.val < 30 then allBanks
  else []

/-- The run would leave no unit of its class in service, or a covered port with fewer than two lanes (R345). -/
def State.lastOfClass (s : State) (k : Fin 32) : Bool :=
  let us := sliceUnits k
  let cls := sliceClass k
  (!cls.isEmpty && us.any (fun u => (s.health u).inSvc) &&
    !(cls.any (fun u => !us.contains u && (s.health u).inSvc))) ||
  (slicePorts k).any (fun p =>
    decide ((s.ports.ports.get p).health.st ≠ .retired) && decide ((s.lanesUp p).length < 2))

/-- The slice is under test, queued, or waits for a run. -/
def State.sliceBusy (s : State) (k : Fin 32) : Bool :=
  (s.bist.active ++ s.bist.queue ++ s.bist.retests ++ s.bist.readmits).any (fun r => r.slice == k)

/-- The same requester ran the slice less than 10 s ago (R345, R522). -/
def State.tooSoon (s : State) (k : Fin 32) (req : Nat) : Bool :=
  s.bist.lastRun.any (fun x => x.1 == k.val && x.2.1 == req && decide (s.now - x.2.2 < 10000000))

/-- The verdict on an open request (R345): none to accept it. -/
def State.openVerdict (s : State) (k : Fin 32) (req : Nat) : Option Byte :=
  if s.sliceBusy k || s.tooSoon k req || decide (4 ≤ s.bist.queue.length) || s.lastOfClass k then some stBusy
  else if h : k.val < 16 then
    if s.wouldFall [⟨k.val, h⟩] then some stNoEntropy else none
  else none

def setResult (k : Fin 32) (f : BistResult → BistResult) : State → State :=
  modBist (fun b => { b with results := vmod b.results k f })

/-- Queue an accepted open request (R345). -/
def queueOpen (k : Fin 32) (req logic analog : Nat) (s : State) : State :=
  let r : Run := ⟨k, .opened, req, budget logic 4, budget analog 2, none, s.now, false⟩
  setResult k (fun x => { x with outcome := 1, req := req }) (modBist (fun b => { b with queue := b.queue ++ [r] }) s)

def RunKind.code : RunKind → Nat
  | .powerUp => 0
  | .opened => 1
  | .retest => 2
  | .readmission => 3

/-- DATA of the events of Table 17-10. -/
def Run.data (r : Run) (outcome : Nat) (misr : Word) : List Byte :=
  [BitVec.ofNat 8 r.slice.val, BitVec.ofNat 8 r.req, BitVec.ofNat 8 r.kind.code, BitVec.ofNat 8 outcome] ++ wordBytes misr

/-- The two lowest-numbered lanes in service of a port stay in use during a run (17.2.3). -/
def State.keptLanes (s : State) (p : Fin 3) : List UnitRef :=
  ((s.lanesUp p).take 2).map (fun l => .lane (laneFin p l))

/-- Units that a run takes out of service: all of the slice's, but for the kept lanes outside a power-up run. -/
def State.runUnits (s : State) (r : Run) : List UnitRef :=
  let kept := if r.kind = .powerUp then [] else (slicePorts r.slice).flatMap (fun p =>
    if (s.ports.ports.get p).health.st = .retired then [] else s.keptLanes p)
  (sliceUnits r.slice).filter (fun u => !kept.contains u)

/-- A port's width changes (R375, Table 12-6). -/
def setWidth (p : Fin 3) (w : Nat) (s : State) : State :=
  if (s.ports.ports.get p).width = w then s
  else raiseA 0x9005 [BitVec.ofNat 8 p.val] (alertLane p) (modPort p (fun x => { x with width := w }) s)

/-- The ports of a SEAM slice become untrained; the lanes an open run keeps carry them at their width. A power-up run keeps none,
and the port starts at its own width after it (17.2.3, R357, R520; DEDUCED, assumption log 64). -/
def takePorts (r : Run) : State → State :=
  forAll (slicePorts r.slice) (fun p t => untrain p (if r.kind = .powerUp then t
    else setWidth p (min (t.ports.ports.get p).width (widest (t.lanesUp p).length)) t))

/-- Steps 1 and 2 of Table 17-2. A raw capture of the slice's thread stays in progress and goes on after the run (R140 names no end;
DESIGN CHOICE, assumption log 81). -/
def startRun (r : Run) (s : State) : State :=
  let us := s.runUnits r
  let takesOut := us.any (fun u => decide ((s.health u).st = .inService))
  let s := setResult r.slice (fun x => { x with outcome := 1, req := r.req })
    (modBist (fun b => { b with active := b.active ++ [r], evt := b.evt ||| 0x1 }) s)
  let s := forAll us (fun u => modHealth u (fun h => { h with bist := true })) s
  let s := forAll us (fun u t => match u with
    | .thread k => modThread k (fun x => { ThreadSt.fresh x with passed := false, test := .none }) t
    | .bank b => maskBank b t
    | _ => t) s
  let s := if h : 20 ≤ r.slice.val ∧ r.slice.val < 24 then
      modCond ⟨r.slice.val - 20, by omega⟩ (fun c => { c with kat := !c.staged.isEmpty }) s
    else s
  let s := takePorts r s
  let told := if h : r.req < 8 then [0, ⟨r.req, h⟩] else [(0 : Sleeve)]
  raiseA 0x6001 (r.data 1 0) (when' (decide (r.kind = .opened) && takesOut) (forAll told (fun i => alert i 0x20))) s

/-! ### Faults and recoveries that a run decides (Table 17-6) -/

def isLane : UnitRef → Bool
  | .lane _ => true
  | _ => false

/-- A BIST failure is a fault of the unit: quarantined, or retired where it is the third in the last hour (R518). Its re-test is a
second run of the slice, a lane's the next TRAIN frame (R517). -/
def bistFault (u : UnitRef) (s : State) : State :=
  let h := s.health u
  if isThird h s.now then retireUnit u s
  else
    let t := modHealth u (fun h => { noteFault s.now h with st := .quarantined, retest := isLane u, unhandled := false }) s
    match u with
    | .lane k => alertLane (portOfLane k) t
    | _ => t

/-- A failed run's effect on one unit. -/
def failUnit (kind : RunKind) (u : UnitRef) (s : State) : State :=
  match (s.health u).st, kind with
  | .retired, _ => s
  | .quarantined, .powerUp => retireUnit u s
  | .quarantined, _ => retireUnit u s
  | .inService, _ => bistFault u s

/-- Answer a readmission that ends without its commit. -/
def endReadmit (r : Run) (st : Byte) : State → State := answerOpt r.cmd st []

/-- Take a run off the active list and return its slice (step 8 of Table 17-2): units are no longer out of service; a T slice
runs the 1024-sample test, a POOL slice returns its pockets, the ports of a SEAM slice become untrained (R506). -/
def restoreSlice (r : Run) (good : Bool) (s : State) : State :=
  let us := sliceUnits r.slice
  let s := modBist (fun b => { b with active := b.active.filter (fun x => x.slice != r.slice) }) s
  let s := forAll us (fun u => modHealth u (fun h => { h with bist := false })) s
  let s := forAll us (fun u t =>
    let h := t.health u
    match u with
    | .thread k =>
      if (good && decide (h.st = .inService) && decide (r.kind ≠ .powerUp)) || (decide (h.st = .quarantined) && h.retest) then
        startShort k t
      else t
    | .bank b => if h.st = .inService then unmaskBank b t else t
    | .sha c => if h : c.val < 4 then justIdle ⟨c.val, h⟩ t else t
    | _ => t) s
  forAll (slicePorts r.slice) untrain s

/-- Record a run's outcome (step 9). -/
def recordRun (r : Run) (outcome : Nat) (misr : Word) (s : State) : State :=
  let failed := decide (outcome = 3) || decide (outcome = 4)
  let exp := Config.misrExpected (sliceType r.slice) r.logic
  let s := modBist (fun b => { b with
    runs := satAdd 16 b.runs 1
    fails := if failed then satAdd 16 b.fails 1 else b.fails
    failed := if failed then b.failed ||| BitVec.twoPow 32 r.slice.val else b.failed &&& ~~~ BitVec.twoPow 32 r.slice.val
    evt := b.evt ||| (if failed then 0x2 else 0) ||| (if outcome = 5 then 0x4 else 0)
    lastRun := if r.req < 9 then (r.slice.val, r.req, s.now) ::
        b.lastRun.filter (fun x => !(x.1 == r.slice.val && x.2.1 == r.req)) else b.lastRun
    results := vset b.results r.slice ⟨outcome, r.req, s.now / 1000 % 2 ^ 32, misr, exp⟩ }) s
  raiseD (if outcome = 2 then 0x6002 else if outcome = 5 then 0x6004 else 0x6003) (r.data outcome misr) s

/-- A run that never started is abandoned: outcome 5 with zero signatures, event 0x6004; it is no run (R514, R346). -/
def abandonWaiting (r : Run) (s : State) : State :=
  s |> setResult r.slice (fun _ => ⟨5, r.req, s.now / 1000 % 2 ^ 32, 0, 0⟩)
    |> modBist (fun b => { b with evt := b.evt ||| 0x4 })
    |> raiseD 0x6004 (r.data 5 0)
    |> endReadmit r stBusy

/-- Whether a slice's targets of a readmission remain: retired units, or torn pockets, with readmissions left (R169, R254,
R379). -/
def State.readmitUnits (s : State) (k : Fin 32) : List UnitRef :=
  ((sliceUnits k) ++ (slicePorts k).map UnitRef.port).filter
    (fun u => decide ((s.health u).st = .retired) && decide ((s.health u).used < 3))

def State.readmitTorn (s : State) (k : Fin 32) : Bool :=
  decide (26 ≤ k.val) && decide (k.val < 30) && ((List.finRange 16).filter (fun b => b.val / 4 = k.val - 26)).any
    (fun b => (s.tornIn b).any (fun p => decide (s.pool.pocketUsed p < 3)))

def State.readmittable (s : State) (k : Fin 32) : Bool := !(s.readmitUnits k).isEmpty || s.readmitTorn k

/-- Lanes and ports that a readmission run of a SEAM slice brings back: each retired lane that passed, and a retired port that
then has two good lanes (R379, R378). -/
def State.lanesBack (s : State) (k : Fin 32) (failed : List Nat) : List UnitRef :=
  let us := s.readmitUnits k
  let lanes := us.filter (fun u => match u with
    | .lane l => !failed.contains l.val
    | _ => false)
  let good (p : Fin 3) : Nat := ((portLanes p).filter (fun l =>
    decide ((s.health (.lane (laneFin p l))).st ≠ .retired) || lanes.contains (.lane (laneFin p l)))).length
  lanes ++ us.filter (fun u => match u with
    | .port p => decide (2 ≤ good p)
    | _ => false)

/-- Step 4 of R169: request the commit that a passed readmission run leads to. -/
def requestReadmit (r : Run) (failed : List Nat) (s : State) : State :=
  let k := r.slice
  if h : 26 ≤ k.val ∧ k.val < 30 then
    requestCommit ⟨.banks ⟨4 * (k.val - 26), by omega⟩, .empty, false, .readmitPockets ⟨k.val - 26, by omega⟩, r.cmd⟩ s
  else if h : 30 ≤ k.val then requestCommit ⟨.lanes, .empty, false, .readmitLanes ⟨k.val - 30, by omega⟩ failed, r.cmd⟩ s
  else match sliceUnits k with
    | u :: _ => requestCommit ⟨unitRecord u, .empty, false, .readmit u, r.cmd⟩ s
    | [] => s

/-- After its BIST, a readmitted thread runs the full start-up test (R169 step 3). -/
def afterReadmitRun (r : Run) (failed : List Nat) (s : State) : State :=
  if h : r.slice.val < 16 then
    modThread ⟨r.slice.val, h⟩ (fun x => { ThreadSt.fresh x with
      test := .full, testPos := 0, testBad := false, readmit := true, passed := false }) s
  else requestReadmit r failed s

/-- Start a re-test run of a slice, for the requester of the run that failed (R518). -/
def queueRetest (r : Run) (s : State) : State :=
  modBist (fun b => { b with retests := b.retests ++ [⟨r.slice, .retest, r.req, 4, 2, none, s.now, false⟩] }) s

/-- Units that the failing checks name, in a POOL or SEAM slice (R517); otherwise the slice's own. -/
def failingUnits (us : List UnitRef) (failing : List Nat) : List UnitRef :=
  us.filter (fun u => match u with
    | .lane l => failing.contains l.val
    | _ => false)

/-- The effect of a failed run on the slice's units (Table 17-6, R517). -/
def applyFail (r : Run) (logicFail : Bool) (failing : List Nat) (s : State) : State :=
  let us := s.runUnits r
  if 26 ≤ r.slice.val ∧ r.slice.val < 30 ∧ logicFail = false ∧ failing ≠ [] then
    let torn := failing.filter (fun p => decide (p < 4096) && (sliceUnits r.slice).contains (.bank (bankOf p)))
    /- the banks of a second run did not fail it -/
    let second := decide (r.kind = .retest) || decide (r.kind = .powerUp)
    let again := us.filter (fun u => decide ((s.health u).st = .quarantined) && second)
    forAll again passRetest (forAll torn tearPocket s)
  else
    let hit := if 30 ≤ r.slice.val ∧ logicFail = false ∧ failing ≠ [] then failingUnits us failing else us
    let before := hit.filter (fun u => decide ((s.health u).st = .inService))
    let s := forAll hit (failUnit r.kind) s
    let s := forAll (slicePorts r.slice) checkPort s
    if r.slice.val < 30 ∧ !before.isEmpty ∧ r.kind ≠ .powerUp then queueRetest r s else s

/-- Some unit of the slice is quarantined. -/
def State.sliceFaulted (s : State) (k : Fin 32) : Bool := (sliceUnits k).any (fun u => decide ((s.health u).st = .quarantined))

/-- Units that pass the second run of their slice return to service; a lane waits for its port's TRAIN frame (Table 17-6, R517,
R521; DEDUCED, assumption log 84). -/
def passRun (r : Run) (s : State) : State :=
  if r.kind = .retest ∨ r.kind = .powerUp then
    forAll ((sliceUnits r.slice).filter (fun u =>
      decide ((s.health u).st = .quarantined) && !s.custHeld u && decide (r.slice.val < 30))) passRetest s
  else s

/-- A failed run (Table 17-6, R517): a power-up run's slice runs once more at the end of the sequence (R521). -/
def failRun (r : Run) (logicFail : Bool) (failing : List Nat) (s : State) : State :=
  let t := applyFail r logicFail failing s
  if r.kind = .powerUp && t.sliceFaulted r.slice && !s.sliceFaulted r.slice && !t.bist.again.contains r.slice then
    modBist (fun b => { b with again := b.again ++ [r.slice] }) t
  else t

/-- A readmission goes on after its run: the run passed, or some lanes of a SEAM slice did (R169, R379). -/
def State.readmitsOn (s : State) (r : Run) (outcome : Nat) (failing : List Nat) : Bool :=
  decide (r.kind = .readmission) && (decide (outcome = 2) ||
    (decide (outcome = 4) && decide (30 ≤ r.slice.val) && !failing.isEmpty && !(s.lanesBack r.slice failing).isEmpty))

/-- A slice whose second run is queued reads outcome 1 until that run ends (R347). -/
def showQueued (k : Fin 32) (s : State) : State :=
  when' (s.bist.retests.any (fun r => r.slice == k) || s.bist.again.contains k)
    (setResult k (fun x => { x with outcome := 1 })) s

/-- End a run (steps 8 and 9 of Table 17-2, Table 17-6, R516). -/
def endRun (r : Run) (outcome : Nat) (misr : Word) (logicFail : Bool) (failing : List Nat) (s : State) : State :=
  let on := s.readmitsOn r outcome failing
  let s := if outcome = 3 ∨ outcome = 4 then failRun r logicFail failing s
    else if outcome = 5 then (if r.kind = .retest then queueRetest r s else s)
    else passRun r s
  let s := if r.kind = .readmission ∧ on = false then endReadmit r (if outcome = 5 then stBusy else stFenced) s else s
  let s := showQueued r.slice (recordRun r outcome misr (restoreSlice r (decide (outcome = 2) || decide (outcome = 5)) s))
  if on then afterReadmitRun r failing s else s

/-- The module drains the slice's work at step 3 (Table 17-3). -/
def State.drained (s : State) (r : Run) : Bool :=
  let k := r.slice.val
  if h : 16 ≤ k ∧ k < 20 then
    let c := s.fabric.cores.get ⟨k - 16, by omega⟩
    decide (c.counter = .idle) && decide (c.update = .idle)
  else if h : 20 ≤ k ∧ k < 24 then
    let c := s.yoke.cores.get ⟨k - 20, by omega⟩
    c.block.isNone && c.staged.isEmpty
  else if 26 ≤ k ∧ k < 30 then
    ((List.finRange 16).filter (fun b => b.val / 4 = k - 26)).all s.pool.bankIdle
  else true

end Sys2Proof.Machine
end

