-- ==== Sys2Proof/Machine/CommitOps.lean ====
section
/-! DEFINITION. The bodies that commands commit, built from a command's parameter words over the state at the grant, and the
refusal of a commit (11.2, 11.7, R93, R94). -/

namespace Sys2Proof.Machine

/-- A commit refused by the energy check (R94). -/
def denyCmd (id : Option Nat) (s : State) : State :=
  s |> modSupply (fun p => { p with denied := satAdd 16 p.denied 1, evt := p.evt ||| 0x20 })
    |> answerOpt id stPowerDenied []

/-! ### SET_ROUTE (Table 11-6, R322) -/

def routeSel (w : Word) : Nat := field w 0 4

/-- A route word as a route: no sleeve for ROLE 00 and ROLE 11. -/
def routeOf (w : Word) : Route :=
  let role : Fin 4 := ⟨field w 8 2 % 4, Nat.mod_lt _ (by decide)⟩
  ⟨if role = 1 ∨ role = 2 then nth8 (field w 4 3) else 0, role⟩

/-- A route word breaks no rule by itself. -/
def routeWordOk (w : Word) : Bool :=
  argBits w 0x37F && decide (routeSel w < 10) && !(decide (field w 8 2 = 2) && decide (8 ≤ routeSel w)) &&
    !(decide (field w 8 2 = 3) && decide (routeSel w < 8))

/-- The route table after a packet's words. -/
def routeTable (ws : List Word) (rs : Vector Route 10) : Vector Route 10 :=
  ws.foldl (fun v w => if h : routeSel w < 10 then vset v ⟨routeSel w, h⟩ (routeOf w) else v) rs

/-- S0 keeps a ROLE 01 select. -/
def routeKeepsS0 (rs : Vector Route 10) : Bool := rs.toList.any (fun r => decide (r.role = 1) && decide (r.sl = 0))

/-! ### SET_QUOTA (Table 11-7, R243, R249) -/

/-- The three words break no rule of Table 11-7, and S stays at 256 or more at the present P. -/
def State.quotaOk (s : State) (i : Sleeve) (w0 w1 w2 : Word) : Bool :=
  let q := field w0 0 7
  let res := field w0 12 12
  let lo := field w1 0 10
  let mid := field w1 10 10
  let hi := field w1 20 11
  let g := field w2 0 10
  let others := ((allSleeves.filter (fun j => j ≠ i)).map (fun j => (s.pool.per.get j).setRes)).sum
  argBits w0 0x00FFF37F && argBits w1 0x7FFFFFFF && argBits w2 0x3FF && decide (2 ≤ q) && decide (q ≤ 114) &&
    decide (res % 16 = 0) && decide (16 ≤ res) && decide (res ≤ 2048) && decide (lo < mid) && decide (mid < hi) &&
    (decide (g = 0) || decide (16 ≤ g)) && decide (others + res + 256 ≤ s.pool.inService)

/-- The quota record with one sleeve's fields replaced. -/
def State.quotaBody (s : State) (i : Sleeve) (w0 w1 : Word) : Body :=
  .quotas (vset s.fabric.quota i (field w0 0 7)).toList (vset s.fabric.pmax i (field w0 8 2)).toList
    ((s.pool.per.toList.map (·.res)).set i.val (field w0 12 12)) ((s.pool.per.toList.map (·.hems)).set i.val w1)

/-! ### SET_CREDIT (R342, R184, R174) -/

/-- The factor that the words give a thread. -/
def factorIn (ws : List Word) (t : Thread) : Nat := field (ws.getD (1 + t.val / 2) 0) (16 * (t.val % 2)) 10

def creditOk (ws : List Word) : Bool :=
  let w0 := ws.headD 0
  let f := field w0 16 7
  argBits w0 0x007FFFFF && (ws.drop 1).all (fun w => argBits w 0x03FF03FF) &&
    (decide (f = 0) || (decide (20 ≤ f) && decide (f ≤ 100))) &&
    allThreads.all (fun t => !w0.getLsbD t.val || decide (factorIn ws t = 0) ||
      (decide (100 ≤ factorIn ws t) && decide (factorIn ws t ≤ 1000)))

def State.creditBody (s : State) (ws : List Word) : Body :=
  let w0 := ws.headD 0
  .credit (allThreads.map (fun t => if w0.getLsbD t.val then factorIn ws t else s.yoke.factors.get t))
    (if field w0 16 7 = 0 then s.floor.pct else field w0 16 7)

/-! ### The body of a granted commit -/

/-- Parameter words of the command that asked. -/
def State.commitParams (s : State) (c : Commit) : List Word := match c.cmd.bind s.findCmd with
  | some k => k.params
  | none => []

/-- What SET_ROUTE and SET_QUOTA check of the table they would leave still holds at the grant, after the commits granted since
(R322, R323). -/
def State.commitOk (s : State) (c : Commit) : Bool :=
  let ws := s.commitParams c
  match c.why with
  | .route => routeKeepsS0 (routeTable ws s.ports.routes)
  | .quota i _ => s.quotaOk i (ws.getD 0 0) (ws.getD 1 0) (ws.getD 2 0)
  | _ => true

/-- The body that a commit writes when it is granted: records of several units or fields are built from the state in force,
so that no earlier commit is undone. -/
def State.commitBody (s : State) (c : Commit) : Body :=
  let ws := s.commitParams c
  match c.why with
  | .route => .route (routeTable ws s.ports.routes).toList
  | .quota i _ => s.quotaBody i (ws.getD 0 0) (ws.getD 1 0)
  | .credit => s.creditBody ws
  | .retire | .door | .boot => s.recordBody c.record
  | .readmit u => (modHealth u (fun h => { h with st := .inService, used := h.used + 1 }) s).recordBody c.record
  | _ => c.body

/-- The ownership bit in the header that a commit writes: KEY_ERASE keeps the slot's at its grant (R461). -/
def State.commitOwned (s : State) (c : Commit) : Bool :=
  match c.why with
  | .keyErase k => (s.slot k).owned
  | _ => c.owned

end Sys2Proof.Machine
end

