-- ==== Sys2Proof/Machine/Housekeeping.lean ====
section
/-! DEFINITION. The housekeeping opcodes (11.2). -/

namespace Sys2Proof.Machine

/-- An opcode without parameters: a PLEN above 0 is BAD_LENGTH (R319). -/
def noParams (body : Cmd → State → State) (c : Cmd) (s : State) : State :=
  if c.params.isEmpty then body c s else answer c.id stBadLength [] s

/-- An opcode with the ARG bits of a mask and no parameters. -/
def argOnly (mask : Word) (body : Cmd → State → State) (c : Cmd) (s : State) : State :=
  if argBits c.arg mask && c.params.isEmpty then body c s else answer c.id stBadLength [] s

def pingBody (c : Cmd) (s : State) : State :=
  if 61 < c.params.length then answer c.id stBadLength [] s else answer c.id stOk (paramBytes c) s

/-- PING (R321). Packets whose opcode stands in no row of Table 11-1 are taken here too, and step 3 of Table 10-3 answers
BAD_OPCODE. -/
def execPing (t : Take) (s : State) : Res :=
  .next (takeWith t (fun op _ => op == 0x00 || !opDefined op) pingBody s)

/-- IDENTIFY's payload (Table 11-4). -/
def State.identity (s : State) (i : Sleeve) : List Byte :=
  wordBytes 0x50538128 ++ [0x42, 0xC1] ++ natBytes 2 0x0103 ++ wordBytes idcode ++ wordBytes s.lining.boot ++
    wordBytes (s.sleeve i).epoch ++ [BitVec.ofNat 8 i.val, BitVec.ofNat 8 (bit s.degraded)] ++ natBytes 2 s.ports.xip.version ++
    natBytes 8 Config.serial.toNat

/-- IDENTIFY (R321). -/
def execIdentify (t : Take) (s : State) : Res :=
  .next (takeOp t 0x01 (noParams fun c s => answer c.id stOk (s.identity c.sl) s) s)

/-- State byte of GET_STATUS: 0 serving, 1 degraded serving, 2 fold. -/
def State.statusState (s : State) : Nat := if s.power.phase = .fold then 2 else bit s.degraded

/-- Lanes in service, one bit per lane: A, B, M, and F's configured width (R380). -/
def State.lanesWord (s : State) : Word :=
  let row (p : Fin 3) : Nat := (packRow 1 ((portLanes p).map (fun l => bit ((s.lanesUp p).contains l)))).toNat
  pack [(0, 8, row 0), (8, 8, row 1), (16, 4, row 2), (24, 8, 2 ^ s.ports.xip.fWidth - 1)]

/-- Selects routed to a sleeve in a role, as bits. -/
def State.routedBits (s : State) (i : Sleeve) (role : Fin 4) : Nat :=
  (packRow 1 (allSels.map (fun c => bit (decide ((s.route c).role = role) && decide ((s.route c).sl = i))))).toNat

/-- GET_STATUS's payload (Table 11-5). -/
def State.statusBytes (s : State) (i : Sleeve) : List Byte :=
  let flags := bit s.floor.below + 2 * bit s.log.fenced + 4 * bit s.faultPin + 8 * bit s.supply.holdLow +
    16 * bit s.supply.holdFault + 32 * bit (decide (s.pool.cut ≠ 0))
  [BitVec.ofNat 8 s.statusState, BitVec.ofNat 8 flags, 0, 0] ++ wordBytes (s.page2 0) ++ wordBytes s.coreWord ++
    wordBytes (s.page5 0) ++ wordBytes s.floorWord ++ wordBytes (packRow 2 (s.stateRow allSha)) ++ wordBytes s.lanesWord ++
    wordBytes (pack [(0, 10, s.routedBits i 1), (16, 10, s.routedBits i 2)]) ++
    (if i = 0 then s.ports.routes.toList.map (fun r => BitVec.ofNat 8 r.field) ++ List.replicate 6 0 else [])

/-- GET_STATUS (R321). -/
def execGetStatus (t : Take) (s : State) : Res :=
  .next (takeOp t 0x02 (noParams fun c s => answer c.id stOk (s.statusBytes c.sl) s) s)

def setRouteBody (c : Cmd) (s : State) : State :=
  let ws := c.params
  let rs := routeTable ws s.ports.routes
  if ws.isEmpty || decide (10 < ws.length) || !ws.all routeWordOk || !decide ((ws.map routeSel).Nodup) || !routeKeepsS0 rs then
    answer c.id stBadLength [] s
  else requestCommit ⟨.route, .route rs.toList, false, .route, some c.id⟩ s

/-- SET_ROUTE (R322): the words take force at the commit marker. -/
def execSetRoute (t : Take) (s : State) : Res := .next (takeOp t 0x03 setRouteBody s)

def setQuotaBody (c : Cmd) (s : State) : State :=
  let i := nth8 (field c.arg 0 3)
  match c.params with
  | [w0, w1, w2] =>
    if argBits c.arg 0x7 && s.quotaOk i w0 w1 w2 then
      requestCommit ⟨.quotas, s.quotaBody i w0 w1, false, .quota i (field w2 0 10), some c.id⟩ s
    else answer c.id stBadLength [] s
  | _ => answer c.id stBadLength [] s

/-- SET_QUOTA (R323): the fields take force at the commit marker. -/
def execSetQuota (t : Take) (s : State) : Res := .next (takeOp t 0x04 setQuotaBody s)

/-! ### RESET_SLEEVE (R324, R205, R540) -/

/-- Steps 1 and 2 of R205: the sleeve's operations are withdrawn and its tags released; a pocket in progress is given up. -/
def withdrawOps (i : Sleeve) (s : State) : State :=
  forAll (s.fabric.ops.filter (fun o => o.sl == i && !o.isStream)) (fun o => withdrawOp o.id Op.begun) s

/-- Commits of a sleeve's own records that still wait for the journal writer are withdrawn (R489). -/
def withdrawCommits (i : Sleeve) (keep : Option Nat) (s : State) : State :=
  modLining (fun l => { l with
    waiting := l.waiting.filter (fun c => c.cmd == keep || !(s.cmds.any (fun k => some k.id == c.cmd && k.sl == i))) }) s

/-- Empty a sleeve's queues and cache and give its reply pockets up; the command `keep` and its reservation stay. A command
whose commit is in the writer runs to its marker without a reply. -/
def clearQueues (i : Sleeve) (keep : Option Nat) (s : State) : State :=
  let x := s.sleeve i
  s |> releasePockets (x.replies.flatMap (·.pockets))
    |> modSleeve i (fun y => { y with cmdq := [], heldPush := [], removing := false, replies := [], cache := [] })
    |> (fun t => { t with cmds := t.cmds.filter (fun c => c.sl != i || some c.id == keep) })

/-- Drop the waits of a sleeve's withdrawn commands in ports, BIST and log verification. -/
def dropWaits (i : Sleeve) (keep : Option Nat) (s : State) : State :=
  let gone := (s.cmds.filter (fun c => c.sl == i && some c.id != keep)).map (·.id)
  let isGone (k : Option Nat) : Bool := gone.any (fun g => k == some g)
  let unwait (r : Run) : Run := if isGone r.cmd then { r with cmd := none } else r
  s |> modPorts (fun p => { p with ports := p.ports.map (fun x => { x with waiters := x.waiters.filter (fun k => !gone.contains k) }) })
    |> modBist (fun b => { b with active := b.active.map unwait, queue := b.queue.map unwait, readmits := b.readmits.map unwait })
    |> modLog (fun l => if isGone (l.verify.map (·.1)) then { l with verify := none } else l)
    |> modPower (fun p => { p with resumes := p.resumes.filter (fun r => !gone.contains r) })

/-- Uninstantiate every instance of a sleeve and clear its working states (R205 step 3). -/
def clearInsts (i : Sleeve) (s : State) : State :=
  forAll allFours (fun k => modInst i k (fun x => { Inst.reset with health := x.health })) s

/-- Steps 1 and 2 of R324. -/
def resetSleeveNow (i : Sleeve) (keep : Option Nat) (s : State) : State :=
  s |> withdrawCommits i keep
    |> withdrawOps i
    |> forAll allFours (stopStream i)
    |> forAll allFours (fun n t => releasePockets (((t.sleeve i).streams.get n).chain.map (·.pocket)) t)
    |> clearInsts i
    |> when' (decide (i = 0)) dropCapture
    |> dropWaits i keep
    |> clearQueues i keep
    |> forAll allFours (fun k => modCtx i k (fun _ => .reset))
    |> modSleeve i (fun y => { y with
        seqHi := 0, consumed := [], shadow := Vector.replicate 32 0, live := Vector.replicate 32 0
        streams := Vector.replicate 4 .reset, pushes := Vector.replicate 4 .reset, tmo := 0, dsel := 0, dhalf := false })

def resetSleeveBody (c : Cmd) (s : State) : State :=
  let i := nth8 (field c.arg 0 3)
  let h := (s.sleeve i).health
  if h.st = .retired then
    if i = 0 ∨ 3 ≤ h.used then answer c.id stFenced [] s
    else if !s.energyOk then denyCmd (some c.id) s
    /- R169 with the sleeve's re-test in place of BIST: SLEEVE_RETEST_END decides, then the record commits -/
    else modSleeve i (fun x => { x with health := { x.health with retest := true } }) s
  else if !s.energyOk then denyCmd (some c.id) s
  else
    s |> resetSleeveNow i (some c.id)
      |> requestCommit ⟨.wrapEpoch i, .number ((s.sleeve i).wrapEpoch + 1), false, .resetSleeve i, some c.id⟩

/-- RESET_SLEEVE (R324). The energy check comes first; steps 3 and 4 follow at the commit marker. -/
def execResetSleeve (t : Take) (s : State) : Res := .next (takeOp t 0x05 (argOnly 0x7 resetSleeveBody) s)

end Sys2Proof.Machine
end

