-- ==== Sys2Proof/Machine/Drbg.lean ====
section
/-! DEFINITION. The DRBG opcodes (11.3, R325 to R328). The fabric's rows carry an admitted operation on. -/

namespace Sys2Proof.Machine

def argInst (arg : Word) : Fin 4 := ⟨field arg 0 2 % 4, Nat.mod_lt _ (by decide)⟩
def argAlen (arg : Word) : Nat := field arg 8 6
def argNlen (arg : Word) : Nat := field arg 16 16

/-- The first ALEN bytes of the parameter words. -/
def addlOf (c : Cmd) : List Byte := (paramBytes c).take (argAlen c.arg)

/-- ALEN and the words agree, and the pad bytes are 0 (R319, R325). -/
def addlOk (c : Cmd) : Bool :=
  decide (argAlen c.arg ≤ 48) && decide (c.params.length = (argAlen c.arg + 3) / 4) &&
    ((paramBytes c).drop (argAlen c.arg)).all (· == 0)

/-- ARG bits of an opcode: INST, ALEN and NLEN where it uses them. -/
def drbgMask (inst addl out : Bool) : Word :=
  (if inst then 0x3 else 0) ||| (if addl then 0x3F00 else 0) ||| (if out then 0xFFFF0000 else 0)

/-- A new operation of a command. -/
def newOp (c : Cmd) (kind : OpKind) (nbytes : Nat) : Op where
  id := 0
  sl := c.sl
  inst := argInst c.arg
  kind := kind
  addl := addlOf c
  addlNow := if (addlOf c).isEmpty then none else some (addlOf c)
  nbytes := nbytes
  urgent := c.urgent
  pr := decide (kind = .generatePr) || (decide (kind = .generate) && c.pr)
  cmd := some c.id
  phase := .queued
  began := false
  passedOver := 0
  booked := 0
  pockets := []
  made := 0
  seed := []
  leaving := false

/-- Admit a DRBG operation after the packet's checks; with no AES core in service it is FENCED (R326). -/
def drbgBody (mask : Word) (kind : OpKind) (nbytes : Word → Nat) (c : Cmd) (s : State) : State :=
  if !(argBits c.arg mask && addlOk c) then answer c.id stBadLength [] s
  else if s.noAes && decide (kind ≠ .uninstantiate) then answer c.id stFenced [] s
  else enterOp (newOp c kind (nbytes c.arg)) s

/-- INSTANTIATE (R217). -/
def execInstantiate (t : Take) (s : State) : Res :=
  .next (takeOp t 0x10 (drbgBody (drbgMask true true false) .instantiate (fun _ => 0)) s)

/-- UNINSTANTIATE (R218): it takes no tag and no AES core. -/
def execUninstantiate (t : Take) (s : State) : Res :=
  .next (takeOp t 0x11 (drbgBody (drbgMask true false false) .uninstantiate (fun _ => 0)) s)

/-- RESEED (R326). -/
def execReseed (t : Take) (s : State) : Res :=
  .next (takeOp t 0x12 (drbgBody (drbgMask true true false) .reseed (fun _ => 0)) s)

/-- A generate while every pocket bank is fenced is FENCED (8.5.3). -/
def generateBody (kind : OpKind) (c : Cmd) (s : State) : State :=
  let mask := drbgMask true true true
  if argBits c.arg mask && addlOk c && s.pool.allFenced then answer c.id stFenced [] s
  else drbgBody mask kind (fun a => argNlen a + 1) c s

/-- GENERATE (R212, R214). -/
def execGenerate (t : Take) (s : State) : Res := .next (takeOp t 0x13 (generateBody .generate) s)

/-- GENERATE_PR (R214). -/
def execGeneratePr (t : Take) (s : State) : Res := .next (takeOp t 0x14 (generateBody .generatePr) s)

def getSeedBody (c : Cmd) (s : State) : State :=
  if !(argBits c.arg (drbgMask false false true) && c.params.isEmpty) || decide (1023 < argNlen c.arg) then
    answer c.id stBadLength [] s
  else if s.pool.allFenced then answer c.id stFenced [] s
  else enterOp (newOp c .getSeed (16 * (argNlen c.arg + 1))) s

/-- GET_SEED (R327). -/
def execGetSeed (t : Take) (s : State) : Res := .next (takeOp t 0x15 getSeedBody s)

def setPriorityBody (c : Cmd) (s : State) : State :=
  let k := argInst c.arg
  let level := min (field c.arg 8 2) (s.fabric.pmaxOf c.sl)
  if !(s.inst c.sl k).owned then answer c.id stNotOwner [] s
  else answer c.id stOk (natBytes 4 level) (modInst c.sl k (fun x => { x with prio := level }) s)

/-- SET_PRIORITY (R328). -/
def execSetPriority (t : Take) (s : State) : Res := .next (takeOp t 0x16 (argOnly 0x303 setPriorityBody) s)

end Sys2Proof.Machine
end

