-- ==== Sys2Proof/Machine/Streams.lean ====
section
/-! DEFINITION. The stream opcodes and the pattern banks (11.4, chapter 9). -/

namespace Sys2Proof.Machine

/-- Write words into a bank from an index upwards. -/
def writeBank (v : Vector Word 32) : Nat → List Word → Vector Word 32
  | _, [] => v
  | n, w :: r => if h : n < 32 then writeBank (v.set n w h) (n + 1) r else v

def patternWriteBody (c : Cmd) (s : State) : State :=
  match c.params with
  | first :: d :: r =>
    if 31 < first.toNat ∨ 32 < first.toNat + (d :: r).length then answer c.id stBadLength [] s
    else answer c.id stOk [] (modSleeve c.sl (fun x => { x with shadow := writeBank x.shadow first.toNat (d :: r) }) s)
  | _ => answer c.id stBadLength [] s

/-- PATTERN_WRITE (R268). -/
def execPatternWrite (t : Take) (s : State) : Res := .next (takeOp t 0x20 patternWriteBody s)

/-- CRC-32 of a bank (R273). -/
def bankCrc (v : Vector Word 32) : Word := crc32 (wordsBytes v.toList)

/-- INST bits that a bank's pattern adds to a running stream's tags. -/
def addedTags (x : SleeveSt) (bank : Vector Word 32) (n : Fin 4) : BitVec 4 :=
  let y := x.streams.get n
  if y.running then patInst (bank.get ⟨2 * n.val, by omega⟩) &&& ~~~ y.tags else 0

def bitCount (b : BitVec 4) : Nat := (allFours.filter (fun k => b.getLsbD k.val)).length

def patternCommitBody (c : Cmd) (s : State) : State :=
  let x := s.sleeve c.sl
  let k := (allFours.map (fun n => bitCount (addedTags x x.shadow n))).sum
  match s.fabric.tagRefusal c.sl k with
  | some st => answer c.id st [] (if st = stBusy then noteTagBusy s else s)
  | none =>
    let crc := bankCrc x.shadow
    s |> takeTags c.sl k
      |> modSleeve c.sl (fun y => { y with
          live := y.shadow
          streams := y.streams.mapFinIdx (fun n z hn =>
            if z.running then { z with tags := z.tags ||| addedTags y y.shadow ⟨n, hn⟩, pend := true } else z) })
      |> raiseS 0x2001 c.sl (wordBytes crc)
      |> forAll allFours (settlePattern c.sl)
      |> settleFabric
      |> answer c.id stOk (wordBytes crc)

/-- PATTERN_COMMIT (R269 to R271): a running stream takes the new pattern at its next frame boundary. -/
def execPatternCommit (t : Take) (s : State) : Res := .next (takeOp t 0x21 (noParams patternCommitBody) s)

def patternReadBody (c : Cmd) (s : State) : State :=
  let v := if c.arg.getLsbD 0 then (s.sleeve c.sl).live else (s.sleeve c.sl).shadow
  answer c.id stOk (wordsBytes v.toList ++ wordBytes (bankCrc v)) s

/-- PATTERN_READ (R273). -/
def execPatternRead (t : Take) (s : State) : Res := .next (takeOp t 0x22 (argOnly 0x1 patternReadBody) s)

/-- Push entries of a stream take its STREAM_START as their epoch, their guard and counts start again; a LOST or suspended one stays
so until a re-arm or re-epoch (R266, R436, R441, R444). -/
def newEpoch (i : Sleeve) (n : Fin 4) (s : State) : State :=
  forAll (allFours.filter (fun e => field ((s.sleeve i).live.get ⟨8 + 4 * e.val, by omega⟩) 0 2 = n.val))
    (fun e => modPush i e (fun p => { p with
      epoch := 0, after := 0, doublings := 0, streak := 0, served := 0, missed := 0, lastMissed := false })) s

def streamStartBody (c : Cmd) (s : State) : State :=
  let n := argInst c.arg
  let x := s.sleeve c.sl
  let y := x.streams.get n
  let p0 := x.live.get ⟨2 * n.val, by omega⟩
  let p1 := x.live.get ⟨2 * n.val + 1, by omega⟩
  let inst := patInst p0
  if y.running ∨ x.runs = BitVec.allOnes 32 then answer c.id stBadOpcode [] s
  else if s.noAes then answer c.id stFenced [] s
  else match s.fabric.tagRefusal c.sl (bitCount inst) with
    | some st => answer c.id st [] (if st = stBusy then noteTagBusy s else s)
    | none =>
      let run := x.runs + 1
      s |> takeTags c.sl (bitCount inst)
        |> releasePockets (y.chain.map (·.pocket))
        |> modSleeve c.sl (fun z => { z with runs := run })
        |> modStream c.sl n (fun _ => { Stream.reset with
            running := true, run := run, pat0 := p0, pat1 := p1, tags := inst, epoch := s.now })
        |> newEpoch c.sl n
        |> forAll (allFours.filter (fun k => inst.getLsbD k.val)) (newRequest c.sl n)
        |> settleFabric
        |> answer c.id stOk (wordBytes run)

/-- STREAM_START (R330, R272, R414). -/
def execStreamStart (t : Take) (s : State) : Res := .next (takeOp t 0x23 (argOnly 0x3 streamStartBody) s)

def streamStopBody (c : Cmd) (s : State) : State :=
  let n := argInst c.arg
  let s := stopStream c.sl n s
  answer c.id stOk (natBytes 4 (((s.sleeve c.sl).streams.get n).record.toNat % 65536)) (settleFabric s)

/-- STREAM_STOP (R331, R259). -/
def execStreamStop (t : Take) (s : State) : Res := .next (takeOp t 0x24 (argOnly 0x3 streamStopBody) s)

end Sys2Proof.Machine
end

