-- ==== Sys2Proof/Machine/Keys.lean ====
section
/-! DEFINITION. The key opcodes (11.6). Loads, erasures and updates take force at their commit markers. -/

namespace Sys2Proof.Machine

def argSlot (arg : Word) : Fin 32 := ⟨field arg 0 5 % 32, Nat.mod_lt _ (by decide)⟩

/-- Block `i` of a command's keystream (11.6). -/
def State.keyBlock (s : State) (c : Cmd) (key : List Byte × List Byte) (i : Nat) : List Byte :=
  hmacWith 0 key.1 key.2
    (wordBytes s.lining.boot ++ wordBytes (s.sleeve c.sl).epoch ++ wordBytes c.seq ++ [BitVec.ofNat 8 i])

/-- Unmask the parameter words of a command. -/
def State.unmask (s : State) (c : Cmd) : List Byte :=
  let bytes := paramBytes c
  match s.cmdKeyOf c.sl with
  | some key =>
    let ks := (List.range ((bytes.length + 31) / 32)).flatMap (s.keyBlock c key)
    List.zipWith (· ^^^ ·) bytes ks
  | none => bytes

/-- A check value: the leftmost 32 bits of the HMAC of an empty message (R339). -/
def checkValue (alg : Nat) (inner outer : List Byte) : List Byte := (hmacWith alg inner outer []).take 4

/-- The slot's sleeve range and state allow a KEY_LOAD or KEY_ERASE: none, or the refusal (R337). -/
def State.slotRefusal (s : State) (i : Sleeve) (k : Fin 32) : Option Byte :=
  if k.val / 4 ≠ i.val then some stNotOwner
  else if (s.slot k).health.st ≠ .inService then some stFenced
  else none

def keyLoadBody (c : Cmd) (s : State) : State :=
  let k := argSlot c.arg
  let alg := field c.arg 8 2
  let klen := field c.arg 16 8
  if !argBits c.arg 0x00FF031F || decide (alg = 3) || decide (klen = 0) || decide (blockLen alg < klen) ||
      decide (c.params.length ≠ (klen + 3) / 4) then answer c.id stBadLength [] s
  else match s.slotRefusal c.sl k with
    | some st => answer c.id st [] s
    | none =>
      let plain := s.unmask c
      if !(plain.drop klen).all (· == 0) then answer c.id stBadLength [] s
      else
        let st := hmacStates alg (plain.take klen)
        requestCommit ⟨.slot k, .slot (alg + 1) st.1 st.2, true, .keyLoad k, some c.id⟩ s

/-- KEY_LOAD (R338, R460). -/
def execKeyLoad (t : Take) (s : State) : Res := .next (takeOp t 0x40 keyLoadBody s)

def keyEraseBody (c : Cmd) (s : State) : State :=
  let k := argSlot c.arg
  match s.slotRefusal c.sl k with
  | some st => answer c.id st [] s
  | none => requestCommit ⟨.slot k, .slot 0 [] [], (s.slot k).owned, .keyErase k, some c.id⟩ s

/-- KEY_ERASE (R338, R461). -/
def execKeyErase (t : Take) (s : State) : Res := .next (takeOp t 0x41 (argOnly 0x1F keyEraseBody) s)

/-- KEY_INFO's payload for a slot (Table 11-15). -/
def State.slotInfo (s : State) (k : Fin 32) : List Byte :=
  let x := s.slot k
  [BitVec.ofNat 8 x.code, 0, 0, 0] ++ wordBytes x.gen ++
    (if x.health.st = .inService ∧ x.hash ≠ 0 then checkValue (x.hash - 1) x.inner x.outer else [0, 0, 0, 0])

/-- KEY_INFO's payload for the command key. -/
def State.cmdKeyInfo (s : State) (i : Sleeve) : List Byte :=
  let x := (s.sleeve i).cmdKey
  [BitVec.ofNat 8 (bit x.present), 0, 0, 0] ++ wordBytes x.gen ++
    (if x.present then checkValue 0 x.inner x.outer else [0, 0, 0, 0])

def keyInfoBody (c : Cmd) (s : State) : State :=
  let k := argSlot c.arg
  if c.arg.getLsbD 7 then
    if k ≠ 0 then answer c.id stBadLength [] s else answer c.id stOk (s.cmdKeyInfo c.sl) s
  else if k.val / 4 ≠ c.sl.val then answer c.id stNotOwner [] s
  else answer c.id stOk (s.slotInfo k) s

/-- KEY_INFO (R337). -/
def execKeyInfo (t : Take) (s : State) : Res := .next (takeOp t 0x42 (argOnly 0x9F keyInfoBody) s)

def sleeveKeyUpdateBody (c : Cmd) (s : State) : State :=
  if c.params.length ≠ 8 then answer c.id stBadLength [] s
  else
    let st := hmacStates 0 (s.unmask c)
    requestCommit ⟨.cmdKey c.sl, .cmdKey st.1 st.2, false, .cmdKeyUpdate c.sl, some c.id⟩ s

/-- SLEEVE_KEY_UPDATE (R338, R493). -/
def execSleeveKeyUpdate (t : Take) (s : State) : Res := .next (takeOp t 0x43 sleeveKeyUpdateBody s)

end Sys2Proof.Machine
end

