-- ==== Sys2Proof/Machine/ThreadCmds.lean ====
section
/-! DEFINITION. The thread opcodes (11.7, R340 to R343). -/

namespace Sys2Proof.Machine

def argThread (arg : Word) : Thread := ⟨field arg 0 4 % 16, Nat.mod_lt _ (by decide)⟩

/-- A custodian thread word of THREAD_STATUS (R340). -/
def State.threadWord (s : State) (t : Thread) : Word :=
  pack [(0, 10, liveEst t (s.thread t)), (10, 10, s.yoke.factors.get t), (20, 10, s.creditBit t),
        (30, 1, bit (s.thread t).custHold), (31, 1, bit (s.underCapture t))]

def State.threadStatusBytes (s : State) (i : Sleeve) : List Byte :=
  wordsBytes ([s.page2 0, s.runWord, s.floorWord, s.page2 2] ++ (if i = 0 then allThreads.map s.threadWord else []))

/-- THREAD_STATUS (R340). -/
def execThreadStatus (t : Take) (s : State) : Res :=
  .next (takeOp t 0x50 (noParams fun c s => answer c.id stOk (s.threadStatusBytes c.sl) s) s)

/-- The custodian row of Table 5-3: quarantined and held; the open windows are dropped and a re-test ends (R638). A trip whose
handling still waits is ordered first: it is counted, or retires the thread (5.4.3, situation 2). -/
def holdThread (t : Thread) (s : State) : State :=
  let s := handleUnit (.thread t) (s.faultAt (.thread t)) s
  if (s.thread t).health.st = .retired then s
  else
    raiseD 0x5034 [BitVec.ofNat 8 t.val] <|
      modThread t (fun x => { ThreadSt.fresh x with
        custHold := true, test := .none, passed := false
        health := { x.health with st := .quarantined, retest := false, unhandled := false, again := false } }) s

def threadQuarantineBody (c : Cmd) (s : State) : State :=
  let t := argThread c.arg
  if (s.thread t).health.st = .retired then answer c.id stFenced [] s
  else
    let s := holdThread t s
    answer c.id (if (s.thread t).health.st = .retired then stFenced else stOk) [] s

/-- THREAD_QUARANTINE (R341). -/
def execThreadQuarantine (t : Take) (s : State) : Res := .next (takeOp t 0x51 (argOnly 0xF threadQuarantineBody) s)

/-- A readmission of the unit runs or waits (5.5.1, situation 3). -/
def State.readmitting (s : State) (u : UnitRef) : Bool :=
  (s.lining.waiting ++ s.lining.writer.toList).any (fun c => c.why == .readmit u || c.why == .erase0 u || c.why == .erase1 u) ||
  match u with
  | .thread t => (s.thread t).readmit
  | _ => false

/-- Queue a readmission run of a slice (R169 step 2, R346). -/
def queueReadmit (k : Fin 32) (req logic analog : Nat) (cmd : Option Nat) (s : State) : State :=
  setResult k (fun x => { x with outcome := 1, req := req })
    (modBist (fun b => { b with readmits := b.readmits ++ [⟨k, .readmission, req, logic, analog, cmd, s.now, false⟩] }) s)

/-- A held thread is released to its re-test. A trip that met the hold and that the handler has not yet taken stays uncounted
(R166); its earlier trip history stands, since a release is no readmission (DEDUCED, assumption log 72). -/
def threadReadmitBody (c : Cmd) (s : State) : State :=
  let t := argThread c.arg
  let h := (s.thread t).health
  match h.st with
  | .inService => answer c.id stOk [] s
  | .quarantined =>
    if (s.thread t).custHold then
      s |> modThread t (fun x => { x with custHold := false, health := { x.health with unhandled := false, again := false } })
        |> startRetest (.thread t)
        |> answer c.id stOk []
    else answer c.id stOk [] s
  | .retired =>
    let k : Fin 32 := ⟨t.val, by omega⟩
    if 3 ≤ h.used then answer c.id stFenced [] s
    else if s.sliceBusy k || s.readmitting (.thread t) then answer c.id stBusy [] s
    else queueReadmit k c.sl.val 4 2 (some c.id) s

/-- THREAD_READMIT (R169, R171): a retired thread is answered when its readmission ends. -/
def execThreadReadmit (t : Take) (s : State) : Res := .next (takeOp t 0x52 (argOnly 0xF threadReadmitBody) s)

def setCreditBody (c : Cmd) (s : State) : State :=
  if c.params.length = 9 ∧ creditOk c.params = true then
    requestCommit ⟨.credit, s.creditBody c.params, false, .credit, some c.id⟩ s
  else answer c.id stBadLength [] s

/-- SET_CREDIT (R342): factors and floor take force at the commit marker. -/
def execSetCredit (t : Take) (s : State) : Res := .next (takeOp t 0x53 setCreditBody s)

/-- Mode and counts fit Table 4-5 (R132, R343). -/
def captureOk (t : Thread) (mode samples restarts : Nat) : Bool :=
  if mode = 0 then decide (restarts = 1) && decide (samples ≤ 1048576)
  else if mode = 1 then isM t && decide (restarts = 1) && decide (samples ≤ 262144)
  else if mode = 2 then
    decide (1 ≤ restarts) && decide (restarts ≤ 1024) && decide (samples ≤ 65536) && decide (restarts * samples ≤ 1048576)
  else false

/-- Claim `n` pockets for S0; the caller has checked that they are free (R134, R246). -/
def claimMany : Nat → State → List Nat × State
  | 0, s => ([], s)
  | n + 1, s =>
    match claimPocket 0 s with
    | none => ([], s)
    | some (p, s') =>
      let r := claimMany n s'
      (p :: r.1, r.2)

/-- A thread as its capture begins: its windows are cut off, and with them any test but a readmission's full test (R638, R141). -/
def ThreadSt.intoCapture (x : ThreadSt) : ThreadSt :=
  if x.readmit then x
  else { ThreadSt.restart x with
    test := .none, passed := false, fullDue := x.fullDue || decide (x.test = .full) && decide (x.health.st = .inService) }

/-- Start a capture (R135, R136): the rest of an earlier capture stays at the head of the chain. In mode 2 the first restart holds
the thread at once (R132, 4.7 step 3). -/
def startCapture (t : Thread) (mode samples restarts n : Nat) (s : State) : State :=
  let r := claimMany n (addUsed 0 n s)
  let out := decide ((s.thread t).health.st ≠ .inService)
  r.2 |> modCapture (fun c => { Capture.reset with
          thread := t, mode := mode, active := true, done := c.done, samples := samples, restarts := restarts
          seq := (c.seq + 1) % 65536, pockets := r.1, wasOut := out, holdUntil := if mode = 2 then s.now + 10 else 0
          older := c.older ++ (if c.readPos < c.bytes.length then [(c.bytes.drop c.readPos, c.pockets, c.records)] else []) })
      |> modThread t ThreadSt.intoCapture
      |> raiseD 0x5010 [BitVec.ofNat 8 t.val]

/-- The refusals are tested in this order, since the spec gives none: BAD_LENGTH, BUSY, NO_ENTROPY, FENCED, QUOTA (DESIGN CHOICE,
assumption log 70). A thread that the rail or ride-through holds is accepted, and its capture waits (DESIGN CHOICE, assumption
log 70). -/
def rawCaptureBody (c : Cmd) (s : State) : State :=
  let t := argThread c.arg
  let mode := field c.arg 4 2
  match c.params with
  | [samples, restarts] =>
    let m := samples.toNat
    let r := restarts.toNat
    let inSvc := decide ((s.thread t).health.st = .inService)
    let n := capturePockets mode r m
    if !argBits c.arg 0x3F then answer c.id stBadLength [] s
    else if m = 0 then answer c.id stOk [] (when' (s.captured t) (endCapture 1) s)
    else if !captureOk t mode m r then answer c.id stBadLength [] s
    else if s.capture.active then answer c.id stBusy [] s
    else if inSvc && (s.floor.below || s.wouldFall [t]) then answer c.id stNoEntropy [] s
    else if s.pool.allFenced then answer c.id stFenced [] s
    else if s.pool.avail 0 < n ∨ s.pool.freeCount < n + s.fabric.claims.length then answer c.id stQuota [] s
    else
      let s := startCapture t mode m r n s
      answer c.id stAccepted (wordBytes (pack [(0, 13, n), (16, 16, s.capture.seq)])) s
  | _ => answer c.id stBadLength [] s

/-- RAW_CAPTURE (R131 to R136, R343). -/
def execRawCapture (t : Take) (s : State) : Res := .next (takeOp t 0x54 rawCaptureBody s)

end Sys2Proof.Machine
end

