-- ==== Sys2Proof/Machine/BistCmds.lean ====
section
/-! DEFINITION. The self-test opcodes (11.8, R344 to R347). -/

namespace Sys2Proof.Machine

def argTarget (arg : Word) : Nat := field arg 0 7
def argLogic (arg : Word) : Nat := field arg 8 5
def argAnalog (arg : Word) : Nat := field arg 16 5

/-- Budgets of 17 to 31 break R344. -/
def budgetsOk (arg : Word) : Bool := decide (argLogic arg ≤ 16) && decide (argAnalog arg ≤ 16)

def bistRunBody (c : Cmd) (s : State) : State :=
  let k := argTarget c.arg
  if h : k < 32 ∧ budgetsOk c.arg = true then
    match s.openVerdict ⟨k, h.1⟩ c.sl.val with
    | some st => answer c.id st [] s
    | none => answer c.id stAccepted [] (queueOpen ⟨k, h.1⟩ c.sl.val (argLogic c.arg) (argAnalog c.arg) s)
  else answer c.id stBadLength [] s

/-- BIST_RUN without READMIT (R345). -/
def execBistRun (t : Take) (s : State) : Res :=
  .next (takeWith t (fun op arg => op == 0x60 && !arg.getLsbD 7) (argOnly 0x1F1F7F bistRunBody) s)

/-- The first journal write of an instance or key-slot readmission (R169 step 2, R219): a write and its read-back. -/
def eraseCommit (u : UnitRef) (cmd : Option Nat) : Option Commit :=
  match u with
  | .inst i k => some ⟨.inst i k, .inst false 0 0, false, .erase0 u, cmd⟩
  | .slot k => some ⟨.slot k, .slot 0 [] [], false, .erase0 u, cmd⟩
  | _ => none

/-- Readmit an instance or a key slot: no place under test is taken (R346). -/
def readmitStored (u : UnitRef) (c : Cmd) (s : State) : State :=
  let h := s.health u
  if h.st ≠ .retired ∨ 3 ≤ h.used then answer c.id stFenced [] s
  else if s.readmitting u then answer c.id stBusy [] s
  else match eraseCommit u (some c.id) with
    | some x => requestCommit x s
    | none => s

def bistReadmitBody (c : Cmd) (s : State) : State :=
  let k := argTarget c.arg
  if !budgetsOk c.arg then answer c.id stBadLength [] s
  else if h : 16 ≤ k ∧ k < 32 then
    let sl : Fin 32 := ⟨k, h.2⟩
    if !s.readmittable sl then answer c.id stFenced [] s
    else if s.sliceBusy sl || (s.readmitUnits sl).any s.readmitting then answer c.id stBusy [] s
    else queueReadmit sl c.sl.val (budget (argLogic c.arg) 4) (budget (argAnalog c.arg) 2) (some c.id) s
  else if h : 32 ≤ k ∧ k < 64 then
    readmitStored (.inst ⟨(k - 32) / 4, by omega⟩ ⟨(k - 32) % 4, Nat.mod_lt _ (by decide)⟩) c s
  else if h : 64 ≤ k ∧ k < 96 then readmitStored (.slot ⟨k - 64, by omega⟩) c s
  else answer c.id stBadLength [] s

/-- BIST_RUN with READMIT (R169, R346): answered when the readmission ends. -/
def execBistRunReadmit (t : Take) (s : State) : Res :=
  .next (takeWith t (fun op arg => op == 0x60 && arg.getLsbD 7) (argOnly 0x1F1FFF bistReadmitBody) s)

/-- The 16 bytes of BIST_RESULT (R347). -/
def BistResult.bytes (r : BistResult) : List Byte :=
  [BitVec.ofNat 8 r.outcome, BitVec.ofNat 8 r.req, 0, 0] ++ natBytes 4 r.endMs ++ wordBytes r.misr ++ wordBytes r.expect

def bistResultBody (c : Cmd) (s : State) : State :=
  let k := argTarget c.arg
  if h : k < 32 then answer c.id stOk (s.bist.results.get ⟨k, h⟩).bytes s else answer c.id stBadLength [] s

/-- BIST_RESULT (R347). -/
def execBistResult (t : Take) (s : State) : Res := .next (takeOp t 0x61 (argOnly 0x7F bistResultBody) s)

end Sys2Proof.Machine
end

