-- ==== Sys2Proof/Machine/PowerCmds.lean ====
section
/-! DEFINITION. The power opcodes (11.9, R348 to R351). -/

namespace Sys2Proof.Machine

/-- A power policy word breaks no rule of R348. -/
def policyOk (w : Word) : Bool :=
  argBits w 0x3FFFFF7F && (decide (field w 0 7 = 0) || (decide (15 ≤ field w 0 7) && decide (field w 0 7 ≤ 80))) &&
    decide (field w 16 6 ≤ 35) && decide (field w 22 6 ≤ 35)

def setPowerPolicyBody (c : Cmd) (s : State) : State :=
  match c.params with
  | [w] => if policyOk w then requestCommit ⟨.power, .power w, false, .power, some c.id⟩ s else answer c.id stBadLength [] s
  | _ => answer c.id stBadLength [] s

/-- SET_POWER_POLICY (R348, R110). -/
def execSetPowerPolicy (t : Take) (s : State) : Res := .next (takeOp t 0x70 setPowerPolicyBody s)

/-- Steps 3 and 4 of R349 once no other command is in flight: streams stop, OK is posted and 0xF041 written. -/
def foldReplyNow (s : State) : State :=
  let others := s.cmds.any (fun c => some c.id != s.power.foldCmd)
  if s.power.phase = .folding ∧ s.power.foldReply = false ∧ others = false then
    s |> forAll allSleeves (fun i => forAll allFours (stopStream i))
      |> answerOpt s.power.foldCmd stOk []
      |> modPower (fun p => { p with
          foldReply := true, foldAt := s.now
          wakeAt := if p.wakeS = 0 then none else some (s.now + 1000000 * p.wakeS) })
      |> raise 0xF041
  else s

def foldBody (c : Cmd) (s : State) : State :=
  if s.capture.active || !s.bist.active.isEmpty then answer c.id stBusy [] s
  else
    s |> modPower (fun p => { p with
          phase := .folding, foldCmd := some c.id, foldReply := false, foldTherm := false, wakeS := field c.arg 0 24 })
      |> foldReplyNow

/-- FOLD (R349): with commands in flight its reply waits for them, and FOLD_ENTRY posts it. -/
def execFold (t : Take) (s : State) : Res := .next (takeOp t 0x71 (argOnly 0xFFFFFF foldBody) s)

def resumeBody (c : Cmd) (s : State) : State :=
  if s.power.phase = .fold then
    if s.hostOnly && s.hot then answer c.id stBusy [] s
    else wakeSource 0 (modPower (fun p => { p with resumes := p.resumes ++ [c.id] }) s)
  else answer c.id stOk [] s

/-- RESUME (R350, R576): in fold its reply is posted when READY rises. -/
def execResume (t : Take) (s : State) : Res := .next (takeOp t 0x72 (noParams resumeBody) s)

/-- GET_POWER's payload (R351). -/
def State.powerBytes (s : State) (i : Sleeve) : List Byte :=
  wordsBytes ([s.statWord, s.page8 1] ++ (if i = 0 then [s.page8 2, s.page8 3, s.page8 4, s.page8 5, s.page8 6, s.page8 7] else []))

def getPowerBody (c : Cmd) (s : State) : State :=
  let out := s.powerBytes c.sl
  let s := if c.sl = 0 then clearWakeWhy s.power.wakeWhy 0 s else s
  answer c.id stOk out s

/-- GET_POWER (R351): from S0 it reads PWR_WAKEWHY as a register read does (R573). -/
def execGetPower (t : Take) (s : State) : Res := .next (takeOp t 0x73 (noParams getPowerBody) s)

end Sys2Proof.Machine
end

