-- ==== Sys2Proof/Machine/LogOps.lean ====
section
/-! DEFINITION. The Selvedge log: entries, the chain, the last-resort register, row failures, and how the handler's hand moves
on (18.3 to 18.6). -/

namespace Sys2Proof.Machine

/-- Bytes 0 to 23 of an entry (Table 18-3). -/
def LogEntry.body (e : LogEntry) : List Byte :=
  wordBytes e.seq ++ natBytes 2 e.boot.toNat ++ natBytes 6 e.time.toNat ++ natBytes 2 e.code.toNat ++
    [BitVec.ofNat 8 (e.rank + 16 * e.src), BitVec.ofNat 8 e.age] ++ (e.data ++ List.replicate (8 - e.data.length) 0)

/-- The 32 bytes of an entry. -/
def LogEntry.bytes (e : LogEntry) : List Byte := e.body ++ (e.chain ++ List.replicate (8 - e.chain.length) 0)

/-- The chain tag of an entry after the chain tag before it (R544). -/
def chainTag (prev : List Byte) (e : LogEntry) : List Byte :=
  let k := hmacStates 0 (natBytes 32 Config.logKey.toNat)
  (hmacWith 0 k.1 k.2 (prev ++ e.body)).take 8

/-- The newest ring entry's chain tag; 64 zero bits for an empty ring. -/
def Log.lastChain (l : Log) : List Byte :=
  match l.ring.getLast? with
  | some e => e.chain
  | none => List.replicate 8 0

/-- The log row of an entry (R541). -/
def LogEntry.row (e : LogEntry) : Nat := e.seq.toNat % 8192

/-- Store an entry in the ring; it replaces the entry of its row. -/
def Log.store (e : LogEntry) (l : Log) : Log := { l with ring := l.ring.filter (fun x => x.row != e.row) ++ [e] }

/-- Put an entry into the last-resort register (R551): a read entry makes room first. -/
def Log.lastResort (e : LogEntry) (l : Log) : Log :=
  if l.lr.length < 4 then { l with lr := l.lr ++ [(e, false)] }
  else if l.lr.any (·.2) then { l with lr := l.lr.eraseP (·.2) ++ [(e, false)] }
  else { l with lr := l.lr.drop 1 ++ [(e, false)], overflow := satAdd 16 l.overflow 1 }

/-- The entry of an event, with the next sequence number (R546 step 1). -/
def State.entryOf (s : State) (e : Ev) : LogEntry where
  seq := s.log.next
  boot := s.lining.boot.extractLsb' 0 16
  time := BitVec.ofNat 48 (s.now / 10)
  code := e.code
  rank := e.rank
  src := e.src
  age := min 255 ((s.now - e.at_) / 10)
  data := (e.data ++ List.replicate (8 - e.data.length) 0).take 8
  chain := List.replicate 8 0

/-- Fence the log (R549): final, recorded in the unit record, event 0x8004. -/
def fenceLog (s : State) : State := raise 0x8004 (pendRecord .logRows (modLog (fun l => { l with fenced := true }) s))

/-- A failed read-back (R547): the entry goes to the last-resort register, the physical row is retired and the next spare takes
its place; `n` bounds the failures in turn. The entry is stored on the row that holds. -/
def writeRow (e : LogEntry) : Nat → State → State
  | 0, s => modLog (Log.store e) s
  | n + 1, s =>
    let row := e.row
    let s := modLog (fun l => { Log.lastResort e l with
      wfail := satAdd 16 l.wfail 1
      spares := l.spares.map (fun x => if x.row = row ∧ x.retired = false then { x with retired := true } else x) }) s
    if s.log.spares.length < 64 then
      s |> modLog (fun l => { l with spares := l.spares ++ [⟨row, false⟩] })
        |> pendRecord .logRows
        |> raiseD 0x8003 (natBytes 2 row)
        |> writeRow e n
    else fenceLog (raiseD 0x8003 (natBytes 2 row) s)

/-- Write one event to the log (R546, R549, R550). -/
def writeEntry (e : Ev) (rowFails : Nat) (s : State) : State :=
  let x := s.entryOf e
  let s := modLog (fun l => { l with next := l.next + 1 }) s
  if s.log.fenced || s.logSusp || !s.log.keyOk then modLog (Log.lastResort x) s
  else writeRow { x with chain := chainTag s.log.lastChain x } rowFails s

/-- The highest rank among events. -/
def topRank (q : List Ev) : Nat := q.foldl (fun m e => max m e.rank) 0

/-- The event the free hand takes next (R533): a suspended one before a queued one of the same rank, then the earliest of the
highest rank. -/
def Log.takeNext (l : Log) : Log :=
  match l.stack with
  | e :: r =>
    if topRank l.queue ≤ e.rank then { l with hand := some e, stack := r }
    else { l with
      hand := l.queue.find? (fun x => x.rank == topRank l.queue), queue := l.queue.eraseP (fun x => x.rank == topRank l.queue) }
  | [] => { l with
      hand := l.queue.find? (fun x => x.rank == topRank l.queue), queue := l.queue.eraseP (fun x => x.rank == topRank l.queue) }

/-- The hand is free: it takes the next event and acts for it. -/
def nextInHand (s : State) : State := handleHand (modLog Log.takeNext s)

/-- A LOG_MARK whose entry has been written is answered OK with its sequence number (R353). -/
def answerMark (e : Ev) (seq : Word) (s : State) : State :=
  match e.cmd.bind s.findCmd with
  | some c => answer c.id stOk (wordBytes seq) (modSleeve c.sl (fun x => { x with lastMark := some s.now }) s)
  | none => s

/-- The log works from lining restore until power-off. -/
def State.logging (s : State) : Bool := s.lined

/-- The writer takes LOG_OPEN and POWER_UP after a restore; then the event in hand, and the hand moves on (R542, R546, R567). -/
def logWrite (rowFails : Nat) (s : State) : State :=
  if !s.logging then s
  else
    match s.log.opening, s.log.hand with
    | e :: r, _ => writeEntry e rowFails (modLog (fun l => { l with opening := r }) s)
    | [], some e =>
      let seq := s.log.next
      nextInHand (answerMark e seq (modLog (fun l => { l with hand := none }) (writeEntry e rowFails s)))
    | [], none => s

/-- Number of ring entries of a range that verify, and the first that does not (R354, R545). -/
def verifyRange : Nat → List LogEntry → Nat × Word
  | n, a :: b :: r => if b.chain = chainTag a.chain b then verifyRange (n + 1) (b :: r) else (n, b.seq)
  | n, _ => (n, 0xFFFFFFFF)

/-- Ring entries from a sequence number on, at most `count`. -/
def Log.range (l : Log) (first : Word) (count : Nat) : List LogEntry :=
  (l.ring.filter (fun e => decide (first.toNat ≤ e.seq.toNat))).take count

/-- Finish the log verification in progress. -/
def finishVerify (s : State) : State :=
  match s.log.verify with
  | some (id, first, count) =>
    let r := verifyRange 0 (s.log.range first count)
    answer id stOk (natBytes 4 r.1 ++ wordBytes r.2) (modLog (fun l => { l with verify := none }) s)
  | none => s

end Sys2Proof.Machine
end

