-- ==== Sys2Proof/Machine/LogCmds.lean ====
section
/-! DEFINITION. The log opcodes (11.10, R352 to R354, R552). -/

namespace Sys2Proof.Machine

def argCount (arg : Word) : Nat := field arg 0 3

def logReadBody (c : Cmd) (s : State) : State :=
  match c.params with
  | [first] =>
    if argCount c.arg = 0 then answer c.id stBadLength [] s
    else
      let es := s.log.range first (argCount c.arg)
      let next := match es.getLast? with
        | some e => e.seq + 1
        | none => s.log.next
      let mine := es.filter (fun e => decide (c.sl = 0) || decide (e.src = c.sl.val))
      answer c.id stOk (wordBytes next ++ mine.flatMap LogEntry.bytes) s
  | _ => answer c.id stBadLength [] s

/-- An opcode with these ARG bits and any parameters. -/
def argParams (mask : Word) (body : Cmd → State → State) (c : Cmd) (s : State) : State :=
  if argBits c.arg mask then body c s else answer c.id stBadLength [] s

/-- LOG_READ of the ring (R352, R548). -/
def execLogRead (t : Take) (s : State) : Res :=
  .next (takeWith t (fun op arg => op == 0x80 && !arg.getLsbD 7) (argParams 0x7 logReadBody) s)

/-- Mark the first `n` unread entries read. -/
def markRead : Nat → List (LogEntry × Bool) → List (LogEntry × Bool)
  | 0, l => l
  | _, [] => []
  | n + 1, (e, true) :: r => (e, true) :: markRead (n + 1) r
  | n + 1, (e, false) :: r => (e, true) :: markRead n r

def logReadLrBody (c : Cmd) (s : State) : State :=
  let n := argCount c.arg
  if c.params.length ≠ 1 ∨ n = 0 ∨ 4 < n then answer c.id stBadLength [] s
  else if c.sl ≠ 0 then answer c.id stNotOwner [] s
  else
    let es := ((s.log.lr.filter (fun e => !e.2)).take n).map (·.1)
    s |> modLog (fun l => { l with lr := markRead n l.lr })
      |> answer c.id stOk (natBytes 4 s.log.overflow ++ es.flatMap LogEntry.bytes)

/-- LOG_READ of the last-resort register (R552): entries returned are marked read at the reply's posting. -/
def execLogReadLr (t : Take) (s : State) : Res :=
  .next (takeWith t (fun op arg => op == 0x80 && arg.getLsbD 7) (argParams 0x87 logReadLrBody) s)

def logMarkBody (c : Cmd) (s : State) : State :=
  match c.params with
  | [_, _] =>
    if !everySecond (s.sleeve c.sl).lastMark s.now then answer c.id stBusy [] s
    else
      let r := offer { mkEv s 0x8001 c.sl.val (paramBytes c) with cmd := some c.id } s
      if r.2 then r.1 else answer c.id stBusy [] r.1
  | _ => answer c.id stBadLength [] s

/-- LOG_MARK (R353): its reply is posted once LOG_WRITE has written the entry. -/
def execLogMark (t : Take) (s : State) : Res := .next (takeOp t 0x81 logMarkBody s)

def logVerifyBody (c : Cmd) (s : State) : State :=
  match c.params with
  | [first, count] =>
    if count.toNat = 0 ∨ 8192 < count.toNat then answer c.id stBadLength [] s
    else if !s.log.keyOk || s.logSusp then answer c.id stFenced [] s
    else if s.log.verify.isSome then answer c.id stBusy [] s
    else modLog (fun l => { l with verify := some (c.id, first, count.toNat) }) s
  | _ => answer c.id stBadLength [] s

/-- LOG_VERIFY (R354): a service engine's next grant, at the precedence of log chaining, completes it. -/
def execLogVerify (t : Take) (s : State) : Res := .next (takeOp t 0x82 logVerifyBody s)

end Sys2Proof.Machine
end

