-- ==== Sys2Proof/Machine/PortOps.lean ====
section
/-! DEFINITION. Ports' shared operations: push entries' figures, training verdicts, patch images and line checks (12.4, 14.3,
14.4). -/

namespace Sys2Proof.Machine

/-! ### Push entries (Table 9-3, R435, R436) -/

/-- The four words of an entry in the live bank. -/
def SleeveSt.pushWords (x : SleeveSt) (e : Fin 4) : Vector Word 4 :=
  #v[x.live.get ⟨8 + 4 * e.val, by omega⟩, x.live.get ⟨9 + 4 * e.val, by omega⟩,
     x.live.get ⟨10 + 4 * e.val, by omega⟩, x.live.get ⟨11 + 4 * e.val, by omega⟩]

def peStream (w : Vector Word 4) : Fin 4 := ⟨field (w.get 0) 0 2 % 4, Nat.mod_lt _ (by decide)⟩
def peEnabled (w : Vector Word 4) : Bool := (w.get 0).getLsbD 2
/-- Port 0 A, 1 B. -/
def pePort (w : Vector Word 4) : Fin 3 := if (w.get 0).getLsbD 3 then 1 else 0
/-- The partner select as an index of Table 11-6. -/
def pePartner (w : Vector Word 4) : Sel := ⟨(4 * (pePort w).val + field (w.get 0) 4 2) % 10, Nat.mod_lt _ (by decide)⟩
def peFpw (w : Vector Word 4) : Nat := if field (w.get 0) 8 4 = 0 then 16 else field (w.get 0) 8 4
def pePeriod (w : Vector Word 4) : Nat := max 100 (field (w.get 1) 0 24)
def peOffset (w : Vector Word 4) : Nat := field (w.get 2) 0 24 % pePeriod w
def peWindow (w : Vector Word 4) : Nat := min (max 1 (field (w.get 3) 0 16)) (pePeriod w)
def peGuard (w : Vector Word 4) : Nat := field (w.get 3) 16 16

/-- G of R436. -/
def presentGuard (w : Vector Word 4) (d : Nat) : Nat := min 65535 (peGuard w * 2 ^ d)

/-- G′ of R435. -/
def effGuard (w : Vector Word 4) (d : Nat) : Nat := min (presentGuard w d) ((pePeriod w - peWindow w) / 2)

/-- t_k of R435. -/
def nominalStart (w : Vector Word 4) (epoch k : Nat) : Nat := epoch + peOffset w + k * pePeriod w

/-- The span of window k. -/
def spanOf (w : Vector Word 4) (epoch d k : Nat) : Nat × Nat :=
  let t := nominalStart w epoch k
  (max epoch (t - effGuard w d), t + peWindow w + effGuard w d)

/-- The first window whose nominal start is not past. -/
def nextWindow (w : Vector Word 4) (epoch now : Nat) : Nat :=
  (now - (epoch + peOffset w) + pePeriod w - 1) / pePeriod w

/-- E of R435: the STREAM_START of the entry's stream (R266), or a later re-epoch (R356). -/
def SleeveSt.pushEpoch (x : SleeveSt) (e : Fin 4) (w : Vector Word 4) : Nat :=
  max (x.pushes.get e).epoch (x.streams.get (peStream w)).epoch

/-! ### Training (12.4) -/

def portIx : Port → Fin 3
  | .A => 0
  | .B => 1
  | .M => 2

/-- LANE_CONFIG's and LINK_TRAIN's payload: lanes in service, one bit per lane. -/
def State.lanesMask (s : State) (p : Fin 3) : List Byte :=
  natBytes 4 (packRow 1 ((portLanes p).map (fun l => bit ((s.lanesUp p).contains l)))).toNat

/-- Answer the commands that wait for a port's training. -/
def answerWaiters (p : Fin 3) (st : Byte) (s : State) : State :=
  let ws := (s.ports.ports.get p).waiters
  let out := if st = stOk then s.lanesMask p else []
  forAll ws (fun id => answer id st out) (modPort p (fun x => { x with waiters := [] }) s)

/-- What a physical lane received in the inbound phase. -/
def seenOn (seen : List (List (BitVec 1024))) (l : Fin 8) : List (BitVec 1024) := seen.getD l.val []

/-- A passing lane of port A or B samples at the centre of its window (R373). -/
def centreLane (p : Fin 3) (l : Fin 8) (phases : List (BitVec 1024)) : State → State :=
  when' (decide (p ≠ 2)) (modLane (laneFin p l) (fun x => { x with
    centre := windowCentre (laneWindow l phases), point := windowCentre (laneWindow l phases) }))

/-- The verdict of a TRAIN frame on one lane (R373, Table 12-5). A fault whose handling still waits is counted first. -/
def judgeLane (p : Fin 3) (seen : List (List (BitVec 1024))) (l : Fin 8) (s : State) : State :=
  let u := UnitRef.lane (laneFin p l)
  let passes := lanePasses p l (seenOn seen l)
  if (s.health u).bist then s
  else
    let s := handleUnit u (s.faultAt u) s
    match (s.health u).st with
    | .inService => if passes then centreLane p l (seenOn seen l) s else laneFault p l s
    | .quarantined =>
      if passes && s.recovers u then
        raiseD 0x9002 [BitVec.ofNat 8 (laneFin p l).val] (passRetest u (centreLane p l (seenOn seen l) s))
      else failRetest u s
    | .retired => s

/-- The verdicts of a completed TRAIN frame: lanes, retirement of the port, width and the trained flag, as one update (R375,
R378). -/
def judgeTrain (p : Fin 3) (seen : List (List (BitVec 1024))) (s : State) : State :=
  let s := checkPort p (forAll (portLanes p) (judgeLane p seen) s)
  if (s.ports.ports.get p).health.st = .retired then answerWaiters p stFenced s
  else
    let quarantined := (portLanes p).any (fun l => decide ((s.health (.lane (laneFin p l))).st = .quarantined))
    let s := setWidth p (min (s.ports.ports.get p).config (widest (s.lanesUp p).length)) s
    let s := modPort p (fun x => { x with trained := !quarantined }) s
    let s := if everySecond (s.ports.ports.get p).lastDone s.now then
        raiseD 0x9006 [BitVec.ofNat 8 p.val] (modPort p (fun x => { x with lastDone := some s.now }) s)
      else s
    if quarantined then s else answerWaiters p stOk s

/-! ### Patch images and line checks (R358, R448) -/

/-- An image verifies: its tag under the patch key, and the fixed fields of Table 11-19. -/
def imageOk (img : List Byte) : Bool :=
  let k := hmacStates 0 (natBytes 32 Config.patchKey.toNat)
  let n := img.length - 32
  decide (128 ≤ img.length + 32) && hmacWith 0 k.1 k.2 (img.take n) == img.drop n &&
    img.take 4 == [0x50, 0x54, 0x43, 0x48] && ((img.drop 12).take 52).all (· == 0)

def imageVersion (img : List Byte) : Nat := bytesNat ((img.drop 4).take 2)
def imageRom (img : List Byte) : Nat := bytesNat ((img.drop 6).take 2)
def imageCode (img : List Byte) : Nat := bytesNat ((img.drop 8).take 4)

/-- The read of the line at an offset, as PRT_F_RDCMD and LANE_CONFIG set it (R446, Table 14-2). -/
def Xip.readOf (x : Xip) (f1 : Bool) (offset : Nat) : FlashRead where
  f1 := f1
  offset := offset / 64 * 64
  opcode := x.rdcmd.extractLsb' 0 8
  cmdW := 2 ^ field x.rdcmd 8 2
  addrW := 2 ^ field x.rdcmd 10 2
  addrB := if x.rdcmd.getLsbD 12 then 4 else 3
  dummy := field x.rdcmd 13 5
  width := x.fWidth

/-- F.SCK periods of a read: 8/c + 8a/c′ + DUMMY + 512/w (R446). -/
def FlashRead.periods (r : FlashRead) : Nat := 8 / r.cmdW + 8 * r.addrB / r.addrW + r.dummy + 512 / r.width

/-- A line is read on port F. -/
def readFlash (f1 : Bool) (offset : Nat) : State → State := modXip (fun x => { x with lastRead := some (x.readOf f1 offset) })

/-- The copies of an image are read line by line, F0 and then, unless the first was taken, F1; the last line read stands. -/
def readImage (again : Bool) (offset len : Nat) (s : State) : State :=
  when' again (readFlash true (offset + len - 1)) (readFlash false (offset + len - 1) s)

/-- The line check of a line at an internal address (R448). -/
def lineCheck (boot : Word) (addr : Nat) (line : List Byte) : List Byte :=
  let k := hmacStates 0 (natBytes 32 (Config.lineKey boot).toNat)
  (hmacWith 0 k.1 k.2 (natBytes 4 addr ++ line)).take 8

/-- First internal address of the code of an image at an offset. -/
def codeBase (offset : Nat) : Nat := 0x01000000 + offset + 64

/-- Line checks of an image's code. -/
def lineChecks (boot : Word) (offset : Nat) (img : List Byte) : List (List Byte) :=
  (List.range (imageCode img / 64)).map
    (fun i => lineCheck boot (codeBase offset + 64 * i) ((img.drop (64 + 64 * i)).take 64))

end Sys2Proof.Machine
end

