-- ==== Sys2Proof/Machine/PortCmds.lean ====
section
/-! DEFINITION. The port and patch opcodes and the TRAIN frame (11.11, 11.12, 12.4). -/

namespace Sys2Proof.Machine

def pushAction (arg : Word) : Nat := field arg 8 2

/-- Resume an entry's windows at the initial guard (R356, R436). -/
def resumeEntry (x : PushEntry) : PushEntry := { x with lost := false, suspended := false, doublings := 0, streak := 0 }

/-- What an action does from the next window start on (R356). -/
def PushAct.apply (x : PushEntry) : PushAct → PushEntry
  | .rearm => resumeEntry x
  | .reepoch t => { resumeEntry x with epoch := t, after := 0 }
  | .suspend => { x with suspended := true }

/-- An action waits while a window is in progress, which is served or missed as it began (R356, 14.3.5). -/
def takeAct (a : PushAct) (x : PushEntry) : PushEntry :=
  if x.opened then { x with acts := x.acts ++ [a] } else PushAct.apply x a

/-- PUSH_SCHEDULE for one action; ACTION 11 is BAD_LENGTH. -/
def pushScheduleBody (f : Nat → PushAct) (c : Cmd) (s : State) : State :=
  if pushAction c.arg = 3 then answer c.id stBadLength [] s
  else answer c.id stOk [] (modPush c.sl (argInst c.arg) (takeAct (f s.now)) s)

/-- PUSH_SCHEDULE re-arm (R356): the existing epoch. ACTION 11 is taken here too. -/
def execPushScheduleRearm (t : Take) (s : State) : Res :=
  .next (takeWith t (fun op arg => op == 0x90 && (pushAction arg == 0 || pushAction arg == 3))
    (argOnly 0x303 (pushScheduleBody (fun _ => .rearm))) s)

/-- PUSH_SCHEDULE re-epoch (R356): a new epoch at the command's commit. -/
def execPushScheduleReepoch (t : Take) (s : State) : Res :=
  .next (takeWith t (fun op arg => op == 0x90 && pushAction arg == 1) (argOnly 0x303 (pushScheduleBody .reepoch)) s)

/-- PUSH_SCHEDULE suspend (R356). -/
def execPushScheduleSuspend (t : Take) (s : State) : Res :=
  .next (takeWith t (fun op arg => op == 0x90 && pushAction arg == 2)
    (argOnly 0x303 (pushScheduleBody (fun _ => .suspend))) s)

/-- PUSH_STATUS's payload (R356). An entry that has had no epoch has no next start: that word is free (DESIGN CHOICE, assumption
log 4). -/
def State.pushStatusBytes (s : State) (i : Sleeve) (e : Fin 4) : List Byte :=
  let x := s.sleeve i
  let p := x.pushes.get e
  let w := x.pushWords e
  let epoch := x.pushEpoch e w
  let next := if epoch = 0 then s.freeValue.toNat else nominalStart w epoch (nextWindow w epoch s.now)
  wordBytes (pack [(0, 2, x.pushState e), (2, 2, p.doublings), (16, 16, presentGuard w p.doublings)]) ++
    natBytes 4 p.served ++ natBytes 4 p.missed ++ natBytes 4 (next % 2 ^ 32)

def pushStatusBody (c : Cmd) (s : State) : State := answer c.id stOk (s.pushStatusBytes c.sl (argInst c.arg)) (useFree s)

/-- PUSH_STATUS (R356, R444). -/
def execPushStatus (t : Take) (s : State) : Res := .next (takeOp t 0x91 (argOnly 0x3 pushStatusBody) s)

/-- The port that ARG names: none for F. -/
def argPort (arg : Word) : Option (Fin 3) := if h : field arg 0 2 < 3 then some ⟨field arg 0 2, h⟩ else none

/-- A WIDTH code in lanes; 0 for the code 00. -/
def codeWidth (n : Nat) : Nat := if n = 1 then 2 else if n = 2 then 4 else if n = 3 then 8 else 0

/-- Retrain a port for a command (R357, R369). -/
def retrain (id : Nat) (p : Fin 3) (s : State) : State :=
  modPort p (fun x => { x with waiters := x.waiters ++ [id] }) (untrain p s)

def laneConfigBody (c : Cmd) (s : State) : State :=
  let w := codeWidth (field c.arg 4 2)
  match argPort c.arg with
  | none =>
    if w = 0 then answer c.id stBadLength [] s
    else answer c.id stOk (natBytes 4 (2 ^ w - 1)) (modXip (fun x => { x with fWidth := w }) s)
  | some p =>
    if w = 0 ∨ (p = 2 ∧ w = 8) then answer c.id stBadLength [] s
    else if (s.lanesUp p).length < w ∨ (s.ports.ports.get p).health.st = .retired then answer c.id stFenced [] s
    else retrain c.id p (modPort p (fun x => { x with config := w }) s)

/-- LANE_CONFIG (R357): answered when training completes; port F is not trained. -/
def execLaneConfig (t : Take) (s : State) : Res := .next (takeOp t 0x92 (argOnly 0x33 laneConfigBody) s)

def linkTrainBody (c : Cmd) (s : State) : State :=
  match argPort c.arg with
  | none => answer c.id stBadLength [] s
  | some p =>
    if (s.ports.ports.get p).health.st = .retired then answer c.id stFenced [] s else retrain c.id p s

/-- LINK_TRAIN (R357). -/
def execLinkTrain (t : Take) (s : State) : Res := .next (takeOp t 0x93 (argOnly 0x3 linkTrainBody) s)

/-! ### PATCH_LOAD (R358) -/

/-- Commit a verified image, or refuse it. -/
def patchAccept (c : Cmd) (offset len : Nat) (img : List Byte) (fromF1 : Bool) (s : State) : State :=
  if len ≠ 96 + imageCode img then answer c.id stBadLength [] s
  else if imageVersion img ≤ s.ports.xip.version ∨ imageRom img ≠ 0x0103 then answer c.id stBadOpcode [] s
  else
    requestCommit ⟨.patch, .patch offset len (imageVersion img) (img.drop (len - 32)), false,
      .patch (imageVersion img) fromF1 offset (imageCode img) (lineChecks s.lining.boot offset img), some c.id⟩ s

/-- A copy that bears the magic names another length than LEN (Table 11-19). -/
def wrongLen (n : Nat) (img : List Byte) : Bool := img.take 4 == [0x50, 0x54, 0x43, 0x48] && decide (n ≠ 96 + imageCode img)

def patchLoadBody (f0 f1 : List Byte) (c : Cmd) (s : State) : State :=
  match c.params with
  | [offset, len] =>
    let o := offset.toNat
    let n := len.toNat
    if o % 64 ≠ 0 ∨ 65632 < n ∨ n < 96 ∨ (n - 96) % 64 ≠ 0 then answer c.id stBadLength [] s
    else if 2 ^ 24 < o + n then answer c.id stAccessFault [] s
    else if f0.length = n ∧ imageOk f0 = true then patchAccept c o n f0 false (readImage false o n s)
    else
      let s := readImage true o n s
      if f1.length = n ∧ imageOk f1 = true then patchAccept c o n f1 true s
      else if wrongLen n f0 || wrongLen n f1 then answer c.id stBadLength [] s
      else answer c.id stAuthFail [] (raise 0xA002 s)
  | _ => answer c.id stBadLength [] s

/-- PATCH_LOAD (R358): the patch takes effect at the commit marker. -/
def execPatchLoad (t : Take) (f0 f1 : List Byte) (s : State) : Res := .next (takeOp t 0xA0 (patchLoadBody f0 f1) s)

/-! ### TRAIN (R371 to R375) -/

/-- The port takes TRAIN frames: powered and not retired. -/
def State.trains (s : State) (p : Fin 3) : Bool :=
  (s.ports.ports.get p).on && decide ((s.ports.ports.get p).health.st ≠ .retired)

/-- A TRAIN frame on any select of a port: the verdicts at the end of the inbound phase, then the outbound phase at the width
they yield, and the trailer. -/
def execTrain (c : Sel) (seen : List (List (BitVec 1024))) (completed : Bool) (s : State) : Res :=
  .next <|
    let p := selPort c
    let soon := (s.ports.ports.get p).trained && (match (s.sel c).lastTrain with
      | some t => decide (s.now - t < 1000)
      | none => false)
    if !s.trains p || !completed then drive c [] [] s
    else
      let s' := modSel c (fun x => { x with lastTrain := some s.now }) s
      if soon then endFrame c [] stBusy 0 s'
      else
        let t := judgeTrain p seen s'
        let w := if (t.ports.ports.get p).health.st = .retired then 0 else (t.ports.ports.get p).width
        endFrame c (trainOut w) stOk w t

end Sys2Proof.Machine
end

