-- ==== Sys2Proof/Machine/JournalOps.lean ====
section
/-! DEFINITION. What a journaled commit writes and what takes force at its marker (16.3, R169, R205, R219, R324, R338, R358). -/

namespace Sys2Proof.Machine

/-! ### Readmissions (R169 steps 4 and 5) -/

/-- A readmitted unit: in service, one readmission more, its history clear. -/
def readmitUnit (u : UnitRef) : State → State :=
  modHealth u (fun h => { h with
    st := .inService, used := h.used + 1, faults := [], retest := false, unhandled := false, again := false })

/-- Units of a slice that are retired with readmissions left. -/
def State.retiredIn (s : State) (us : List UnitRef) : List UnitRef :=
  us.filter (fun u => decide ((s.health u).st = .retired) && decide ((s.health u).used < 3))

/-- The pool slice of a number. -/
def poolSlice (k : Fin 4) : Fin 32 := ⟨26 + k.val, by omega⟩
/-- The Seam slice of a number: A with M, and B. -/
def seamSlice (k : Fin 2) : Fin 32 := ⟨30 + k.val, by omega⟩

def banksOf (k : Fin 4) : List (Fin 16) := (List.finRange 16).filter (fun b => b.val / 4 = k.val)

/-- The unit states that a readmission leads to, before anything else follows from them. -/
def readmitStates (w : Why) (s : State) : State :=
  match w with
  | .readmit u => readmitUnit u s
  | .readmitPockets k =>
    forAll (banksOf k) readmitPockets (forAll (s.retiredIn ((banksOf k).map .bank)) readmitUnit s)
  | .readmitLanes k failed => forAll (s.lanesBack (seamSlice k) failed) readmitUnit s
  | _ => s

/-- Event of a unit's readmission: none is given for a conditioning core or a bank. -/
def readmitEvent (u : UnitRef) : State → State :=
  match u with
  | .thread t => raiseD 0x5032 [BitVec.ofNat 8 t.val]
  | .aes k => raiseD 0x1004 [BitVec.ofNat 8 k.val]
  | .sha k => if k.val < 4 then id else raiseD 0x3004 [BitVec.ofNat 8 k.val]
  | .bank _ => id
  | .lane k => fun s => raiseA 0x9008 [BitVec.ofNat 8 k.val] (alertLane (if k.val < 8 then 0 else if k.val < 16 then 1 else 2)) s
  | .port p => fun s => raiseA 0x9008 [BitVec.ofNat 8 p.val] (alertLane p) s
  | .slot k => raiseS 0x4007 ⟨k.val / 4, by omega⟩ [BitVec.ofNat 8 k.val]
  | .inst i k => raiseS 0x1007 i [BitVec.ofNat 8 k.val]
  | .sleeve i => raiseS 0x0023 i []

/-- What else the readmission of one unit does: a thread starts its windows afresh and is credited, an instance returns
uninstantiated, a slot empty. -/
def readmitRest (u : UnitRef) (s : State) : State :=
  match u with
  | .thread t =>
    modThread t (fun x => { ThreadSt.fresh x with custHold := false, readmit := false, passed := true, test := .none }) s
  | .inst i k => modInst i k (fun x => { Inst.reset with health := x.health }) s
  | .slot k =>
    modSlot k (fun x => { x with hash := 0, owned := false, inner := [], outer := [], gen := (s.pair (.slot k)).newestGen }) s
  | _ => s

/-! ### The copies of a commit -/

/-- The records that one commit writes at its marker: a SET_QUOTA with a new global pool hem also writes that hem's record, and
a readmission of pockets or lanes every record it changes. -/
def State.copies (s : State) (c : Commit) : List Commit :=
  match c.why with
  | .quota _ g => c :: (if g = 0 then [] else [{ c with record := .poolHem, body := .ghem g }])
  | .readmitPockets k =>
    (banksOf k).map (fun b => { c with record := .banks b, body := (readmitStates c.why s).recordBody (.banks b) })
  | .readmitLanes _ _ =>
    [RecId.lanes, RecId.ports].map (fun r => { c with record := r, body := (readmitStates c.why s).recordBody r })
  | _ => [c]

def writeCopies (c : Commit) (s : State) : State := forAll (s.copies c) writeCopy s

/-- A commit whose check has passed runs to its marker before a reset or a shutdown takes effect (R50, R489). -/
def finishWriter (s : State) : State :=
  match s.lining.writer with
  | some c => modLining (fun l => { l with writer := none }) (writeCopies c s)
  | none => s

/-! ### Keys -/

/-- A sleeve's transport key as its command key (R492). -/
def transportCmdKey (i : Sleeve) (gen : Word) : CmdKey :=
  let k := hmacStates 0 (natBytes 32 (Config.transportKey i).toNat)
  ⟨true, true, k.1, k.2, gen⟩

/-- A slot empties or loads at a marker; while a zeroization is pending its states stay out of SRAM (R463, R498). -/
def loadSlot (k : Fin 32) (hash : Nat) (inner outer : List Byte) (owned : Bool) (s : State) : State :=
  let gone := s.lining.zeroPend
  clearSlotContexts k s
    |> modSlot k (fun x => { x with
        hash := if gone then 0 else hash, inner := if gone then [] else inner, outer := if gone then [] else outer
        owned := owned, gen := (s.pair (.slot k)).newestGen })

/-! ### Withdrawals -/

/-- An operation that ends with its commit refused or withdrawn: the working state of an INSTANTIATE is cleared (R217). -/
def dropCommitOp (w : Why) (s : State) : State :=
  match w with
  | .instantiate op =>
    match s.findOp op with
    | some o => settleFabric (removeOp op (modInst o.sl o.inst (fun x => { Inst.reset with health := x.health }) s))
    | none => s
  | .uninstantiate op => settleFabric (removeOp op s)
  | .readmit (.thread t) => modThread t (fun x => { x with readmit := false }) s
  | _ => s

/-! ### What takes force at the marker -/

/-- The answer of a command that a marker completes. -/
def markerAnswer (c : Commit) (payload : List Byte) : State → State := answerOpt c.cmd stOk payload

/-- New routes: a select whose route changes takes the reset value of its PAGE, and its frame counter restarts (R322, R393,
R403). -/
def applyRoutes (rs : Vector Route 10) (s : State) : State :=
  let old := s.ports.routes
  modPorts (fun p => { p with
    routes := rs
    sels := p.sels.mapFinIdx (fun j x hj => if old.get ⟨j, hj⟩ = rs.get ⟨j, hj⟩ then x
      else { x with page := pageReset (rs.get ⟨j, hj⟩), frames := 0 }) }) s

/-- A list as a fixed array, filled from a default. -/
def listVec {α : Type} (n : Nat) (d : α) (l : List α) : Vector α n := Vector.ofFn (fun i => l.getD i.val d)

/-- Instance priorities above their sleeve's PMAX fall to it (R229). -/
def clampPrios (f : Fabric) : Fabric :=
  { f with insts := f.insts.mapFinIdx (fun i v hi => v.map (fun x => { x with prio := min x.prio (f.pmaxOf ⟨i, hi⟩) })) }

def applyQuotas (q pmax res : List Nat) (hems : List Word) (ghem : Nat) (s : State) : State :=
  s |> modFabric (fun f => clampPrios { f with quota := listVec 8 0 q, pmax := listVec 8 0 pmax })
    |> modPool (fun p => { p with
        per := p.per.mapFinIdx (fun j x _ => { x with res := res.getD j 0, hems := hems.getD j 0 })
        ghem := if ghem = 0 then p.ghem else ghem })

/-- Step 3 of R324 at the marker, then step 4. -/
def finishReset (i : Sleeve) (s : State) : State :=
  s |> modSleeve i (fun x => { x with wrapEpoch := x.wrapEpoch + 1, epoch := x.epoch + 1, runs := 0 })
    |> forAll allFours (fun k => modSlot (slotOf i k) (fun x => { x with hash := 0, inner := [], outer := [], owned := false }))
    |> raiseS 0x0002 i []

/-- R324 on a sleeve: its energy check, its first two steps, and the request of its commit. -/
def beginReset (i : Sleeve) (cmd : Option Nat) (s : State) : State :=
  if !s.energyOk then denyCmd cmd s
  else
    s |> resetSleeveNow i cmd
      |> requestCommit ⟨.wrapEpoch i, .number ((s.sleeve i).wrapEpoch + 1), false, .resetSleeve i, cmd⟩

/-- Everything a record's coming into force does (R110, R205, R217, R218, R219, R322 to R324, R338, R342, R358, step 5 of
R169). -/
def takeForce (c : Commit) (s : State) : State :=
  match c.why with
  | .plain | .retire | .door | .boot => s
  | .instantiate op =>
    match s.findOp op, c.body with
    | some o, .inst _ key v =>
      s |> modInst o.sl o.inst (fun x =>
            if s.lining.zeroPend then x
            else { Inst.reset with health := x.health, owned := true, key := key, v := v, counter := 1, prio := 1 })
        |> raiseS 0x1010 o.sl [BitVec.ofNat 8 o.inst.val]
        |> removeOp op
        |> markerAnswer c []
        |> settleFabric
    | _, _ => s
  | .uninstantiate op =>
    match s.findOp op with
    | some o =>
      s |> modInst o.sl o.inst (fun x => { Inst.reset with health := x.health })
        |> raiseS 0x1011 o.sl [BitVec.ofNat 8 o.inst.val]
        |> removeOp op
        |> markerAnswer c []
        |> settleFabric
    | none => s
  | .resetSleeve i => markerAnswer c [] (finishReset i s)
  | .keyLoad k =>
    match c.body with
    | .slot hash inner outer =>
      let s := loadSlot k hash inner outer true s
      s |> raiseS 0x4001 ⟨k.val / 4, by omega⟩ [BitVec.ofNat 8 k.val]
        |> markerAnswer c (wordBytes (s.slot k).gen ++ checkValue (hash - 1) inner outer)
    | _ => s
  | .keyErase k =>
    let s := loadSlot k 0 [] [] c.owned s
    s |> raiseS 0x4002 ⟨k.val / 4, by omega⟩ [BitVec.ofNat 8 k.val]
      |> markerAnswer c (wordBytes (s.slot k).gen)
  | .cmdKeyUpdate i =>
    match c.body with
    | .cmdKey inner outer =>
      let old := s.cmdKeyOf i
      let gen := (s.pair (.cmdKey i)).newestGen
      let s := modSleeve i (fun x => { x with
        cmdKey := if s.lining.zeroPend then { x.cmdKey with gen := gen } else ⟨true, false, inner, outer, gen⟩ }) s
      let s := raiseS 0x4003 i [] s
      match c.cmd with
      | some id => answerWith old id stOk (wordBytes gen ++ checkValue 0 inner outer) [] 0 s
      | none => s
    | _ => s
  | .route =>
    match c.body with
    | .route rs => markerAnswer c [] (raise 0x0001 (applyRoutes (listVec 10 ⟨0, 0⟩ rs) s))
    | _ => s
  | .quota _ ghem =>
    match c.body with
    | .quotas q pmax res hems => markerAnswer c [] (raise 0x1012 (recut (applyQuotas q pmax res hems ghem s)))
    | _ => s
  | .credit =>
    match c.body with
    | .credit factors pct =>
      s |> modYoke (fun y => { y with factors := listVec 16 0 factors })
        |> modFloor (fun f => { f with pct := pct })
        |> raise 0x5054
        |> judgeFloor
        |> markerAnswer c []
    | _ => s
  | .power =>
    match c.body with
    | .power w => markerAnswer c [] (raise 0xF040 (modSupply (fun p => { p with policy := w }) s))
    | _ => s
  | .patch version fromF1 offset codeLen checks =>
    match c.body with
    | .patch ro rl rv tag =>
      s |> modXip (fun x => { x with
            recOffset := ro, recLen := rl, recVersion := rv, recTag := tag
            version := if x.off then 0 else version, offset := offset, codeLen := codeLen, checks := checks
            buffer := [], f1only := [] })
        |> raise 0xA001
        |> markerAnswer c (natBytes 4 (version + place (bit fromF1) 31))
    | _ => s
  | .readmit u =>
    let s := readmitEvent u (readmitRest u (readmitStates c.why s))
    match u, c.cmd with
    | .sleeve i, some _ => beginReset i c.cmd s
    | _, _ => markerAnswer c [] (settleFabric s)
  | .readmitPockets k =>
    let s := readmitStates c.why s
    markerAnswer c [] (forAll (banksOf k) (fun b t => if (t.health (.bank b)).st = .inService then unmaskBank b t else t) s)
  | .readmitLanes k failed =>
    let us := s.lanesBack (seamSlice k) failed
    markerAnswer c [] (forAll (slicePorts (seamSlice k)) untrain (forAll us readmitEvent (readmitStates c.why s)))
  | .erase0 u =>
    match c.record, eraseCommit u c.cmd with
    | _, some x => requestCommit { x with why := .erase1 u } s
    | _, none => s
  | .erase1 u => requestCommit ⟨unitRecord u, .empty, false, .readmit u, c.cmd⟩ s

/-- The commit in the writer is a record of the module's own that waits at the head of the pending queue. -/
def Lining.headIs (l : Lining) (c : Commit) : Bool :=
  match l.pending with
  | p :: _ => p.record == c.record && p.why == c.why
  | [] => false

/-- The commit leaves the writer; a record of the module's own leaves the pending queue. -/
def leaveWriter (c : Commit) : State → State :=
  modLining (fun l => { l with writer := none, pending := if l.headIs c then l.pending.drop 1 else l.pending })

/-- A command whose commit has been granted cannot time out until it ends (R309). -/
def setGranted (id : Option Nat) (s : State) : State :=
  match id with
  | some k => modCmd k (fun x => { x with granted := true }) s
  | none => s

end Sys2Proof.Machine
end

