-- ==== Sys2Proof/Machine/Journal.lean ====
section
/-! DEFINITION. The journal writer's rows (16.3, R93, R94, R487 to R489, R498, R558). -/

namespace Sys2Proof.Machine

/-- The record is no longer committed (R488). -/
def State.frozenRec (s : State) (r : RecId) : Bool := (s.pair r).frozen

/-- Give the writer a commit whose check has passed: what it writes is fixed now. -/
def grantWriter (c : Commit) (s : State) : State :=
  setGranted c.cmd (modLining (fun l => { l with writer := some { c with body := s.commitBody c, owned := s.commitOwned c } }) s)

/-- A waiting commit leaves the queue for the writer. -/
def takeWaiting (n : Nat) : State → State := modLining (fun l => { l with waiting := l.waiting.eraseIdx n })

/-- The writer may take a commit: none runs, and no zeroization goes first (R93, R498). -/
def State.writerFree (s : State) : Bool := s.lined && s.lining.writer.isNone && !s.lining.zeroPend

/-- A commit reaches the writer's element: a frozen record is answered INTERNAL, a table
that breaks its rule by now BAD_LENGTH; before the boot epoch's marker and when the
energy check fails it is refused, but for the record of RESET_SLEEVE, whose check has been made (R93, R94, R324, R488, R558). -/
def journalGrant (n : Nat) (s : State) : State :=
  match s.lining.waiting[n]? with
  | none => s
  | some c =>
    let resets := match c.why with
      | .resetSleeve _ => true
      | _ => false
    if !s.writerFree then s
    else if s.frozenRec c.record then
      answerOpt c.cmd stInternal [] (dropCommitOp c.why (takeWaiting n s))
    else if !s.commitOk c then answerOpt c.cmd stBadLength [] (takeWaiting n s)
    else if s.lining.bootDone && s.energyOk then grantWriter c (takeWaiting n s)
    else if resets then s
    else denyCmd c.cmd (dropCommitOp c.why (takeWaiting n s))

/-- JOURNAL_COMMIT_GRANT (R93). -/
def execJournalCommitGrant (waiting : Nat) (s : State) : Res := .next (journalGrant waiting s)

/-- JOURNAL_COMMIT_MARKER (R487): the copy is valid and the record is in force. -/
def execJournalCommitMarker (s : State) : Res :=
  .next <|
    match s.lining.writer with
    | some c => takeForce c (leaveWriter c (writeCopies c s))
    | none => s

/-- Count a failed read-back at the inactive location (R488). -/
def failReadback (r : RecId) (s : State) : State :=
  let p := s.pair r
  setPair { p with fails := p.fails + 1, frozen := p.frozen || decide (3 ≤ p.fails + 1) } s

/-- The status of a command whose commit's read-back failed: FENCED for a readmission of an instance or slot (R219, R488). -/
def readbackStatus (w : Why) : Byte :=
  match w with
  | .erase0 _ | .erase1 _ => stFenced
  | _ => stInternal

/-- The commit that goes first of all and needs no grant: the zeroization (R498), else the boot epoch's (R558). -/
def State.firstCommit (s : State) : Option RecId :=
  if s.lining.zeroPend then if s.energyZeroize then some .secretsEpoch else none
  else if !s.lining.bootDone && s.energyOk && ((s.lining.pending.head?.map (·.why)) == some .boot) then some .bootEpoch
  else none

/-- A failed read-back is counted (R488). -/
def noteWriteFail (r : RecId) (s : State) : State :=
  let s := failReadback r s
  raiseD 0x4012 [BitVec.ofNat 8 (bit (s.frozenRec r))]
    (modLining (fun l => { l with wrFail := satAdd 8 l.wrFail 1, evt := l.evt ||| 0x10 }) s)

/-- JOURNAL_READBACK_FAIL (R488): of the writer's commit, else of the zeroization or the boot epoch's commit, which are tried
again until the record is frozen. -/
def execJournalReadbackFail (s : State) : Res :=
  .next <|
    match s.lining.writer with
    | some c =>
      let own := s.lining.headIs c
      let s := noteWriteFail c.record s
      let frozen := s.frozenRec c.record
      let s := modLining (fun l => { l with
        writer := none, pending := if own && frozen then l.pending.drop 1 else l.pending }) s
      answerOpt c.cmd (readbackStatus c.why) [] (dropCommitOp c.why s)
    | none => match s.firstCommit with
      | some r => if s.lined && !s.frozenRec r then noteWriteFail r s else s
      | none => s

/-- PENDING_RETRY (R94): the oldest record of the module's own goes to the writer once the check would pass; a frozen one
leaves the queue (R488). -/
def execPendingRetry (s : State) : Res :=
  .next <|
    match s.lining.pending with
    | c :: _ =>
      if !s.writerFree || !s.lining.bootDone then s
      else if s.frozenRec c.record then modLining (fun l => { l with pending := l.pending.drop 1 }) s
      else if s.energyOk then grantWriter c s
      else s
    | [] => s

/-- BOOT_EPOCH_COMMIT (R295, R558): the first commit of the power-up, at the head of the pending queue. -/
def execBootEpochCommit (s : State) : Res :=
  .next <|
    match s.lining.pending with
    | c :: r =>
      if s.writerFree && !s.lining.bootDone && decide (c.why = .boot) && s.energyOk && !s.frozenRec .bootEpoch then
        s |> writeCopy { c with body := s.recordBody .bootEpoch }
          |> modLining (fun l => { l with pending := r, bootDone := true })
      else s
    | [] => s

/-- What the zeroization marker does (R498): every instance uninstantiated, every slot empty with its header's generation,
every command key the transport key. -/
def zeroized (s : State) : State :=
  s |> modLining (fun l => { l with secrets := l.secrets + 1, zeroPend := false, evt := l.evt ||| 0x02 })
    |> (fun t => writeCopy ⟨.secretsEpoch, .number t.lining.secrets, false, .plain, none⟩ t)
    |> forAll allSleeves (fun i => forAll allFours (fun k => modInst i k (fun x => { Inst.reset with health := x.health })))
    |> forAll (List.finRange 32) (fun k => modSlot k (fun x => { x with hash := 0, inner := [], outer := [] }))
    |> forAll allSleeves (fun i => modSleeve i (fun x => { x with cmdKey := transportCmdKey i x.cmdKey.gen }))
    |> raise 0xF052
    |> settleFabric

/-- ZEROIZATION (R498): after any commit in progress, on E_COMMIT alone, in ride-through too. -/
def execZeroization (s : State) : Res :=
  .next <|
    if s.lined && s.lining.zeroPend && s.lining.writer.isNone && s.energyZeroize &&
        !s.frozenRec .secretsEpoch then zeroized s else s

end Sys2Proof.Machine
end

