-- ==== Sys2Proof/Machine/RestoreOps.lean ====
section
/-! DEFINITION. What the lining's records restore as (R165, R216, R392, R461, R490, R492, R494, Table 16-5), and a door alarm's
response (16.6). -/

namespace Sys2Proof.Machine

/-! ### Rules 1 to 5 of R490 -/

/-- Mark a damaged part of a copy. -/
def Copy.damage (x : CopyPart) (c : Copy) : Copy :=
  match x with
  | .header => { c with headerOk := false }
  | .body => { c with bodyOk := false }
  | .marker => { c with marker := false }

def applyDamage (d : Damage) (s : State) : State :=
  modLining (fun l => { l with mram := l.mram.map (fun p =>
    if p.record = d.record then
      if d.loc = 0 then { p with loc0 := p.loc0.map (Copy.damage d.part) } else { p with loc1 := p.loc1.map (Copy.damage d.part) }
    else p) }) s

/-- An empty body has no tag (Table 16-3). -/
def Body.isEmpty : Body → Bool
  | .empty | .number _ => true
  | .inst owned _ _ => !owned
  | .slot hash _ _ => decide (hash = 0)
  | _ => false

/-- The epochs of a copy's body are the present ones (rule 2); only bodies under sleeve keys and the command-key key depend on
an epoch (Table 16-2). -/
def State.epochsMatch (s : State) (r : RecId) (c : Copy) : Bool :=
  match r with
  | .inst i _ => decide (c.secrets = s.lining.secrets) && decide (c.wrap = (s.sleeve i).wrapEpoch)
  | .slot k => decide (c.secrets = s.lining.secrets) && decide (c.wrap = (s.sleeve ⟨k.val / 4, by omega⟩).wrapEpoch)
  | .cmdKey _ => decide (c.secrets = s.lining.secrets)
  | _ => true

/-- A restored record: its body (none for an empty one), the copy it was taken from, and whether it was lost. -/
structure Restored where
  body : Option Body
  head : Option Copy
  loc  : Option (Fin 2)
  lost : Bool
  deriving DecidableEq, Repr

/-- Rules 2 and 3 on one copy: none when its body tag fails. -/
def State.tryCopy (s : State) (r : RecId) (c : Copy) : Option (Option Body) :=
  if !s.epochsMatch r c then some none
  else if c.body.isEmpty then some none
  else if c.bodyOk then some (some c.body)
  else none

/-- The valid copies of a pair, the newer first; the first location where generations are equal (rule 1). -/
def Pair.ranked (p : Pair) : List (Copy × Fin 2) :=
  match validAt p.loc0, validAt p.loc1 with
  | some a, some b => if newer a.gen b.gen then [(b, 1), (a, 0)] else [(a, 0), (b, 1)]
  | some a, none => [(a, 0)]
  | none, some b => [(b, 1)]
  | none, none => []

/-- Restore one record (R490). -/
def State.restorePair (s : State) (p : Pair) : Restored :=
  match p.ranked with
  | [] => ⟨none, none, none, p.loc0.any (·.marker) || p.loc1.any (·.marker)⟩
  | (a, la) :: rest =>
    match s.tryCopy p.record a with
    | some b => ⟨b, some a, some la, false⟩
    | none =>
      match rest with
      | (c, lc) :: _ => match s.tryCopy p.record c with
        | some b => ⟨b, some c, some lc, false⟩
        | none => ⟨none, some a, none, true⟩
      | [] => ⟨none, some a, none, true⟩

/-- Copies of a pair that restore rejects: not valid, or with a failing body tag where one is used. -/
def State.rejected (s : State) (p : Pair) : Nat :=
  let bad (c : Option Copy) : Nat := match c with
    | some x => bit (!x.valid || (s.tryCopy p.record x).isNone)
    | none => 0
  bad p.loc0 + bad p.loc1

/-! ### Records into the state -/

/-- A restored unit: only retirement and the count of readmissions come back (R165). -/
def restoreUnit (u : UnitRef) (x : UnitState × Nat) : State → State :=
  modHealth u (fun h => { h with st := if h.st = .inService then x.1 else h.st, used := x.2 })

def restoreUnits (us : List UnitRef) (xs : List (UnitState × Nat)) (s : State) : State :=
  forAll (us.zip xs) (fun p => restoreUnit p.1 p.2) s

/-- A word restored as all zeros, or no record, means the defaults of R392 (R587). -/
def restoreRoutes (rs : List Route) (s : State) : State :=
  let v : Vector Route 10 := listVec 10 ⟨0, 0⟩ rs
  let v := if v.toList.all (fun r => decide (r.role = 0)) then defaultRoutes else v
  modPorts (fun p => { p with
    routes := v, sels := p.sels.mapFinIdx (fun j x hj => { x with page := pageReset (v.get ⟨j, hj⟩) }) }) s

/-- An instance's record: reseed-required where it shows the instance owned (R216), else uninstantiated. -/
def loadInst (i : Sleeve) (k : Fin 4) (x : Restored) (s : State) : State :=
  match x.body with
  | some (.inst true key v) =>
    modInst i k (fun y => { Inst.reset with health := y.health, owned := true, key := key, v := v, reseedReq := true, prio := 1 }) s
  | _ => modInst i k (fun y => { Inst.reset with health := y.health }) s

/-- The generation in a restored header, 0 for none. -/
def Restored.gen (x : Restored) : Word := (x.head.map (·.gen)).getD 0

/-- A key slot's record (R461, R494): an empty one keeps its ownership bit while its sleeve's wrap epoch is the present one. -/
def loadSlotRec (k : Fin 32) (x : Restored) (s : State) : State :=
  match x.body with
  | some (.slot h inner outer) =>
    modSlot k (fun y => { y with
      hash := h, inner := inner, outer := outer, owned := (x.head.map (·.owned)).getD false, gen := x.gen }) s
  | _ =>
    let owned := match x.head with
      | some c => c.owned && decide (c.wrap = (s.sleeve ⟨k.val / 4, by omega⟩).wrapEpoch)
      | none => false
    modSlot k (fun y => { y with hash := 0, inner := [], outer := [], owned := owned, gen := x.gen }) s

/-- A command key's record, or the transport key (R492). -/
def loadCmdKey (i : Sleeve) (x : Restored) (s : State) : State :=
  match x.body with
  | some (.cmdKey inner outer) => modSleeve i (fun y => { y with cmdKey := ⟨true, false, inner, outer, x.gen⟩ }) s
  | _ => modSleeve i (fun y => { y with cmdKey := transportCmdKey i x.gen }) s

/-- A policy record (Table 16-1); one with no body leaves the defaults. -/
def loadPolicy (b : Option Body) (s : State) : State :=
  match b with
  | some (.quotas q pmax res hems) => applyQuotas q pmax res hems 0 s
  | some (.credit fs pct) => modFloor (fun f => { f with pct := pct }) (modYoke (fun y => { y with factors := listVec 16 0 fs }) s)
  | some (.power w) => modSupply (fun p => { p with policy := w }) s
  | some (.door a) => modLining (fun l => { l with act := a }) s
  | some (.patch o n v t) => modXip (fun p => { p with recOffset := o, recLen := n, recVersion := v, recTag := t }) s
  | some (.ghem n) => modPool (fun p => { p with ghem := n }) s
  | some (.rows sp f) => modLog (fun l => { l with spares := sp, fenced := f }) s
  | _ => s

/-- A unit record. -/
def loadUnits (us : List UnitRef) (b : Option Body) (s : State) : State :=
  match b with
  | some (.units xs) => restoreUnits us xs s
  | _ => s

/-- A pocket-bank record: the bank and its torn pockets. -/
def loadBank (b : Fin 16) (x : Option Body) (s : State) : State :=
  match x with
  | some (.bank u torn used) =>
    s |> restoreUnit (.bank b) u
      |> modPool (fun p => { p with
          torn := torn.foldl setPBit p.torn
          tornUsed := (p.tornUsed.filter (fun y => y.1 / 256 < b.val)) ++ used ++ (p.tornUsed.filter (fun y => b.val < y.1 / 256)) })
  | _ => s

/-- A record's body into the state, with its header. -/
def loadRecord (r : RecId) (x : Restored) (s : State) : State :=
  match r with
  | .inst i k => loadInst i k x s
  | .slot k => loadSlotRec k x s
  | .cmdKey i => loadCmdKey i x s
  | .logKey => modLog (fun l => { l with keyOk := x.body == some (.key true) }) s
  | .route => restoreRoutes (match x.body with
    | some (.route rs) => rs
    | _ => []) s
  | .quotas | .credit | .power | .door | .patch | .poolHem | .logRows => loadPolicy x.body s
  | .threads => loadUnits (allThreads.map .thread) x.body s
  | .aesCores => loadUnits allAes x.body s
  | .shaCores => loadUnits allSha x.body s
  | .lanes => loadUnits ((List.finRange 20).map .lane) x.body s
  | .ports => loadUnits allPorts x.body s
  | .slots => loadUnits ((List.finRange 32).map .slot) x.body s
  | .instances => loadUnits (allSleeves.flatMap (fun i => allFours.map (.inst i))) x.body s
  | .sleeves => loadUnits (allSleeves.map .sleeve) x.body s
  | .banks b => loadBank b x.body s
  | .secretsEpoch | .wrapEpoch _ | .bootEpoch => s

/-- The epochs held in headers. -/
def loadEpoch (r : RecId) (x : Restored) (s : State) : State :=
  match r, x.head with
  | .secretsEpoch, some c => match c.body with
    | .number n => modLining (fun l => { l with secrets := n }) s
    | _ => s
  | .wrapEpoch i, some c => match c.body with
    | .number n => modSleeve i (fun y => { y with wrapEpoch := n }) s
    | _ => s
  | .bootEpoch, some c => match c.body with
    | .number n => modLining (fun l => { l with boot := n }) s
    | _ => s
  | _, _ => s

/-- Epoch records, restored first. -/
def epochRecords : List RecId := RecId.secretsEpoch :: allSleeves.map RecId.wrapEpoch ++ [RecId.bootEpoch]

/-- Records of secrets. -/
def secretRecords : List RecId :=
  allSleeves.flatMap (fun i => allFours.map (fun k => RecId.inst i k)) ++ (List.finRange 32).map RecId.slot ++
    allSleeves.map RecId.cmdKey ++ [RecId.logKey]

/-- Records of policy. -/
def policyRecords : List RecId := [.route, .quotas, .credit, .power, .door, .patch, .poolHem]

/-- Records of units. -/
def unitRecords : List RecId :=
  [.threads, .aesCores, .shaCores] ++ (List.finRange 16).map RecId.banks ++ [.lanes, .ports, .slots, .instances, .sleeves, .logRows]

/-- Every record of the lining (Table 16-1), epochs first. -/
def allRecords : List RecId := epochRecords ++ secretRecords ++ policyRecords ++ unitRecords

/-- Restore one record: the copies rejected and the loss are counted, a loss is an event, and the location of the record in
force is kept (R487, R490). -/
def restoreRecord (r : RecId) (s : State) : State :=
  let p := s.pair r
  let x := s.restorePair p
  let n := s.rejected p
  let s := when' (s.lining.mram.any (fun q => q.record == r))
    (setPair { p with inForce := x.loc, fails := 0, frozen := false }) s
  let s := loadRecord r x (loadEpoch r x s)
  let s := modLining (fun l => { l with
    badCopy := min 255 (l.badCopy + n), recLost := min 255 (l.recLost + bit x.lost)
    evt := l.evt ||| (if 0 < n then 0x04 else 0) ||| (if x.lost then 0x08 else 0) }) s
  if x.lost then raise 0x4011 s else s

/-! ### Slots, instances and keys reloaded from their records (Table 16-7, R219, R462) -/

def reloadRecord (r : RecId) (s : State) : State := loadRecord r (s.restorePair (s.pair r)) s

/-! ### The DOOR alarm (R495 to R498) -/

/-- The action applied: 0 VOLATILE, 1 RECORD, 2 ERASE; RECORD while MAINT counts (R496). -/
def Lining.action (l : Lining) : Nat := if 0 < l.maint then 1 else min 2 l.act

/-- Fabric operations in progress fail as under R209; an UNINSTANTIATE, and a commit that the writer has, run on. -/
def failInProgress (s : State) : State :=
  let held (o : Op) : Bool := match s.lining.writer with
    | some c => decide (c.why = .instantiate o.id)
    | none => false
  forAll (s.fabric.ops.filter (fun o => decide (o.phase ≠ .queued) && decide (o.kind ≠ .uninstantiate) && !held o))
    (fun o t => modLining (fun l => { l with waiting := l.waiting.filter (fun c => c.why != .instantiate o.id) }) (failOp o.id t)) s

/-- The open block, blocks on the cores, staged blocks and the reservoir are cleared (6.2.3). -/
def clearYoke : State → State :=
  modYoke (fun y => { y with
    openBytes := [], openCredit := 0, openMask := 0, waiting := [], reservoir := []
    cores := y.cores.map (fun c => { c with block := none, staged := [], kat := false }) })

/-- VOLATILE: secrets are cleared from SRAM and reloaded from their records; instances are reseed-required (Table 16-7). -/
def doorVolatile (s : State) : State :=
  s |> failInProgress
    |> clearYoke
    |> forAll allSleeves (fun i => forAll allFours (fun k => reloadRecord (.inst i k)))
    |> forAll (List.finRange 32) (fun k => reloadRecord (.slot k))
    |> forAll allSleeves (fun i => reloadRecord (.cmdKey i))
    |> settleFabric

/-- Commands that wait for the journal writer are withdrawn (Table 16-7). -/
def withdrawWaiting (s : State) : State :=
  forAll s.lining.waiting (fun c t => answerOpt c.cmd stNotCommitted [] (dropCommitOp c.why t))
    (modLining (fun l => { l with waiting := [] }) s)

/-- ERASE: secrets are cleared and the zeroization is pending (R498). -/
def doorErase (s : State) : State :=
  s |> failInProgress
    |> withdrawWaiting
    |> clearYoke
    |> forAll allSleeves (fun i => forAll allFours (fun k => modInst i k (fun x => { Inst.reset with health := x.health })))
    |> forAll (List.finRange 32) (fun k => modSlot k (fun x => { x with hash := 0, inner := [], outer := [] }))
    |> forAll allSleeves (fun i => modSleeve i (fun x => { x with cmdKey := { CmdKey.reset with gen := x.cmdKey.gen } }))
    |> modLining (fun l => { l with zeroPend := true })
    |> settleFabric

/-- A DOOR alarm (R497); one that meets a pending zeroization adds nothing to it (16.6.3). -/
def doorAlarm (s : State) : State :=
  let a := s.lining.action
  let again := s.lining.zeroPend
  let s := modLining (fun l => { l with doorOpen := true, armed := false, evt := l.evt ||| 0x01 }) s
  let s := raiseD 0xF050 [BitVec.ofNat 8 a] (clearService 2 s)
  if again || decide (a = 1) then s else if a = 0 then doorVolatile s else doorErase s

end Sys2Proof.Machine
end

