-- ==== Sys2Proof/Machine/PowerOps.lean ====
section
/-! DEFINITION. Power states: what a reset and a power-off clear, ride-through, HOLD measurements, and the threads' holds that
follow the avalanche rail (3.2, 19.1, 19.3, R49, R126). -/

namespace Sys2Proof.Machine

/-- Regulators up and not reset or halted: events reach the handler. -/
def State.live (s : State) : Bool :=
  match s.power.phase with
  | .regulated | .startup | .serving | .folding | .fold | .waking => true
  | _ => false

/-- The module serves from HOLD through a dip; before READY it turns off instead (R95, 1.3.1). -/
def State.rides (s : State) : Bool :=
  match s.power.phase with
  | .serving | .folding | .fold | .waking => true
  | _ => false

/-! ### Clearing -/

/-- The supply after a clearing: pins and the external capacitor keep their levels; what the module measured is gone. -/
def Supply.cleared (p : Supply) : Supply :=
  { Supply.reset with
    vinMv := p.vinMv, pinMw := p.pinMw, hold10mV := p.hold10mV, vinHigh := p.vinHigh, ovOpen := p.ovOpen
    dieT := p.dieT, speed := p.speed, rail10mV := p.rail10mV }

/-- Every volatile state is cleared; MRAM, its log rows among it, outlives it (R50, R97, R566). -/
def clearVolatile (s : State) : State :=
  { State.reset with
    lining := { Lining.reset with mram := s.lining.mram }
    supply := s.supply.cleared
    log := { Log.reset with ring := s.log.ring }
    bist := { Bist.reset with ir := s.bist.ir }
    power := { Power.reset with ioSelOpen := s.power.ioSelOpen, rstLow := s.power.rstLow, extest := s.power.extest }
    freeUsed := s.freeUsed, pending := s.pending }

/-- RESET# asserted, or the first half of a software reset: the commit in the writer reaches its marker first; the regulators
stay up, and the rail with its conditioning where it holds its window (R50, R564, R566). -/
def enterReset (s : State) : State :=
  let t := clearVolatile (finishWriter s)
  { t with
    supply := { t.supply with switchOn := true, vcore := s.supply.vcore, railOk := s.supply.railOk, railUp := s.supply.railOk }
    power := { t.power with phase := .inReset, conditioned := s.power.conditioned && s.supply.railOk } }

/-- Start a HOLD measurement by the discharge method where HOLD stands at 22.0 V, else when it reaches it (R90). -/
def dischargeMeasure (p : Supply) : Supply :=
  if 2200 ≤ p.hold10mV then { p with measuring := true, measureDue := false, charge := 0 }
  else { p with measuring := false, measureDue := true, charge := 25 }

/-- The release of a reset: Tally restarts from 0, VCORE goes to 0.85 V under a ceiling of 4.0 W, and HOLD is measured by the
discharge method (R112, R566, R589). -/
def leaveReset (cause : Nat) (s : State) : State :=
  { s with
    tally := { Tally.reset with running := true }
    supply := dischargeMeasure { s.supply with vcore := 850, policyOn := true }
    power := { s.power with phase := .regulated, cause := cause, startAt := 0, rstLow := false } }

/-- A software reset (R565). -/
def softReset (s : State) : State := leaveReset 2 (enterReset s)

/-- Off: the regulators are off and only MRAM keeps its contents (R97, 1.3.1). -/
def powerOff (s : State) : State :=
  let t := clearVolatile (finishWriter s)
  { t with bist := Bist.reset, power := { t.power with extest := false } }

/-- The shutdown of Table 3-2: the commit in progress completes, 0xF002 is written, then everything volatile is cleared. -/
def shutDown (s : State) : State :=
  let s := finishWriter s
  powerOff (writeEntry (mkEv s 0xF002 15 []) 0 s)

/-! ### A-thread holds -/

def aThreads : List Thread := allThreads.filter (fun t => !isM t)

/-- Begin a thread's start-up test of this power-up. An A-thread's servo then stands at the middle of its 128 steps (DEDUCED,
assumption log 45). -/
def startPowerUp (t : Thread) (s : State) : State :=
  startFull t (modThread t (fun x => if isM t then x else { x with servo := 64 }) s)

/-- A thread whose hold ends runs its test again from its start: the full test where that one runs or is due, else the
1024-sample test (R99, R126, 5.1.2 item 3). A thread that has not yet begun its start-up test, or that nothing tests, starts
none. -/
def restartTest (t : Thread) (s : State) : State :=
  let x := s.thread t
  if x.test = .full then modThread t ThreadSt.restart s
  else if x.fullDue && s.power.testsBegun && x.health.inSvc then startPowerUp t s
  else if (x.health.inSvc && (decide (x.test ≠ .none) || s.ready || decide (s.power.phase = .waking) && x.passed)) ||
      (decide (x.health.st = .quarantined) && x.health.retest) then startShort t s
  else s

/-- A held thread's open windows are dropped, and a test in progress starts over when the hold ends. -/
def holdWindows (t : Thread) : State → State := modThread t ThreadSt.restart

/-- A capture of a thread that a hold stops ends with code 2 (R140). -/
def endHeldCapture (s : State) : State :=
  if s.capture.active && !isM s.capture.thread then endCapture 2 s else s

/-- A rail excursion holds every A-thread; no trip is counted (R126, R127). -/
def holdRail (s : State) : State :=
  let s := forAll aThreads (fun t u => holdWindows t (modThread t (fun x => { x with railHold := true }) u)) s
  raise 0x5001 (endHeldCapture (modSupply (fun p => { p with railOutAt := s.now }) s))

/-- Ride-through switches the rail off (R99). -/
def holdRide (s : State) : State :=
  let s := forAll aThreads (fun t u => holdWindows t (modThread t (fun x => { x with rideHold := true }) u)) s
  endHeldCapture s

def releaseRide (s : State) : State :=
  forAll aThreads (fun t u => restartTest t (modThread t (fun x => { x with rideHold := false }) u)) s

/-! ### Ride-through (R95) -/

/-- The energy that ride-through may draw, E_avail − E_SHUT − E_left, in 0.01 mJ. The spec does not say how much a commit in
progress still owes: the model takes the whole 2.5 mJ of Table 16-4 (DESIGN CHOICE, assumption log 66). -/
def State.rideEnergy (s : State) : Nat := s.eavail - (150 + (if s.lining.writer.isSome then 250 else 0))

/-- t_RIDE in microseconds for an energy in 0.01 mJ and an input power in mW; 2 ms where no power is drawn (DESIGN CHOICE,
assumption log 66). -/
def rideTime (energy pinMw : Nat) : Nat := if pinMw = 0 then 2000 else min 2000 (energy * 10000 / pinMw)

/-- The dip begins: ride-through where the module serves, else off. -/
def loseVin (ov : Bool) (s : State) : State :=
  if s.rides then
    holdRide (modSupply (fun p => { p with
      ride := true, rideFrom := s.now, rideE := s.rideEnergy, rideUs := rideTime s.rideEnergy p.pinMw, rideOv := ov
      charge := 0 }) s)
  else powerOff s

/-! ### Start-up tests (R147, R555, R560) -/

/-- Power-up self-test has no run left but those that wait for the rail. -/
def State.powerRunsDone (s : State) : Bool :=
  s.bist.powerUp.isEmpty && s.bist.again.isEmpty && !(s.bist.active.any (fun r => decide (r.kind = .powerUp)))

/-- The thread is due its full start-up test, and nothing holds it. -/
def State.dueFull (s : State) (t : Thread) : Bool :=
  let x := s.thread t
  x.health.inSvc && x.fullDue && !x.railHold && !x.rideHold

/-- Begin the full start-up tests: step 8 of Table 19-1 for every thread, or the A-threads' own after a late rail (R560). -/
def startTests (s : State) : State :=
  if !s.powerRunsDone then s
  else if s.power.phase = .startup && (s.power.conditioned || s.power.railSkipped) then
    modPower (fun p => { p with testsBegun := true, railSkipped := p.railSkipped && !p.conditioned })
      (forAll (allThreads.filter s.dueFull) startPowerUp s)
  else if s.live && s.power.railSkipped && s.power.conditioned then
    modPower (fun p => { p with railSkipped := false }) (forAll (aThreads.filter s.dueFull) startPowerUp s)
  else s

end Sys2Proof.Machine
end

