-- ==== Sys2Proof/Machine/Supply.lean ====
section
/-! DEFINITION. The supply, HOLD, the Belt loop, the die temperature and Tally's sources (chapter 3, 20.3). -/

namespace Sys2Proof.Machine

def setVin (mv : Nat) : State → State := modSupply (fun p => { p with vinMv := mv })

/-- VIN_START_QUALIFIED (R84, step 2 of Table 19-1): above 4.3 V for 1 ms, and below 24.0 V where the over-voltage switch is
open; a high DNC pad leads to the factory test (22.2.1). -/
def execVinStartQualified (vinMv : Nat) (dnc : Bool) (s : State) : Res :=
  .next <|
    if s.power.phase = .off ∧ 4300 < vinMv ∧ vinMv < 24500 ∧ (s.supply.ovOpen = false ∨ vinMv < 24000) then
      s |> modSupply (fun p => { p with vinMv := vinMv, switchOn := true, ovOpen := false })
        |> modPower (fun p => { p with phase := if dnc then .factoryTest else .starting, cause := 0 })
    else s

/-- REGULATORS_UP (step 3 of Table 19-1, R90, R112, R362, R589). -/
def execRegulatorsUp (ioSelOpen : Bool) (hold10mV : Nat) (s : State) : Res :=
  .next <|
    if s.power.phase = .starting then
      let p := { s.supply with hold10mV := hold10mV, vcore := 850, policyOn := true, charge := 25 }
      { s with
        tally := { Tally.reset with running := true }
        supply := if hold10mV < 200 then { p with measuring := true } else dischargeMeasure p
        power := { s.power with ioSelOpen := ioSelOpen, startAt := 0, phase := if s.power.rstLow then .inReset else .regulated } }
    else s

/-- VIN_HIGH once for each excursion (R86). -/
def noteVinHigh (s : State) : State :=
  if s.supply.vinHigh then s else raise 0xF003 (modSupply (fun p => { p with vinHigh := true, evt := p.evt ||| 0x002 }) s)

/-- VIN_HIGH: above 18.5 V (R86). -/
def execVinHigh (vinMv : Nat) (s : State) : Res :=
  .next <| if s.live && decide (18500 < vinMv) then noteVinHigh (setVin vinMv s) else s

/-- VIN_HIGH_END: VIN falls through 18.0 V (R86). -/
def execVinHighEnd (s : State) : Res := .next (modSupply (fun p => { p with vinHigh := false }) s)

/-- BROWNOUT: below 4.1 V for 2 us (R95, 1.3.1). -/
def execBrownout (vinMv : Nat) (s : State) : Res :=
  .next <|
    if vinMv < 4100 ∧ s.power.phase ≠ .off ∧ s.supply.ride = false then loseVin false (setVin vinMv s) else s

/-- OVERVOLTAGE_DISCONNECT: above 24.5 V for 1 us, after the VIN_HIGH of the same excursion (R87). While the module is off it
keeps the start from qualifying until VIN falls through 24.0 V (Table 3-1). -/
def execOvervoltageDisconnect (vinMv : Nat) (s : State) : Res :=
  .next <|
    if 24500 < vinMv ∧ s.power.phase = .off then
      modSupply (fun p => { p with ovOpen := true }) (setVin vinMv s)
    else if 24500 < vinMv ∧ s.supply.ride = false ∧ s.supply.ovOpen = false then
      let s := setVin vinMv s
      let s := if s.live then
          raise 0xF004 (modSupply (fun p => { p with evt := p.evt ||| 0x004 }) (noteVinHigh s))
        else s
      loseVin true (modSupply (fun p => { p with ovOpen := true }) s)
    else s

/-- VIN is back in range for the dip that runs (R96). -/
def Supply.recovered (p : Supply) (vinMv : Nat) : Bool :=
  if p.rideOv then decide (vinMv < 24000) && decide (4100 ≤ vinMv) else decide (4300 < vinMv)

/-- VIN_DIP (R96, R99): the dip is absorbed; a HOLD measurement it met is repeated 10 minutes later (3.2.5). -/
def execVinDip (vinMv : Nat) (s : State) : Res :=
  .next <|
    if s.supply.ride && s.supply.recovered vinMv && decide (s.now - s.supply.rideFrom ≤ s.supply.rideUs) then
      s |> modSupply (fun p => { p with
            vinMv := vinMv, ride := false, ovOpen := false, charge := 25, dips := satAdd 16 p.dips 1, evt := p.evt ||| 0x001
            measuring := false, nextMeasure := if p.measuring then s.now + 600000000 else p.nextMeasure })
        |> raise 0xF001
        |> releaseRide
    else s

/-- RIDE_EXPIRY (R97, R98, Table 3-2). -/
def execRideExpiry (vinMv : Nat) (s : State) : Res :=
  .next <|
    if s.supply.ride && decide (s.supply.rideUs ≤ s.now - s.supply.rideFrom) then shutDown (setVin vinMv s) else s

/-! ### HOLD (3.2.1) -/

/-- HOLD_CHARGED (R89, R90): trickle at 22.0 V, and a measurement that waits for it starts. -/
def execHoldCharged (s : State) : Res :=
  .next <|
    if s.live && !s.supply.ride && decide (5 ≤ s.supply.charge) then
      modSupply (fun p =>
        if p.measureDue then { p with hold10mV := 2200, measuring := true, measureDue := false, charge := 0 }
        else { p with hold10mV := 2200, charge := 2 }) s
    else s

/-- HOLD_MEASURE_DUE (R90): every 24 h while serving; it starts when HOLD stands at 22.0 V. -/
def execHoldMeasureDue (s : State) : Res :=
  .next <|
    if s.ready && !s.supply.ride && !s.supply.measuring && decide (s.supply.nextMeasure ≤ s.now) then
      modSupply (fun p =>
        let p := { p with nextMeasure := s.now + 86400000000 }
        if p.charge = 2 then { p with measuring := true, charge := 0 } else { p with measureDue := true }) s
    else s

/-- One condition that a measurement finds: its PWR_EVT bit, its event and the POWER alert (R91). -/
def noteHold (bits : BitVec 11) (code : BitVec 16) (s : State) : State :=
  raiseA code [] (alert 0 0x01) (modSupply (fun p => { p with evt := p.evt ||| bits }) s)

/-- HOLD_MEASURE_DONE (R90, R91). `short`: HOLD is still below 2.0 V after 100 ms, so nothing was measured; this ends a
measurement that still waits for HOLD as well. -/
def execHoldMeasureDone (capUf : Nat) (short : Bool) (s : State) : Res :=
  .next <|
    if s.live && (s.supply.measuring || short && s.supply.measureDue) && !s.supply.ride then
      let cap := min 4095 capUf
      let fault := short || decide (cap < 20) || decide (1500 < cap)
      let low := !short && decide (cap < 150)
      s |> modSupply (fun p => { p with
            measuring := false, measureDue := p.measureDue && !short, cap := if short then p.cap else cap
            holdFault := fault, holdLow := low, charge := if p.charge = 0 then 25 else p.charge })
        |> when' fault (noteHold 0x010 0xF011)
        |> when' low (noteHold 0x008 0xF010)
    else s

/-! ### The Belt loop (R89, R103 to R112) -/

/-- The policy in force: a ceiling of 4.0 W alone until the lining is restored (R112). -/
def Supply.policyWord (p : Supply) : Word := if p.policyOn then 40 else p.policy

/-- The effective ceiling in mW: 8.0 W where none is set, and VIN × 1.9 A with VIN between 4.1 V and 4.5 V (R85, R105). -/
def Supply.ceiling (p : Supply) (vinMv : Nat) : Nat :=
  let c := field p.policyWord 0 7
  let mw := if c = 0 then 8000 else 100 * c
  if 4100 ≤ vinMv ∧ vinMv < 4500 then min mw (vinMv * 19 / 10) else mw

/-- The pinned bounds in mV, none where not pinned; VMAX is both where they cross (R111). -/
def Supply.pins (p : Supply) : Option Nat × Option Nat :=
  let lo := field p.policyWord 16 6
  let hi := field p.policyWord 22 6
  let vmin := 600 + 10 * lo
  let vmax := 950 - 10 * hi
  (if lo = 0 then none else some (if hi ≠ 0 ∧ vmax < vmin then vmax else vmin), if hi = 0 then none else some vmax)

/-- The charger's current (R89): 25 mA where it fits under the ceiling, else 5 mA. -/
def chargeLevel (p : Supply) (b : BeltIn) : Nat :=
  if p.charge = 25 ∨ p.charge = 5 then
    let draw := if p.charge = 25 then b.chg25Mw else b.chg5Mw
    if b.pinMw - draw + b.chg25Mw ≤ p.ceiling b.vinMv then 25 else 5
  else p.charge

/-- The move that one period calls for (R103), with the floor's step told apart. -/
inductive BeltMove where
  | hold | up | upFloor | down
  deriving DecidableEq, Repr

/-- AES cores in service. -/
def State.coresUp (s : State) : Nat := (allFours.filter (fun k => (s.fabric.cores.get k).health.inSvc)).length

/-- The AES capacity at a speed index (times 100) with `n` cores in service meets a floor in units of 0.1 Gb/s (R102). -/
def meets (floor speed n : Nat) : Bool := decide (floor = 0) || decide (floor * 100 ≤ speed * 64 * n)

/-- A tag waits for an AES core in service, or a prediction-resistant or seed request waits on a reservoir below half full
(R103 rule 4). -/
def State.demandNow (s : State) : Bool :=
  decide (0 < s.coresUp) && s.fabric.ops.any (fun o =>
    decide (o.phase = .output) || decide (o.phase = .updSeed) || decide (o.phase = .updAddl) || decide (o.phase = .updFinal)) ||
  decide (s.yoke.reservoir.length < 2048) &&
    s.fabric.ops.any (fun o => decide (o.phase = .draw) && (o.pr || decide (o.kind = .getSeed)))

/-- Rules 1 to 6 of R103, with what R108 and R112 take away from them, for `n` AES cores in service. -/
def Supply.move (p : Supply) (b : BeltIn) (ready demand : Bool) (n : Nat) : BeltMove :=
  let ceil := p.ceiling b.vinMv
  let fl := field p.policyWord 8 8
  let (vmin, vmax) := p.pins
  let upOk : Bool := decide (p.vcore + 10 ≤ 950) && decide (b.upMw ≤ ceil)
  let downOk : Bool := meets fl b.downSpeed n
  let below : Bool := match vmin with
    | some v => decide (p.vcore < v)
    | none => false
  let above : Bool := match vmax with
    | some v => decide (v < p.vcore)
    | none => false
  let upIn : Bool := match vmax with
    | some v => decide (p.vcore + 10 ≤ v)
    | none => true
  let downIn : Bool := match vmin with
    | some v => decide (v + 10 ≤ p.vcore)
    | none => true
  if p.limitTh || decide (ceil < b.pinMw) then .down
  else if !ready then if p.vcore < 850 ∧ upOk = true then .up else if 850 < p.vcore then .down else .hold
  else if !meets fl b.speed n && upOk then .upFloor
  else if below && upOk then .up
  else if above && downOk then .down
  else if demand && !p.throttled && upIn && upOk then .up
  else if b.idle && downIn && downOk then .down
  else .hold

/-- VCORE after a move, within 0.60 to 0.95 V. -/
def BeltMove.vcore (m : BeltMove) (v : Nat) : Nat :=
  match m with
  | .up | .upFloor => max 600 (min 950 (v + 10))
  | .down => max 600 (v - 10)
  | .hold => v

/-- Admission gating (R104). A move down called for at 0.60 V lowers the admitted share first and then pauses conditioning
while the reservoir is above half full; a period that calls for no move down removes gating in reverse order. -/
def gateAdmission (m : BeltMove) (s : State) : State :=
  if m = .down then
    if 600 < s.supply.vcore then s
    else if 0 < s.supply.share then modSupply (fun p => { p with share := p.share - 1 }) s
    else modYoke (fun y => { y with paused := decide (2048 < y.reservoir.length) }) s
  else if s.yoke.paused then modYoke (fun y => { y with paused := false }) s
  else modSupply (fun p => { p with share := min 16 (p.share + 1) }) s

/-- Flags and events of Table 3-4 after a move; before READY, while VCORE is held at 0.85 V, no floor or pin is judged. A pinned
bound is overridden from the period in which VCORE lies outside it and does not move towards it, until VCORE is back within
it, so that one excursion writes one event (R107, 3.6 step 10). -/
def beltFlags (m : BeltMove) (b : BeltIn) (s : State) : State :=
  let p := s.supply
  let ceil := p.ceiling b.vinMv
  let fl := field p.policyWord 8 8
  let met := meets fl b.speed s.coresUp
  let unmet := s.ready && !met && (p.floorUnmet || m != .upFloor)
  let (vmin, vmax) := p.pins
  let low := match vmin with
    | some v => decide (p.vcore < v) && (p.pinOvr || m != .up && m != .upFloor)
    | none => false
  let high := match vmax with
    | some v => decide (v < p.vcore) && (p.pinOvr || m != .down)
    | none => false
  let ovr := s.ready && (low || high)
  s |> modSupply (fun q => { q with
        limitCeil := decide (ceil < b.pinMw) ||
          (decide (ceil < b.upMw) && ((!met && m != .upFloor) || low || b.demand && s.demandNow))
        floorUnmet := unmet, pinOvr := ovr
        evt := q.evt ||| (if unmet && !p.floorUnmet then 0x040 else 0) ||| (if ovr && !p.pinOvr then 0x080 else 0) })
    |> when' (unmet && !p.floorUnmet) (raiseA 0xF020 [] (alert 0 0x01))
    |> when' (p.floorUnmet && !unmet) (raise 0xF021)
    |> when' (ovr && !p.pinOvr) (raise 0xF022)

/-- The loop moves VCORE: not in fold, where it is held at 0.60 V until READY (R568, Table 19-5). -/
def State.beltMoves (s : State) : Bool :=
  match s.power.phase with
  | .regulated | .startup | .serving | .folding => true
  | _ => false

/-- BELT_PERIOD (R103): readings, t_RIDE under the present input power (3.3.6 item 4), the charger, and at most one move. -/
def execBeltPeriod (b : BeltIn) (s : State) : Res :=
  .next <|
    if !s.live then s
    else
      let s := modSupply (fun p => { p with
        vinMv := b.vinMv, hold10mV := b.hold10mV, pinMw := b.pinMw, speed := b.speed, charge := chargeLevel p b
        rideUs := if p.ride then rideTime p.rideE b.pinMw else p.rideUs }) s
      if !s.beltMoves then s
      else
        let m := s.supply.move b s.ready (b.demand && s.demandNow) s.coresUp
        beltFlags m b (modSupply (fun p => { p with vcore := m.vcore p.vcore }) (gateAdmission m s))

/-! ### Die temperature (R108, R109, R124, R125) -/

/-- The A-threads' pace: 200 Mb/s above 125 degrees C until below 120 (Table 4-2). -/
def samplePace (dieT : Nat) (s : State) : State :=
  let slow := if 189 < dieT then true else if dieT < 184 then false else s.supply.paceLow
  if slow = s.supply.paceLow then s
  else
    s |> modSupply (fun p => { p with paceLow := slow })
      |> when' (s.capture.active && !isM s.capture.thread) (modCapture (fun c => { c with pace := min 255 (c.pace + 1) }))
      |> raise 0x5005

/-- The trip's fold begins (R109, R569): no opcode outside the Fold column is admitted, and in-flight commands have 10 ms. -/
def beginTripFold (s : State) : State :=
  foldReplyNow (modPower (fun p => { p with
    phase := .folding, foldTherm := true
    foldAt := if p.foldReply then p.foldAt else s.now
    foldCmd := if p.phase = .folding then p.foldCmd else none
    foldReply := decide (p.phase = .folding) && p.foldReply
    wakeS := if p.phase = .folding then p.wakeS else 0 }) s)

/-- DIE_TEMP_SAMPLE (R108): degrees C plus 64. -/
def execDieTempSample (dieT : Nat) (s : State) : Res :=
  .next <|
    if !s.live then s
    else
      let p := s.supply
      let hot := decide (184 ≤ dieT) && !p.throttled
      let limit := decide (189 ≤ dieT)
      let trip := decide (199 ≤ dieT) && !p.tripped
      s |> modSupply (fun q => { q with
            dieT := dieT % 256, throttled := decide (184 ≤ dieT) || (q.throttled && decide (179 ≤ dieT)), limitTh := limit
            tripped := decide (199 ≤ dieT) ||
              (q.tripped && (decide (164 ≤ dieT) || s.power.foldTherm || decide (s.power.phase = .fold)))
            evt := q.evt ||| (if hot then 0x100 else 0) ||| (if limit && !p.limitTh then 0x200 else 0) })
        |> when' hot (raise 0xF030)
        |> when' (limit && !p.limitTh) (raise 0xF031)
        |> samplePace dieT
        |> when' trip (raise 0xF032)
        |> when' (decide (199 ≤ dieT) && s.ready && !s.power.foldTherm) beginTripFold

/-! ### Tally's sources (R589 to R593) -/

/-- The edges that a window of 1 ms counts lie within 3 % of 10 MHz, or of 25 MHz (R591). -/
def inBand (f25 : Bool) (edges : Nat) : Bool :=
  if f25 then decide (24250 ≤ edges) && decide (edges ≤ 25750) else decide (9700 ≤ edges) && decide (edges ≤ 10300)

/-- The frequency at which two consecutive windows accept REFCLK: true 25 MHz. -/
def acceptRef (w1 w2 : Nat) : Option Bool :=
  if inBand false w1 && inBand false w2 then some false
  else if inBand true w1 && inBand true w2 then some true
  else none

/-- REFCLK_FOUND (R591): two whole windows of 1 ms since acquisition began. -/
def execRefclkFound (windows : Nat × Nat) (s : State) : Res :=
  .next <|
    match acceptRef windows.1 windows.2 with
    | some f25 =>
      if s.tally.running && !s.tally.noref && !s.tally.ref && decide (s.tally.acqAt + 2000 ≤ s.now) then
        raise 0xF080 (modTally (fun t => { t with
          ref := true, f25 := f25, present := true, evt := t.evt ||| 2, oscAt := s.now }) s)
      else s
    | none => s

/-- REFCLK_LOST (R592): the detector has found no edge for 1 us, or a window outside the band in which REFCLK was accepted;
acquisition restarts. -/
def execRefclkLost (s : State) : Res :=
  .next <|
    if s.tally.running && s.tally.ref then
      raise 0xF081 (modTally (fun t => { t with ref := false, evt := t.evt ||| 1, acqAt := s.now }) s)
    else s

/-- OSC_MEASURE (R593): once in each second on REFCLK. -/
def execOscMeasure (err : BitVec 16) (s : State) : Res :=
  .next <|
    if s.tally.running && s.tally.ref && decide (s.tally.oscAt + 1000000 ≤ s.now) then
      modTally (fun t => { t with oscErr := err, oscAt := s.now }) s
    else s

end Sys2Proof.Machine
end

