-- ==== Sys2Proof/Machine/BistSteps.lean ====
section
/-! DEFINITION. The rows of a BIST run: its start, drain, end and abandonment (chapter 17). -/

namespace Sys2Proof.Machine

/-! ### Starting (R511 to R514, R519) -/

/-- The run of a slice at power-up (R511). -/
def powerRun (k : Fin 32) (now : Nat) : Run := ⟨k, .powerUp, 15, 4, 2, none, now, false⟩

/-- The next power-up run: the list in order, T12 to T15 once their junctions are conditioned, and the slices that failed once
more at the end (R519, R521, R559). -/
def State.nextPowerRun (s : State) : Option (Fin 32) :=
  match s.bist.powerUp with
  | k :: _ => if decide (k.val < 12) || decide (16 ≤ k.val) || s.power.conditioned then some k else none
  | [] => if s.bist.active.any (fun r => decide (r.kind = .powerUp)) then none else s.bist.again.head?

/-- A re-test, readmission or open run may start (R513). -/
def State.mayStart (s : State) : Bool :=
  s.ready && decide (s.supply.dieT < 184) && decide (s.supply.pinMw + 350 ≤ s.supply.ceiling s.supply.vinMv)

/-- The next waiting run: re-tests, readmissions, then open requests, each in order; a slice under test waits. -/
def State.nextRun (s : State) : Option Run :=
  (s.bist.retests ++ s.bist.readmits ++ s.bist.queue).find? (fun r => !s.bist.active.any (fun a => a.slice == r.slice))

/-- Take a run off the lists of waiting runs. -/
def takeRun (r : Run) : State → State :=
  modBist (fun b =>
    if b.retests.contains r then { b with retests := b.retests.erase r }
    else if b.readmits.contains r then { b with readmits := b.readmits.erase r }
    else { b with queue := b.queue.erase r })

/-- A power-up run of a SEAM slice keeps its ports from every frame (R520). -/
def seamOn (v : Bool) (k : Fin 32) (s : State) : State :=
  forAll (slicePorts k) (fun p => modPort p (fun x => { x with on := v, trained := false })) s

/-- BIST_SLICE_START (R502, R513, R519): the next run takes a free place under test. -/
def execBistSliceStart (s : State) : Res :=
  .next <|
    if !s.running || decide (2 ≤ s.bist.active.length) then s
    else match s.nextPowerRun with
      | some k =>
        s |> modBist (fun b => { b with
              powerUp := b.powerUp.filter (· != k), again := if b.powerUp.isEmpty then b.again.erase k else b.again })
          |> seamOn false k
          |> startRun (powerRun k s.now)
      | none =>
        match s.nextRun with
        | some r => if s.mayStart then judgeFloor (startRun r (takeRun r s)) else s
        | none => s

/-! ### Drain and end (R503 to R506, R516) -/

/-- Step 4 of Table 17-2: every state element of the slice is cleared; a service core's engines forget what they did. -/
def clearSlice (k : Fin 32) (s : State) : State :=
  if 24 ≤ k.val ∧ k.val < 26 then
    modDigest (fun d => { d with engines := d.engines.mapFinIdx (fun j e _ =>
      if j / 8 = k.val - 24 then { e with since := 0, suspects := [], seals := [] } else e) }) s
  else s

/-- BIST_DRAIN_DONE (R503, R504). -/
def execBistDrainDone (k : Fin 32) (s : State) : Res :=
  .next <|
    match s.bist.active.find? (fun r => r.slice == k && !r.drained) with
    | some r =>
      if s.drained r then
        clearSlice k (modBist (fun b => { b with
          active := b.active.map (fun x => if x.slice = k then { x with drained := true } else x) }) s)
      else s
    | none => s

/-- What follows the end of any run: the fabric, the floor and the start-up tests go on. -/
def afterRun (r : Run) (s : State) : State :=
  s |> when' (decide (r.kind = .powerUp)) (seamOn true r.slice)
    |> settleFabric
    |> judgeFloor
    |> startTests

/-- The outcome of a run's checks, and whether its logic part failed (R505, R508 to R510). -/
def runOutcome (p : BistParts) (expected : Word) : Nat × Bool :=
  if !p.zeroOk then (3, true)
  else if p.overrun then (5, false)
  else if p.misr ≠ expected then (3, true)
  else if !p.secondOk then (4, false)
  else (2, false)

/-- A zero check that finds a bit set (R505). -/
def clearFail (r : Run) (s : State) : State :=
  raiseD 0x6005 (r.data 3 0) (modBist (fun b => { b with evt := b.evt ||| 0x8 }) s)

/-- BIST_RUN_END (R516). -/
def execBistRunEnd (k : Fin 32) (parts : BistParts) (s : State) : Res :=
  .next <|
    match s.bist.active.find? (fun r => r.slice == k && r.drained) with
    | some r =>
      let o := runOutcome parts (Config.misrExpected (sliceType k) r.logic)
      let s := when' (!parts.zeroOk) (clearFail r) s
      afterRun r (endRun r o.1 (if parts.zeroOk then parts.misr else 0) o.2 parts.failing s)
    | none => s

/-! ### Abandonment (R514, R515) -/

/-- Requests that have waited 1 s. -/
def State.staleRuns (s : State) : List Run := (s.bist.readmits ++ s.bist.queue).filter (fun r => decide (r.since + 1000000 ≤ s.now))

/-- BIST_QUEUE_TIMEOUT (R514). -/
def execBistQueueTimeout (s : State) : Res :=
  .next <|
    let fresh (r : Run) : Bool := decide (s.now < r.since + 1000000)
    forAll s.staleRuns abandonWaiting (modBist (fun b => { b with readmits := b.readmits.filter fresh, queue := b.queue.filter fresh }) s)

/-- BIST_OVERTEMP_ABANDON (R515): the die at 125 degrees C, or a logic part that overruns its budget. -/
def execBistOvertempAbandon (k : Fin 32) (s : State) : Res :=
  .next <|
    match s.bist.active.find? (fun r => r.slice == k) with
    | some r => if 189 ≤ s.supply.dieT ∨ r.drained = true then afterRun r (endRun r 5 0 false [] s) else s
    | none => s

end Sys2Proof.Machine
end

