-- ==== Sys2Proof/Machine/Containment.lean ====
section
/-! DEFINITION. The handler's rows, the log writer's, and a sleeve's own faults (chapter 18). -/

namespace Sys2Proof.Machine

/-! ### The handler and the log -/

/-- FAULT_EVENT (R533, R534): an event of the module reaches the handler; regulators are up. -/
def execFaultEvent (code : BitVec 16) (source : Fin 16) (data : List Byte) (s : State) : Res :=
  .next <| if s.live then (offer (mkEv s code source.val data) s).1 else s

/-- The unit's re-test is a second run of its slice that waits or runs (R518, R521). -/
def State.runRetest (s : State) (u : UnitRef) : Bool :=
  (s.bist.retests ++ s.bist.active.filter (fun r => decide (r.kind = .retest))).any (fun r => (sliceUnits r.slice).contains u) ||
    s.bist.again.any (fun k => (sliceUnits k).contains u)

/-- The sweep on one unit: quarantined with no re-test, no custodian hold and no event left to be handled (R535). -/
def sweepUnit (u : UnitRef) (s : State) : State :=
  let h := s.health u
  if h.st = .quarantined ∧ h.retest = false ∧ s.custHeld u = false ∧ s.unitWaits u = false ∧ s.runRetest u = false then
    handleUnit u s.now (modHealth u (fun x => { x with unhandled := true }) s)
  else s

/-- LOG_MARK commands whose events were lost are answered BUSY (R353). -/
def answerLost (s : State) : State :=
  forAll s.log.lostCmds (fun id => answer id stBusy []) (modLog (fun l => { l with lostCmds := [] }) s)

/-- ERRORS_LOST_SWEEP (R535). -/
def execErrorsLostSweep (s : State) : Res :=
  .next <|
    if s.log.queue.isEmpty && decide (0 < s.log.lostNow) then
      let n := s.log.lostNow
      s |> modLog (fun l => { l with lostNow := 0 })
        |> answerLost
        |> raiseD 0x8005 (natBytes 4 n)
        |> forAll allUnits sweepUnit
    else s

/-- LOG_WRITE (R546, R547). -/
def execLogWrite (rowFails : Nat) (s : State) : Res := .next (settleFabric (logWrite rowFails s))

/-! ### Sleeves as units (18.4) -/

/-- The operation's commit is in the journal writer. -/
def State.inWriter (s : State) (o : Op) : Bool :=
  match s.lining.writer with
  | some c => decide (c.why = .instantiate o.id) || decide (c.why = .uninstantiate o.id)
  | none => false

/-- A sleeve's operations are withdrawn unanswered (7.1.2); one whose commit is in the writer runs to its marker. -/
def withdrawFenced (i : Sleeve) (s : State) : State :=
  forAll (s.fabric.ops.filter (fun o => o.sl == i && !o.isStream && !s.inWriter o)) (fun o => withdrawOp o.id Op.begun) s

/-- What a fence does to a sleeve (R538, Table 21-6): operations withdrawn, streams stopped, queues and cache cleared;
instances, banks, contexts and slots kept. -/
def fenceSleeve (i : Sleeve) (s : State) : State :=
  s |> withdrawCommits i none
    |> withdrawFenced i
    |> forAll allFours (stopStream i)
    |> dropWaits i none
    |> clearQueues i none
    |> settleFabric

/-- SLEEVE_FAULT (R537, R538). A fault of a retired sleeve changes nothing. -/
def execSleeveFault (i : Sleeve) (s : State) : Res :=
  .next <|
    if s.lined && decide ((s.sleeve i).health.st ≠ .retired) then
      faultUnit (.sleeve i) 0x0020 i.val [] (when' (decide ((s.sleeve i).health.st = .inService)) (fenceSleeve i) s)
    else s

/-- The custodian's RESET_SLEEVE that waits for the re-test of a retired peer (R540). -/
def State.resetCmdOf (s : State) (i : Sleeve) : Option Nat :=
  (s.cmds.find? (fun c => c.op == 0x05 && nth8 (field c.arg 0 3) == i)).map (·.id)

/-- A quarantined sleeve passes: event 0x0021, a new epoch, SEQ_HI 0, run numbers from 1, and its owned instances
reseed-required (R539, R414). -/
def returnSleeve (i : Sleeve) (s : State) : State :=
  s |> passRetest (.sleeve i)
    |> raiseS 0x0021 i []
    |> modSleeve i (fun x => { x with epoch := x.epoch + 1, seqHi := 0, consumed := [], runs := 0 })
    |> forAll allFours (fun k => modInst i k (fun x => { x with reseedReq := x.reseedReq || x.owned }))

/-- A retired sleeve passes: its readmission is committed, the custodian's own as a record of the module's (R169, R540). -/
def readmitSleeve (i : Sleeve) (s : State) : State :=
  let s := modSleeve i (fun x => { x with health := { x.health with retest := false } }) s
  let c : Commit := ⟨.sleeves, .empty, false, .readmit (.sleeve i), s.resetCmdOf i⟩
  if i = 0 then pend { c with cmd := none } s else requestCommit c s

/-- A retired sleeve fails: it stays retired, and the command is answered FENCED (R169 step 3). -/
def refuseSleeve (i : Sleeve) (s : State) : State :=
  let cmd := s.resetCmdOf i
  answerOpt (if i = 0 then none else cmd) stFenced [] (modSleeve i (fun x => { x with health := { x.health with retest := false } }) s)

/-- SLEEVE_RETEST_END (R539, R540). -/
def execSleeveRetestEnd (i : Sleeve) (pass : Bool) (s : State) : Res :=
  .next <|
    let h := (s.sleeve i).health
    if !h.retest then s
    else match h.st, pass with
      | .quarantined, true => if s.recovers (.sleeve i) then returnSleeve i s else failRetest (.sleeve i) s
      | .quarantined, false => failRetest (.sleeve i) s
      | .retired, true => readmitSleeve i s
      | .retired, false => refuseSleeve i s
      | .inService, _ => s

end Sys2Proof.Machine
end

