-- ==== Sys2Proof/Machine/DigestCmds.lean ====
section
/-! DEFINITION. The digest opcodes (11.5): each runs on its context behind the commands taken before it (R466). -/

namespace Sys2Proof.Machine

/-- DIGEST_BEGIN (R333). -/
def execDigestBegin (t : Take) (s : State) : Res := .next (takeOp t 0x30 (digestTake t.cmp t.core) s)

/-- DIGEST_UPDATE (R467). -/
def execDigestUpdate (t : Take) (s : State) : Res := .next (takeOp t 0x31 (digestTake t.cmp t.core) s)

/-- DIGEST_FINAL (R334, R468). -/
def execDigestFinal (t : Take) (s : State) : Res := .next (takeOp t 0x32 (digestTake t.cmp t.core) s)

/-- DIGEST_SAVE (R336). -/
def execDigestSave (t : Take) (s : State) : Res := .next (takeOp t 0x33 (digestTake t.cmp t.core) s)

/-- DIGEST_RESTORE (R336, R469). -/
def execDigestRestore (t : Take) (s : State) : Res := .next (takeOp t 0x34 (digestTake t.cmp t.core) s)

/-- DIGEST_COMPARE (R335, R472). -/
def execDigestCompare (t : Take) (s : State) : Res := .next (takeOp t 0x35 (digestTake t.cmp t.core) s)

end Sys2Proof.Machine
end

