-- ==== Sys2Proof/Machine/FabricSteps.lean ====
section
/-! DEFINITION. The fabric's rows: pockets and Updates on the cores, mismatches, an instance's lining fault, and bookings
(chapter 7, R245). -/

namespace Sys2Proof.Machine

/-! ### Updates (R208, R212) -/

/-- Run the Update function on an instance with this data. -/
def updateInst (o : Op) (data : BitVec 384) : State → State :=
  modInst o.sl o.inst (fun x => { x with
    key := (drbgUpdate data x.key x.v).1, v := (drbgUpdate data x.key x.v).2 })

/-- An instance is reseeded: its counter starts at 1 and its count of requests below the floor clears (R177, R212). -/
def reseeded (o : Op) : State → State :=
  modInst o.sl o.inst (fun x => { x with counter := 1, reseedReq := false, belowCount := 0, belowSaid := false })

/-- A seed XORed with a string padded to 384 bits (R212). -/
def seedData (o : Op) (addl : List Byte) : BitVec 384 := pad384 o.seed ^^^ pad384 addl

/-- A request's output is complete and its final Update done: a command is answered with its pockets, a stream's instance asks
again (R212, R247, R264). The count of requests served below the floor sets THR_EVT.EXHAUST when it reaches 2^20 (Table 5-6). -/
def completeGenerate (o : Op) (s : State) : State :=
  let count := (s.inst o.sl o.inst).belowCount + bit s.floor.below
  let s := modInst o.sl o.inst (fun x => { x with counter := x.counter + 1, belowCount := count }) s
  let s := if s.floor.below && decide (count = 2 ^ 20) then modFloor (fun f => { f with evt := f.evt ||| 0x10 }) s else s
  let s := removeOp o.id s
  match o.kind with
  | .stream n => if !o.leaving && ((s.sleeve o.sl).streams.get n).tags.getLsbD o.inst.val then newRequest o.sl n o.inst s else s
  | _ => match o.cmd with
    | some id => answerP id stOk [] o.pockets o.nbytes s
    | none => s

/-- What follows when an operation's Update is done (R212, R217). -/
def finishUpdate (o : Op) (s : State) : State :=
  match o.phase with
  | .updSeed =>
    match o.kind with
    | .instantiate =>
      let s := updateInst o (seedData o o.addl) (modInst o.sl o.inst (fun x => { x with key := 0, v := 0 }) s)
      let x := s.inst o.sl o.inst
      s |> modOp o.id (fun p => { p with phase := .commit, seed := [] })
        |> requestCommit ⟨.inst o.sl o.inst, .inst true x.key x.v, true, .instantiate o.id, o.cmd⟩
    | .reseed =>
      s |> updateInst o (seedData o o.addl) |> reseeded o |> removeOp o.id |> answerOpt o.cmd stOk []
    | _ =>
      s |> updateInst o (seedData o (o.addlNow.getD []))
        |> reseeded o
        |> modOp o.id (fun p => { p with phase := .output, seed := [], addlNow := none, passedOver := 0 })
  | .updAddl =>
    s |> updateInst o (pad384 (o.addlNow.getD [])) |> modOp o.id (fun p => { p with phase := .output, passedOver := 0 })
  | .updFinal => completeGenerate o (updateInst o (pad384 (o.addlNow.getD [])) s)
  | _ => s

/-! ### Pockets (R212, R213, R228, R256) -/

/-- Output blocks of the pocket that an operation fills next. -/
def Op.pocketBytes (o : Op) : Nat := min 64 (o.nbytes - o.made)

/-- A request that a pattern has unbound ends with the pocket it filled, unless only its final Update is left. -/
def leaveOp (id : Nat) (s : State) : State :=
  match s.findOp id with
  | some o => if o.leaving && decide (o.phase ≠ .updFinal) then withdrawOp id Op.begun s else s
  | none => s

/-- A stream's place is filled: its chain's head may become ready (R256, R258). -/
def fillPlace (i : Sleeve) (n : Fin 4) (p : Nat) (s : State) : State :=
  s |> modStream i n (fun x => { x with chain := x.chain.map (fun y => if y.pocket = p then { y with filled := true } else y) })
    |> settleChain i n
    |> settlePattern i n

/-- A pocket's blocks are done: it is filled, unless it was lost meanwhile, and after the last pocket the final Update waits. -/
def finishPocket (o : Op) (p : Nat) (s : State) : State :=
  let x := s.inst o.sl o.inst
  let k := o.pocketBytes
  let r := drbgBlocks x.key ((k + 15) / 16) x.v
  let s := modInst o.sl o.inst (fun y => { y with v := r.2 }) (fillPocket p (r.1.take k) s)
  let s := modOp o.id (fun q => { q with
    made := q.made + k, pockets := if o.isStream then q.pockets else q.pockets ++ [p]
    phase := if q.made + k = q.nbytes then .updFinal else .output }) s
  match o.kind with
  | .stream n => leaveOp o.id (fillPlace o.sl n p s)
  | _ => s

/-- Finish what a lane works on; the lane is free. -/
def finishWork (w : LaneWork) (s : State) : State :=
  match w with
  | .idle => s
  | .pocket id p => match s.findOp id with
    | some o => finishPocket o p s
    | none => s
  | .update id => match s.findOp id with
    | some o => finishUpdate o s
    | none => s

def finishCounter (k : Fin 4) (s : State) : State :=
  settleFabric (finishWork (s.fabric.cores.get k).counter (modCore k (fun c => { c with counter := .idle }) s))

def finishUpdateLane (k : Fin 4) (s : State) : State :=
  settleFabric (finishWork (s.fabric.cores.get k).update (modCore k (fun c => { c with update := .idle }) s))

/-- Count a counter-lane grant: every other competing head is passed over once more (R230). -/
def ageHeads (o : Op) (s : State) : State :=
  let ids := (s.competing.filter (fun p => p.id != o.id)).map (·.id)
  modFabric (fun f => { f with ops := f.ops.map (fun p =>
    if p.id = o.id then { p with passedOver := 0 }
    else if ids.contains p.id then { p with passedOver := p.passedOver + 1 } else p) }) s

/-- The claimed pocket goes to the lane, and, for a stream, into the place assigned at the grant (R241, R256). Where that place
left with a dropped frame, the pocket is given up and the lane's output is discarded. -/
def placePocket (o : Op) (k : Fin 4) (p : Nat) (s : State) : State :=
  let s := modOp o.id (fun q => { q with booked := q.booked - 1 }) s
  let work (p : Nat) : State → State := modCore k (fun c => { c with counter := .pocket o.id p })
  match o.kind with
  | .stream n =>
    let mine (y : Place) : Bool := y.unclaimed && y.op == o.id
    if ((s.sleeve o.sl).streams.get n).chain.any mine then
      work p (modStream o.sl n (fun x => { x with chain := x.chain.map (fun y => if mine y then { y with pocket := p } else y) }) s)
    else work 4096 (releasePockets [p] s)
  | _ => work p s

/-- A claim waits: behind others it belongs to the next round (R56, R241). -/
def stallClaim (op : Nat) (core : Option (Fin 4)) (data : List Byte) : State → State :=
  modFabric (fun f => { f with claims := f.claims ++ [⟨op, core, data, !f.claims.isEmpty⟩] })

/-- A claim that no waiting one goes before (R56, R239). -/
def claimNow (i : Sleeve) (s : State) : Option (Nat × State) := if s.fabric.claims.isEmpty then claimPocket i s else none

/-- A stream's next place is assigned to the grant; one that completes a frame reaches its boundary (R256, R270). -/
def assignPlace (o : Op) (s : State) : State :=
  match o.kind with
  | .stream n => modStream o.sl n (fun x => { x with chain := x.chain ++ [⟨4097, false, x.pat0, o.id⟩] }) s
  | _ => s

/-- The boundary that an assignment may have reached. -/
def reachBoundary (o : Op) (s : State) : State :=
  match o.kind with
  | .stream n => settlePattern o.sl n s
  | _ => s

/-- Grant one pocket to an operation: its place is assigned, and the claim comes with the grant or stalls (R228, R241, R256). -/
def grantPocket (o : Op) (k : Fin 4) (s : State) : State :=
  let s := noteGrant o (ageHeads o s)
  let s := assignPlace o (modOp o.id (fun q => { q with began := true }) s)
  reachBoundary o <| match claimNow o.sl s with
    | some (p, s') => placePocket o k p s'
    | none => stallClaim o.id (some k) [] s

/-- This pocket boundary is admitted: `share` of every sixteen are (R104). -/
def admitted (boundary share : Nat) : Bool := decide (boundary * share / 16 < (boundary + 1) * share / 16)

/-- The counter lane of a core waits for a stalled claim. -/
def State.laneStalled (s : State) (k : Fin 4) : Bool := s.fabric.claims.any (fun c => c.core == some k)

/-- The core may take work on its counter lane. -/
def State.counterFree (s : State) (k : Fin 4) : Bool :=
  (s.fabric.cores.get k).health.inSvc && decide ((s.fabric.cores.get k).counter = .idle) && !s.laneStalled k

/-- POCKET_GRANT (R228): the pocket boundary of a counter lane. Where two Updates wait, the boundary is theirs (R208). -/
def execPocketGrant (k : Fin 4) (s : State) : Res :=
  .next <|
    if !s.running then s
    else
      let s := finishCounter k s
      if !s.counterFree k then s
      else
        let n := (s.fabric.cores.get k).boundary
        let ok := admitted n s.supply.share
        let s := modCore k (fun c => { c with boundary := (n + 1) % 16 }) s
        if !ok || decide (2 ≤ s.waitingUpdates.length) then s
        else match s.pick s.competing with
          | some o => grantPocket o k s
          | none => s

/-- UPDATE_LANE_GRANT (R208): the update lane takes the next waiting Update; the counter lane does where two or more wait or no
pocket does. -/
def execUpdateLaneGrant (k : Fin 4) (counter : Bool) (s : State) : Res :=
  .next <|
    if !s.running then s
    else if counter then
      let s := finishCounter k s
      if s.counterFree k && (decide (2 ≤ s.waitingUpdates.length) || s.competing.isEmpty) then
        match s.pick s.waitingUpdates with
        | some o => modCore k (fun c => { c with counter := .update o.id }) (modOp o.id (fun q => { q with began := true }) s)
        | none => s
      else s
    else
      let s := finishUpdateLane k s
      if (s.fabric.cores.get k).health.inSvc then
        match s.pick s.waitingUpdates with
        | some o => modCore k (fun c => { c with update := .update o.id }) (modOp o.id (fun q => { q with began := true }) s)
        | none => s
      else s

/-! ### Faults (R209, R210, R219) -/

/-- Operations with work in progress on a core: on its lanes, or a grant of it whose claim stalls. -/
def State.coreOps (s : State) (k : Fin 4) : List Nat :=
  let c := s.fabric.cores.get k
  c.counter.op.toList ++ c.update.op.toList ++ (s.fabric.claims.filter (fun x => x.core == some k)).map (·.op)

/-- A transient fault of an AES core: it is fenced, every operation with work on its lanes fails, and with no core left the
operations in flight end (R209, R326). -/
def aesFault (k : Fin 4) (s : State) : State :=
  s |> modFabric (fun f => { f with evt := f.evt ||| 0x1 })
    |> faultUnit (.aes k) 0x1001 15 [BitVec.ofNat 8 k.val]
    |> forAll (s.coreOps k) failOp
    |> endAllOps
    |> settleFabric

/-- AES_RETEST_END (R210). -/
def execAesRetestEnd (k : Fin 4) (pass : Bool) (s : State) : Res :=
  .next <|
    let h := (s.fabric.cores.get k).health
    if h.st = .quarantined ∧ h.retest = true ∧ h.bist = false then
      if pass && s.recovers (.aes k) then raiseD 0x1002 [BitVec.ofNat 8 k.val] (passRetest (.aes k) s) else failRetest (.aes k) s
    else s

/-- The operation whose work reads an instance's state now. -/
def State.readerOf (s : State) (i : Sleeve) (k : Fin 4) : Option Op :=
  s.fabric.ops.find? (fun o => o.sl == i && o.inst == k &&
    (decide (o.phase = .updSeed) || decide (o.phase = .updAddl) || decide (o.phase = .output) || decide (o.phase = .updFinal)))

/-- The instance is reloaded from its journal copy and is reseed-required; its priority and counts stay (R219). While a
zeroization is pending nothing is reloaded (R498). -/
def reloadInst (i : Sleeve) (k : Fin 4) (s : State) : State :=
  let x := s.inst i k
  if s.lining.zeroPend then modInst i k (fun y => { Inst.reset with health := y.health }) s
  else
    s |> reloadRecord (.inst i k)
      |> modInst i k (fun y => { y with prio := x.prio, belowCount := x.belowCount, belowSaid := x.belowSaid })

/-- INST_LINING_FAULT (R219): the operation that read the state is answered INTERNAL, and the instance is quarantined; the reload
that is its re-test ends with the next tick of Tally (DESIGN CHOICE, assumption log 48). A fault that meets the quarantine is one
of its recovery (R528). -/
def execInstLiningFault (i : Sleeve) (k : Fin 4) (copyOk : Bool) (s : State) : Res :=
  .next <|
    let u := UnitRef.inst i k
    let h := s.health u
    let reader := s.readerOf i k
    if h.st = .retired ∨ (h.st = .inService ∧ (s.inst i k).owned = false ∧ reader = none) then s
    else
      let s := match reader with
        | some o => failOp o.id s
        | none => s
      s |> modFabric (fun f => { f with evt := f.evt ||| 0x4 })
        |> modInst i k (fun x => { x with copyOk := copyOk })
        |> faultUnit u 0x1005 i.val [BitVec.ofNat 8 k.val]
        |> settleFabric

/-- The reload of a quarantined instance ends: it returns reseed-required, or is retired where neither copy passes its digest or a
further fault met it (R219, R528). -/
def endInstReload (i : Sleeve) (k : Fin 4) (s : State) : State :=
  let u := UnitRef.inst i k
  let h := s.health u
  if h.st = .quarantined ∧ h.retest = true then
    settleFabric (if (s.inst i k).copyOk && s.recovers u then passRetest u (reloadInst i k s) else failRetest u s)
  else s

/-! ### Bookings (R245) -/

/-- The operations whose bookings wait, in order of admission. -/
def State.waitingBookings (s : State) : List Op := s.fabric.ops.filter (fun o => decide (o.phase = .booking) && s.isHead o)

/-- BOOKING_ALLOWED (R245): a waiting booking, by its place among them, is examined again. -/
def execBookingAllowed (n : Nat) (s : State) : Res :=
  .next <|
    if !s.running then s
    else match s.waitingBookings[n]? with
      | some o => if s.pool.mayBook o.sl o.needs then settleFabric (startHead o s) else s
      | none => s

end Sys2Proof.Machine
end

