-- ==== Sys2Proof/Machine/Frames.lean ====
section
/-! DEFINITION. The frames that read or carry packets: PUSH_CMD, POP_REPLY, STREAM_READ, STATUS, the reserved kind and the
READ_REG rows (chapter 13). -/

namespace Sys2Proof.Machine

/-- Places of a sleeve's command queue that accept pushes (R603, Table 13-10). -/
def State.queuePlaces (s : State) : Nat := if s.ready || decide (s.power.phase = .fold) then 8 else 4

def setLastPush (c : Sel) (v : Nat) : State → State := modSel c (fun x => { x with lastPush := v })

/-- Commit a packet into the queue at release (R74, R401): accepted, held while a removal runs, or refused BUSY. One push is held
in one removal: a second that finds the queue full is refused (R77; DESIGN CHOICE, assumption log 79). -/
def commitPush (c : Sel) (packet : List Byte) (s : State) : State :=
  let i := s.selSleeve c
  let x := s.sleeve i
  let p : Packet := ⟨packet, min 3 (s.sel c).fails⟩
  let done (s : State) : State := modSel c (fun y => { y with lastPush := 1, fails := 0 }) s
  if x.cmdq.length + bit x.removing < s.queuePlaces then
    done (modSleeve i (fun y => { y with cmdq := y.cmdq ++ [p] }) s)
  else if x.removing && x.heldPush.isEmpty then
    done (modSleeve i (fun y => { y with heldPush := [(p, c)] }) s)
  else setLastPush c 2 s

/-- PUSH_CMD (R398 to R402, Table 18-2). -/
def execPushCmd (f : FrameIn) (head : PushHead) (packet : List Byte) (s : State) : Res :=
  .next <|
    let c := f.sel
    if !s.serves c then drive c [] [] s
    else
      let s := trackLanes f s
      if f.aborted then setLastPush c 3 (drive c [] [] s)
      else
        let n := head.count.toNat + 1
        let good := crcOk f (cmdByte 2 head.low) head.count packet
        let s := if good then s else crcFailed f true s
        if decide (s.role c = 1) && s.fencedSleeve c then endFrame c [] stNotReady 0 (setLastPush c 3 s)
        else if n < 3 ∨ 70 < n then endFrame c [] stBadLength 0 (setLastPush c 3 s)
        else if !good then endFrame c [] trCrcFail 0 (setLastPush c 3 s)
        else if s.role c ≠ 1 then noteAccess c (endFrame c [] stAccessFault 0 (setLastPush c 3 s))
        else commitPush c packet (endFrame c [] stOk 0 s)

/-- Eight bytes of 0xFF (R406). -/
def noReply : List Byte := List.replicate 8 0xFF

/-- Pad to whole words (R405). -/
def padWords (bs : List Byte) : List Byte := bs ++ List.replicate ((4 - bs.length % 4) % 4) 0

/-- Put a claimed reply back at the head of its queue (R405). -/
def returnReply (i : Sleeve) (r : Reply) : State → State := modSleeve i (fun x => { x with replies := r :: x.replies })

/-- Byte of a reply from which on it is lost with a torn pocket (R253): none where it is whole. -/
def Reply.lostFrom (r : Reply) : Option Nat :=
  if r.pockets.contains 4096 then some (8 + r.payload.length + 64 * r.pockets.idxOf 4096) else none

/-- Zero a byte string from an offset on. -/
def zeroFrom (n : Nat) (bs : List Byte) : List Byte := bs.take n ++ List.replicate (bs.length - n) 0

/-- A pop that has claimed a reply ends (R72, R253, R405): delivered whole it is removed, or replaced where a pocket of it is
lost; cut off or underrun it returns to the head. -/
def finishPop (c : Sel) (sh : Shift) (i : Sleeve) (r : Reply) (bytes : List Byte) (s : State) : State :=
  let data := padWords bytes
  let gone := !(goneWords sh (data.length / 4)).isEmpty
  match r.lostFrom with
  | none =>
    let s := readAnswer c data stOk 0 sh s
    if gone || decide (shiftedBytes sh (data.length + 4) < bytes.length) then returnReply i r s else releasePockets r.pockets s
  | some n =>
    let s := returnReply i r (readAnswer c (zeroFrom n data) stInternal 0 sh s)
    if gone || decide (shiftedBytes sh (data.length + 4) < data.length + 4) then s else internalReply i r.cmd s

/-- One pop; `inner` is what other selects do while its claim is held. The claim takes the head out of the queue. -/
def popOne (c : Sel) (sh : Shift) (inner : State → State) (s : State) : State :=
  let simple (st : Byte) : State := readAnswer c noReply st 0 sh (inner s)
  if !s.serves c then drive c [] [] (inner s)
  else if s.early c then simple stNotReady
  else if s.role c ≠ 1 then simple stAccessFault
  else if s.fencedSleeve c then simple trEmpty
  else
    let i := s.selSleeve c
    match (s.sleeve i).replies with
    | [] => simple trEmpty
    | r :: rest => finishPop c sh i r (s.replyBytes i r) (inner (modSleeve i (fun x => { x with replies := rest }) s))

/-- POP_REPLY (R405, R406, Tables 13-10 and 18-2). The pops of `others` begin and end while this one's claim is held (DESIGN
CHOICE, assumption log 80). -/
def execPopReply (c : Sel) (pop : PopIn) (s : State) : Res :=
  .next (popOne c pop.shift (forAll pop.others (fun p => popOne p.1 p.2 id)) s)

/-- STREAM_READ (R411 to R419, R639). -/
def execStreamRead (c : Sel) (n : Fin 4) (records : List Shift) (s : State) : Res :=
  .next <|
    let s := drive c [] [] s
    let i := s.selSleeve c
    let next := ((s.sleeve i).streams.get n).record.toNat
    if !s.serves c then s
    else if s.early c || s.foldM c then emptyFrame c n.val stNotReady (if s.role c = 1 then next else 0) records s
    else if s.role c ≠ 1 then emptyFrame c n.val stAccessFault 0 records s
    else if s.fencedSleeve c then emptyFrame c n.val trIdle next records s
    else streamRecords c i n records s

/-- The status word of a select (Table 13-5, R407). -/
def State.statusWord (s : State) (c : Sel) : Word :=
  let i := s.selSleeve c
  let x := s.sleeve i
  let base := [(0, 2, s.stateCode), (2, 1, bit s.floor.below), (25, 2, s.role c), (27, 1, bit s.faultPin)]
  match s.role c with
  | 1 =>
    pack (base ++ [(3, 1, bit (x.alrt != 0)), (4, 4, s.queuePlaces - x.cmdq.length), (8, 8, min 255 x.replies.length),
      (16, 2, (s.sel c).lastPush), (18, 4, (packRow 1 (allFours.map (fun n => bit (0 < (x.streams.get n).ready)))).toNat),
      (22, 3, i.val)])
  | 3 => pack base
  | _ => 0

/-- STATUS (R407, Table 13-10). -/
def execStatus (f : StatusFrame) (s : State) : Res :=
  .next <|
    let c := f.sel
    if !s.serves c then drive c [] [] s
    else readAnswer c (wordBytes (s.statusWord c))
      (if s.early c then stNotReady else if s.role c = 0 then stAccessFault else stOk) 0 f.shift s

/-! ### A frame as the wires carry it (R387, R388, R399) -/

/-- What a host sends on a select, byte by byte from the command byte on, and how it ends the module's phases. -/
structure BusFrame where
  sel    : Sel
  sent   : List Byte
  lanes  : List LaneSeen
  shifts : List Shift
  during : BitVec 5
  seen   : List (List (BitVec 1024))
  deriving DecidableEq, Repr

/-- The framing of a host-driven frame whose data and CRC are `d`, for `n` words. -/
def BusFrame.framing (b : BusFrame) (n : Nat) (d : List Byte) : FrameIn :=
  ⟨b.sel, (bytesWords ((d.drop (4 * n)).take 4)).headD 0, decide (d.length < 4 * n + 4), b.lanes⟩

/-- The command that a frame is, by its command byte; none where the select is released before the command and count bytes are
whole (13.1.1). -/
def BusFrame.decode (b : BusFrame) : Option Instr :=
  match b.sent with
  | [] => none
  | cmd :: r =>
    match frameKind cmd, r with
    | .readReg w, n :: _ => some (.pwrWakewhyRead ⟨b.sel, w, n.toNat + 1, b.shifts.headD .full, b.during⟩)
    | .writeReg w, n :: d => some (.writeReg (b.framing (n.toNat + 1) d) w (bytesWords (d.take (4 * (n.toNat + 1)))) [])
    | .pushCmd, n :: d =>
      some (.pushCmd (b.framing (n.toNat + 1) d) ⟨⟨cmd.toNat % 32, Nat.mod_lt _ (by decide)⟩, n⟩ (d.take (4 * (n.toNat + 1))))
    | .popReply, _ => some (.popReply b.sel ⟨b.shifts.headD .full, []⟩)
    | .streamRead n, _ => some (.streamRead b.sel n b.shifts)
    | .status, _ => some (.status ⟨b.sel, b.shifts.headD .full⟩)
    | .train, _ => some (.train b.sel b.seen true)
    | .reserved, _ => some (.reservedFrame b.sel)
    | _, [] => none

/-- A frame of the reserved kind: nothing is driven, nothing commits, the frame counter stays (R391). -/
def execReservedFrame (c : Sel) (s : State) : Res := .next (drive c [] [] s)

/-- A READ_REG frame that reads PWR_WAKEWHY (R573); every READ_REG frame runs the same way. -/
def execPwrWakewhyRead (f : ReadFrame) (s : State) : Res := .next (readFrame f s)

/-- A READ_REG frame that reads TLY_NOWL: it and TLY_NOWH come from one instant (R61). -/
def execTlyNowlRead (f : ReadFrame) (s : State) : Res := .next (readFrame f s)

/-- A READ_REG frame over the result window (R471). -/
def execResultWindowRead (f : ReadFrame) (s : State) : Res := .next (readFrame f s)

end Sys2Proof.Machine
end

