-- ==== Sys2Proof/Machine/Withdraw.lean ====
section
/-! DEFINITION. How a command that is withdrawn ends, wherever it stands: a timeout, a thermal fold, a fetch fault (R308, R309,
R346, R451, R569). -/

namespace Sys2Proof.Machine

/-- The command's operation leaves the fabric; its instance is reseed-required where an Update or output had begun (R308). -/
def withdrawCmdOps (id : Nat) (s : State) : State :=
  forAll (s.fabric.ops.filter (fun o => o.cmd == some id)) (fun o => withdrawOp o.id (·.began)) s

/-- The command's commit leaves the queue for the journal writer; nothing is written (R309). -/
def withdrawCmdCommits (id : Nat) (s : State) : State :=
  let cs := s.lining.waiting.filter (fun c => c.cmd == some id)
  forAll cs (fun c => dropCommitOp c.why) (modLining (fun l => { l with waiting := l.waiting.filter (fun c => c.cmd != some id) }) s)

/-- The context on which the command was absorbing or finishing is idle (R308); a command that waited leaves the wait. -/
def withdrawCmdCtx (id : Nat) (i : Sleeve) (k : Fin 4) (s : State) : State :=
  let x := s.ctx i k
  if x.cmd = some id then
    let s := modCtx i k (fun y => { Context.reset with waitq := y.waitq }) s
    drainCtx i k (s.ctx i k).waitq.length s
  else modCtx i k (fun y => { y with waitq := y.waitq.filter (fun w => w.1 != id) }) s

/-- A readmission run of the command is abandoned with outcome 5 (R346). -/
def withdrawCmdRuns (id : Nat) (s : State) : State :=
  let mine := s.bist.active.filter (fun r => r.cmd == some id)
  let waiting := s.bist.readmits.filter (fun r => r.cmd == some id)
  let s := modBist (fun b => { b with readmits := b.readmits.filter (fun r => r.cmd != some id) }) s
  let s := forAll mine (fun r => endRun { r with cmd := none } 5 0 false []) s
  forAll waiting (fun r => abandonWaiting { r with cmd := none }) s

/-- The start-up test of a readmission, or a retired sleeve's re-test, that the command waits for is abandoned: the unit stays
retired (R169, R346). -/
def withdrawCmdTests (c : Cmd) (s : State) : State :=
  if c.op = 0x52 then
    let t := argThread c.arg
    if (s.thread t).readmit then
      modThread t (fun x => { ThreadSt.fresh x with test := .none, readmit := false, passed := false }) s
    else s
  else if c.op = 0x05 then
    modSleeve (nth8 (field c.arg 0 3)) (fun x =>
      if x.health.st = .retired then { x with health := { x.health with retest := false } } else x) s
  else s

/-- The command's waits in ports, in the log and for READY end. -/
def withdrawCmdWaits (id : Nat) (s : State) : State :=
  s |> modPorts (fun p => { p with ports := p.ports.map (fun x => { x with waiters := x.waiters.filter (· != id) }) })
    |> modLog (fun l => if l.verify.map (·.1) = some id then { l with verify := none } else l)
    |> modPower (fun p => { p with resumes := p.resumes.filter (· != id) })

/-- The command is withdrawn and answered. -/
def failCommand (id : Nat) (st : Byte) (s : State) : State :=
  match s.findCmd id with
  | none => s
  | some c =>
    s |> withdrawCmdOps id
      |> withdrawCmdCommits id
      |> withdrawCmdTests c
      |> withdrawCmdRuns id
      |> withdrawCmdWaits id
      |> forAll allFours (withdrawCmdCtx id c.sl)
      |> answer id st []
      |> settleFabric

/-- The command's commit waits for the journal writer (R309). -/
def State.waitsForWriter (s : State) (id : Nat) : Bool := s.lining.waiting.any (fun c => c.cmd == some id)

/-- The command may not time out: its commit has been granted the journal writer (R309). -/
def State.isGranted (s : State) (id : Nat) : Bool := s.cmds.any (fun c => c.id == id && c.granted)

/-- A timeout: TIMEOUT, or NOT_COMMITTED while the commit waits for the writer; counted, with event 0x0012 (R308, R309). -/
def timeOut (c : Cmd) (s : State) : State :=
  let st := if s.waitsForWriter c.id then stNotCommitted else stTimeout
  let fold := decide (s.power.phase = .folding) && decide (s.power.foldCmd = some c.id)
  s |> failCommand c.id st
    |> modSleeve c.sl (fun x => { x with tmoCnt := satAdd 8 x.tmoCnt 1 })
    |> raiseS 0x0012 c.sl [BitVec.ofNat 8 c.tag.toNat]
    |> when' fold (modPower (fun p => { p with phase := .serving, foldCmd := none }))

/-- COMMAND_TIMEOUT (R307 to R310): the unit that held the request without acknowledging takes a transient fault. -/
def execCommandTimeout (id : Nat) (held : Option Holder) (s : State) : Res :=
  .next <|
    match s.findCmd id with
    | some c =>
      if s.now < c.deadline || c.granted then s
      else
        let s := timeOut c s
        match held with
        | some (.aes k) => if (s.fabric.cores.get k).health.inSvc then aesFault k s else s
        | some (.service k) => if (s.digest.cores.get (svcSha k)).inSvc then svcFault k 0x3001 s else s
        | none => s
    | none => s

end Sys2Proof.Machine
end

