-- ==== Sys2Proof/Machine/Master.lean ====
section
/-! DEFINITION. Lane bursts, master transfers, push windows and port F's fetches (12.5, chapter 14). -/

namespace Sys2Proof.Machine

/-- CRC_BURST (R377): a lane of a port takes a burst. -/
def execCrcBurst (p : Port) (lane : Fin 8) (s : State) : Res :=
  .next <| if (s.ports.ports.get (portIx p)).on then laneFault (portIx p) lane s else s

/-! ### Times of a transfer (R427, R428, R430, R437), in thirds of a nanosecond -/

/-- One SCLK period at a RATE code. -/
def sclkThirds (rate : Nat) : Nat := 4 * 2 ^ rate

/-- A record entry of a number of bytes at a RATE, a width and a CONT (R428). -/
def entryThirds (rate : Nat) (cont : Bool) (width bytes : Nat) : Nat :=
  let t := sclkThirds rate
  let words := bytes / 4
  if cont then 4 * bytes / width * t else words * (16 / width) * t + (words - 1) * max (2 * t) 30

/-- The claim of Table 14-1 at its latest: 38 ns. -/
def claimThirds : Nat := 114

/-- A probe is 64 SCLK periods (R437). -/
def probeThirds (rate : Nat) : Nat := 64 * sclkThirds rate

/-- The 100 ns that a port leaves between two master transfers (R423). -/
def gapThirds : Nat := 300

/-- Bytes of a stream's next record (Table 13-7). -/
def Stream.recordLen (x : Stream) : Nat :=
  let pat := (((x.frames.headD []).head?).map (·.pat0)).getD x.pat0
  4 + 64 * patFrame pat + (if patSeal pat then 16 else 0) + 8

/-- A duration that begins now ends by a Tally time. -/
def State.endsBy (s : State) (thirds deadline : Nat) : Bool := decide (3000 * s.now + thirds ≤ 3000 * deadline)

/-! ### Windows (R423, R434, R440, R443) -/

/-- The port may master (R423, R433). -/
def State.portMasters (s : State) (p : Fin 3) : Bool :=
  let x := s.ports.ports.get p
  s.ready && x.on && x.trained && !x.mmf && decide (x.health.st ≠ .retired) && decide (p.val < 2)

/-- An entry resolves: its partner is routed to the sleeve as a partner, and its stream runs in push mode (R434). -/
def State.pushResolves (s : State) (i : Sleeve) (w : Vector Word 4) : Bool :=
  let r := s.route (pePartner w)
  let x := (s.sleeve i).streams.get (peStream w)
  decide (r.role = 2) && decide (r.sl = i) && x.running && patPush x.pat0

/-- The window still needs its port: no acknowledge yet, or records left to deliver (R439). -/
def PushEntry.holds (x : PushEntry) (now : Nat) : Bool :=
  x.opened && decide (now < x.spanEnd) && !(x.acked && decide (peFpw x.words ≤ x.sent))

def State.entry (s : State) (q : Sleeve × Fin 4) : PushEntry := (s.sleeve q.1).pushes.get q.2

/-- The window that a port serves: of those open on it, the one whose span started first (R440). -/
def State.holder (s : State) (p : Fin 3) : Option (Sleeve × Fin 4) :=
  (allEntries.filter (fun q => (s.entry q).holds s.now && decide (pePort (s.entry q).words = p))).foldl
    (fun best q => match best with
      | none => some q
      | some b => if (s.entry q).spanStart < (s.entry b).spanStart then some q else best) none

/-- The first window whose span begins at or after the end of the last one and has not itself ended (R435). -/
def windowNow (w : Vector Word 4) (epoch d after now : Nat) : Nat :=
  let base := epoch + peOffset w
  let ends := base + peWindow w + effGuard w d
  let k := if after ≤ epoch then 0 else (after + effGuard w d - base + pePeriod w - 1) / pePeriod w
  max k (if now < ends then 0 else (now - ends) / pePeriod w + 1)

/-- Records of a stream that wait in a transfer queue. -/
def State.queuedFor (s : State) (i : Sleeve) (n : Fin 4) : Nat :=
  (s.ports.ports.toList.map (fun p => (p.queue.filter (fun q => !q.probe && q.sl == i && q.stream == n)).length)).sum

/-! ### The transfer queue (R426, R430, R438, R439) -/

/-- RATE and CONT of a partner select (Table 14-2). -/
def State.partnerCfg (s : State) (c : Sel) : Nat × Bool :=
  let w := s.ports.pcfg.get (nth8 c.val)
  (w.toNat % 4, w.getLsbD 2)

/-- S0's streams deliver nothing while its capture chain holds data (R139). -/
def State.paused (s : State) (i : Sleeve) : Bool := decide (i = 0) && s.capture.holds

/-- Queue an entry's due probe, while it and one record entry could still complete before the span end; RATE and CONT are
sampled now. -/
def queueProbe (q : Sleeve × Fin 4) (s : State) : State :=
  let x := s.entry q
  let p := pePort x.words
  let port := s.ports.ports.get p
  let cfg := s.partnerCfg (pePartner x.words)
  let len := ((s.sleeve q.1).streams.get (peStream x.words)).recordLen
  let time := 2 * claimThirds + probeThirds cfg.1 + gapThirds + entryThirds cfg.1 cfg.2 port.width len
  if s.holder p = some q ∧ x.acked = false ∧ x.nextProbe ≤ s.now ∧ s.portMasters p = true ∧ port.queue.length < 8 ∧
      port.queue.all (fun m => !(m.probe && m.sl == q.1 && m.entry == q.2)) = true ∧ s.endsBy time x.spanEnd = true then
    modPort p (fun z => { z with queue := z.queue ++
      [⟨q.1, q.2, true, pePartner x.words, peStream x.words, x.spanEnd, cfg.1, cfg.2⟩] }) s
  else s

/-- Queue the records that an acknowledged window may deliver; `n` bounds the places of the queue. -/
def queueRecords (q : Sleeve × Fin 4) : Nat → State → State
  | 0, s => s
  | n + 1, s =>
    let x := s.entry q
    let p := pePort x.words
    let port := s.ports.ports.get p
    let str := peStream x.words
    let y := (s.sleeve q.1).streams.get str
    let mine := (port.queue.filter (fun m => !m.probe && m.sl == q.1 && m.entry == q.2)).length
    let cfg := s.partnerCfg (pePartner x.words)
    let fits := s.endsBy (claimThirds + entryThirds cfg.1 cfg.2 port.width y.recordLen) x.spanEnd
    if x.holds s.now && x.acked && decide (port.queue.length < 8) && decide (x.sent + mine < peFpw x.words) &&
        y.running && !s.paused q.1 && decide (s.queuedFor q.1 str < y.ready) && fits then
      queueRecords q n (modPort p (fun z => { z with queue := z.queue ++
        [⟨q.1, q.2, false, pePartner x.words, str, x.spanEnd, cfg.1, cfg.2⟩] }) s)
    else s

/-- The push engine fills a port's queue for the window that the port serves. -/
def pushEngine (p : Fin 3) (s : State) : State :=
  match s.holder p with
  | some q => queueRecords q 8 (queueProbe q s)
  | none => s

/-- PUSH_WINDOW_START (R434, R435, R443): the window opens, or is skipped. -/
def execPushWindowStart (i : Sleeve) (e : Fin 4) (s : State) : Res :=
  .next <|
    let x := s.entry (i, e)
    let w := (s.sleeve i).pushWords e
    let epoch := (s.sleeve i).pushEpoch e w
    let span := spanOf w epoch x.doublings (windowNow w epoch x.doublings x.after s.now)
    if !peEnabled w || x.opened || decide (s.now < span.1) || !s.ready then s
    else if !s.pushResolves i w || !s.portMasters (pePort w) || x.suspended || x.lost then
      modPush i e (fun y => { y with after := span.2 }) s
    else
      pushEngine (pePort w) (modPush i e (fun y => { y with
        opened := true, words := w, spanStart := span.1, spanEnd := span.2, acked := false, sent := 0, nextProbe := s.now }) s)

/-- A window is served (R439, R442). -/
def servePush (x : PushEntry) : PushEntry :=
  let n := if 0 < x.doublings then x.streak + 1 else 0
  { x with
    acked := true, served := (x.served + 1) % 2 ^ 32, lastMissed := false
    doublings := if n = 64 then x.doublings - 1 else x.doublings
    streak := if n = 64 then 0 else n }

/-- Two consecutive high samples of logical lane 0 (R437). -/
def probeAck (lane0 : BitVec 32) : Bool := (lane0 &&& (lane0 >>> 1)) != 0

/-- What the module last drove on a partner select, by select period (R428, R437). -/
def driveMaster (c : Sel) (r : List Byte × List Byte) (periods : List Nat) : State → State :=
  modSel c (fun x => { x with out := ⟨r.1, r.2, periods⟩ })

/-- Select periods of a record entry of a number of bytes (R428). -/
def entryPeriods (cont : Bool) (bytes : Nat) : List Nat := if cont then [bytes] else List.replicate (bytes / 4) 4

/-- A probe is driven and the partner's acknowledge sampled: the next is due 10 us on, or the window is served (R437, R438). -/
def runProbe (m : MasterEntry) (lane0 : BitVec 32) (s : State) : State :=
  let x := s.entry (m.sl, m.entry)
  if x.opened && !x.acked && s.endsBy (claimThirds + probeThirds m.rate) m.deadline then
    let s := driveMaster m.partner ([], []) [0] (modPush m.sl m.entry (fun y => { y with nextProbe := s.now + 10 }) s)
    if probeAck lane0 then modPush m.sl m.entry servePush s else s
  else s

/-- A record entry may be transferred: its window is open, its record ready, and it ends in time (R435). -/
def State.transferable (s : State) (p : Fin 3) (m : MasterEntry) : Bool :=
  let x := s.entry (m.sl, m.entry)
  let y := (s.sleeve m.sl).streams.get m.stream
  x.opened && y.running && y.headReady && !s.paused m.sl && decide (0 < (s.ports.ports.get p).width) &&
    s.endsBy (claimThirds + entryThirds m.rate m.cont (s.ports.ports.get p).width y.recordLen) m.deadline

/-- A record entry is transferred: the record of Table 13-7 is claimed and delivered (R427 to R429). -/
def runRecord (p : Fin 3) (m : MasterEntry) (s : State) : State :=
  if s.transferable p m then
    let x := (s.sleeve m.sl).streams.get m.stream
    let f := x.frames.headD []
    let body := s.streamBody m.sl m.stream f
    s |> driveMaster m.partner (recordBytes body stOk 0 (x.record.toNat % 65536)) (entryPeriods m.cont (body.length + 8))
      |> modPush m.sl m.entry (fun x => { x with sent := x.sent + 1 })
      |> claimFrame m.sl m.stream f
  else s

/-- The entry at the head of a port's queue. -/
def runEntry (p : Fin 3) (lane0 : BitVec 32) (s : State) : State :=
  match (s.ports.ports.get p).queue with
  | [] => s
  | m :: r =>
    let t := modPort p (fun x => { x with queue := r }) s
    pushEngine p (if m.probe then runProbe m lane0 t else runRecord p m t)

/-- MASTER_TRANSFER (R423 to R430): the entry at the head of the port's queue; a slave select low at the claim point keeps the
port, and the entry waits. -/
def execMasterTransfer (port : Port) (bus : BusSeen) (s : State) : Res :=
  .next <|
    let p := portIx port
    if !s.portMasters p then s
    else if bus.slaveLow then pushEngine p s
    else runEntry p bus.lane0 (pushEngine p s)

/-- PUSH_PROBE (R437, R438): the entry's probe, where it stands at the head of its port's queue. -/
def execPushProbe (i : Sleeve) (e : Fin 4) (bus : BusSeen) (s : State) : Res :=
  .next <|
    let p := pePort (s.entry (i, e)).words
    if !s.portMasters p then s
    else
      let s := pushEngine p s
      match (s.ports.ports.get p).queue with
      | m :: _ => if m.probe && m.sl == i && m.entry == e && !bus.slaveLow then runEntry p bus.lane0 s else s
      | [] => s

/-- Entries of a window leave their port's queue; the window is over, and the actions that waited for its end apply (R356). -/
def closeWindow (q : Sleeve × Fin 4) (s : State) : State :=
  s |> modPorts (fun p => { p with ports := p.ports.map (fun x => { x with
        queue := x.queue.filter (fun m => !(m.sl == q.1 && m.entry == q.2)) }) })
    |> modPush q.1 q.2 (fun x => { (x.acts.foldl PushAct.apply { x with opened := false, after := x.spanEnd }) with acts := [] })

/-- A missed window widens the guard; the fourth in a row marks the entry LOST (R441, R442). -/
def missWindow (q : Sleeve × Fin 4) (s : State) : State :=
  let d := (s.entry q).doublings
  let s := modPush q.1 q.2 (fun x => { x with missed := (x.missed + 1) % 2 ^ 32, streak := 0, lastMissed := true }) s
  if d < 3 then raiseS 0x9020 q.1 [BitVec.ofNat 8 q.2.val] (modPush q.1 q.2 (fun x => { x with doublings := d + 1 }) s)
  else
    let r := offer (mkEv s 0x9021 q.1.val [BitVec.ofNat 8 q.2.val]) (modPush q.1 q.2 (fun x => { x with lost := true }) s)
    if r.2 then alert q.1 0x10 r.1 else r.1

/-- PUSH_SPAN_END (R441 to R443). -/
def execPushSpanEnd (i : Sleeve) (e : Fin 4) (s : State) : Res :=
  .next <|
    let x := s.entry (i, e)
    if !x.opened || decide (s.now < x.spanEnd) then s
    else if x.acked || !s.portMasters (pePort x.words) then closeWindow (i, e) s
    else closeWindow (i, e) (missWindow (i, e) s)

/-- The record of an entry that did not complete is claimed and lost (R429, R432). -/
def loseRecord (p : Fin 3) (m : MasterEntry) (s : State) : State :=
  if !m.probe && s.transferable p m then
    claimFrame m.sl m.stream (((s.sleeve m.sl).streams.get m.stream).frames.headD []) (drive m.partner [] [] s)
  else s

/-- MULTI_MASTER (R431, R432): the port stops driving, its record in transfer is lost, and its open windows end. -/
def execMultiMaster (m : Port × Bool) (s : State) : Res :=
  .next <|
    let p := portIx m.1
    let partnered := allSels.any (fun c => decide (selPort c = p) && decide ((s.route c).role = 2))
    if !s.portMasters p || !partnered then s
    else
      let s := match m.2, (s.ports.ports.get p).queue with
        | true, x :: _ => loseRecord p x s
        | _, _ => s
      let open_ := allEntries.filter (fun q => (s.entry q).opened && decide (pePort (s.entry q).words = p))
      s |> forAll open_ closeWindow
        |> modPort p (fun x => { x with mmf := true, queue := [] })
        |> raiseD 0x9023 [BitVec.ofNat 8 p.val]

/-! ### Port F (R445 to R451) -/

/-- Most recently used first, sixteen lines (R449). -/
def touchLine (n : Nat) (bytes : List Byte) (x : Xip) : Xip :=
  { x with buffer := ((n, bytes) :: x.buffer.filter (fun b => b.1 != n)).take 16 }

/-- A fetch fault (R451): the opcode being executed, the one taken last and not answered, is answered INTERNAL. -/
def fetchFault (code : BitVec 16) (s : State) : State :=
  let s := modXip (fun x => { x with off := true, version := 0, fault := satAdd 16 x.fault 1 }) s
  let s := match (s.cmds.filter (fun c => !c.granted)).head? with
    | some c => failCommand c.id stInternal s
    | none => s
  raise code s

/-- A line verifies under its line check (R448). -/
def State.lineOk (s : State) (addr n : Nat) (line : List Byte) : Bool :=
  s.ports.xip.checks[n]? == some (lineCheck s.lining.boot addr line)

/-- XIP_FETCH (R449, R450): the line of an internal address, from the buffer, F0 or F1. -/
def execXipFetch (addr : Word) (f0 f1 : List Byte) (s : State) : Res :=
  .next <|
    let x := s.ports.xip
    let base := codeBase x.offset
    let a := addr.toNat
    /- a port that is off answers neither select (R363) -/
    let read := decide (s.power.phase ≠ .fold)
    if x.off || decide (x.version = 0) then s
    else if a < base ∨ base + x.codeLen ≤ a ∨ 0x02000000 ≤ a then fetchFault 0x9030 s
    else
      let n := (a - base) / 64
      let la := base + 64 * n
      match x.buffer.find? (fun b => b.1 == n) with
      | some b => modXip (touchLine n b.2) s
      | none =>
        let marked := x.f1only.contains n
        let at0 := when' (read && !marked) (readFlash false (la - 0x01000000)) s
        let at1 := when' read (readFlash true (la - 0x01000000)) at0
        if !s.svcUp then fetchFault 0x9032 at1
        else if read && !marked && s.lineOk la n f0 then modXip (touchLine n f0) at0
        else if read && s.lineOk la n f1 then
          at1 |> modXip (fun y => touchLine n f1 { y with
                f1only := if marked then y.f1only else n :: y.f1only
                f0fail := if marked then y.f0fail else satAdd 16 y.f0fail 1 })
            |> when' (!marked) (raiseD 0x9031 (natBytes 4 la))
        else fetchFault 0x9032 at1

end Sys2Proof.Machine
end

