-- ==== Sys2Proof/Machine/YokeSteps.lean ====
section
/-! DEFINITION. Yoke's rounds, conditioning and the reservoir's grants (chapter 6). -/

namespace Sys2Proof.Machine

/-! ### Taking bytes (R182, R183, R186, R188) -/

/-- Threads from the one after the last that gave a byte, wrapping (R186). -/
def roundFrom (last : Thread) : List Thread :=
  (allThreads.filter (fun t => decide (last.val < t.val))) ++ (allThreads.filter (fun t => decide (t.val ≤ last.val)))

/-- Yoke may credit the thread's released bytes: it is in service and not under capture, at a credit of 100 permille or more
(R136, R164, R183, 5.2.3 item 3). -/
def State.creditable (s : State) (t : Thread) : Bool :=
  s.yokeTakes t && (s.thread t).health.inSvc && !s.underCapture t && decide (100 ≤ s.creditBit t)

/-- The thread that gives the next byte: it holds released bytes, and they may be credited. -/
def State.nextGiver (s : State) : Option Thread :=
  (roundFrom s.yoke.lastThread).find? (fun t => !(s.thread t).release.isEmpty && s.creditable t)

/-- Yoke may take a byte: no closed block waits for a core, and a block is open or may open (R190, R195). -/
def State.yokeOpen (s : State) : Bool :=
  s.yoke.waiting.isEmpty && (!s.yoke.openBytes.isEmpty || !s.yokePaused)

/-- The header of a closing block (Table 6-1), each field most significant byte first (DESIGN CHOICE, assumption log 73). -/
def blockHeader (counter : Nat) (mask : BitVec 16) (bytes : Nat) : List Byte :=
  natBytes 4 counter ++ natBytes 2 mask.toNat ++ natBytes 2 bytes

/-- Add a byte to the open block, and close the block at 576,000 milli-bits (R182, R188, R189). -/
def Yoke.addByte (y : Yoke) (t : Thread) (b : Byte) (credit : Nat) : Yoke :=
  let bytes := y.openBytes ++ [b]
  let mask := y.openMask ||| BitVec.twoPow 16 t.val
  let total := y.openCredit + 8 * credit
  if 576000 ≤ total then
    { y with
      lastThread := t, openBytes := [], openCredit := 0, openMask := 0
      waiting := y.waiting ++ [blockHeader y.blockCount mask bytes.length ++ bytes]
      blockCount := (y.blockCount + 1) % 2 ^ 32 }
  else { y with lastThread := t, openBytes := bytes, openCredit := total, openMask := mask }

/-- Released bytes of threads below 100 permille are discarded (R183). -/
def dropLowCredit (s : State) : State :=
  forAll (allThreads.filter (fun t => decide (s.creditBit t < 100))) (fun t => modThread t (fun x => { x with release := [] })) s

/-- YOKE_TAKE_BYTE (R182, R186). -/
def execYokeTakeByte (s : State) : Res :=
  .next <|
    let s := dropLowCredit s
    if !s.yokeOpen then s
    else match s.nextGiver with
      | none => s
      | some t =>
        match (s.thread t).release with
        | [] => s
        | b :: r =>
          let credit := s.creditBit t
          modYoke (fun y => y.addByte t b credit) (modThread t (fun x => { x with release := r }) s)

/-! ### Conditioning (R190 to R193) -/

/-- A conditioning core's place among the SHA cores. -/
def condSha (k : Fin 4) : Fin 6 := ⟨k.val, by omega⟩

/-- The conditioning core takes blocks: in service, none on it, no known-answer test running. -/
def State.condFree (s : State) (k : Fin 4) : Bool :=
  (s.digest.cores.get (condSha k)).inSvc && (s.yoke.cores.get k).block.isNone && !(s.yoke.cores.get k).kat

/-- Cores that may take a closed block, the one idle longest first; in fold the lowest-numbered in service alone (R145,
R190). -/
def State.condTakers (s : State) : List (Fin 4) :=
  if s.power.phase = .fold then
    ((allFours.filter (fun k => (s.digest.cores.get (condSha k)).inSvc)).take 1).filter s.condFree
  else s.yoke.idleOrder.filter s.condFree

/-- BLOCK_TO_CORE (R190). -/
def execBlockToCore (s : State) : Res :=
  .next <|
    match s.yoke.waiting, s.condTakers with
    | b :: r, k :: _ => modCond k (fun c => { c with block := some b }) (modYoke (fun y => { y with waiting := r }) s)
    | _, _ => s

/-- CONDITIONING_DONE (R191, R192): the output block is staged, the core becomes the one idle shortest, and its known-answer
test starts at 32 staged blocks, for a waiting draw, or where the core is drained for a BIST run. -/
def execConditioningDone (k : Fin 4) (s : State) : Res :=
  .next <|
    match (s.yoke.cores.get k).block with
    | none => s
    | some b =>
      let out := BitVec.ofNat 512 (bytesNat (sha 2 b))
      let draws := s.drawShort || (s.digest.cores.get (condSha k)).bist
      s |> modCond k (fun c => { c with
            block := none, staged := c.staged ++ [out], since := if c.staged.isEmpty then s.now else c.since
            kat := c.kat || draws || decide (32 ≤ c.staged.length + 1) })
        |> justIdle k

/-- STAGING_TIMEOUT (R192): the oldest staged block has waited 50 us. -/
def execStagingTimeout (k : Fin 4) (s : State) : Res :=
  .next <|
    let c := s.yoke.cores.get k
    if !c.staged.isEmpty && decide (c.since + 50 ≤ s.now) then modCond k (fun x => { x with kat := true }) s else s

/-- The four reservoir units of an output block: its first 16 bytes enter first (R194; DESIGN CHOICE, assumption log 73). -/
def unitsOf (b : BitVec 512) : List (BitVec 128) :=
  [b.extractLsb' 384 128, b.extractLsb' 256 128, b.extractLsb' 128 128, b.extractLsb' 0 128]

/-- A passed test releases the staged blocks; the empty episode ends at 2048 units (R192, R194, R199). -/
def releaseStaged (k : Fin 4) (s : State) : State :=
  let blocks := (s.yoke.cores.get k).staged
  s |> modCond k (fun c => { c with staged := [], kat := false })
    |> modYoke (fun y =>
        let r := y.reservoir ++ blocks.flatMap unitsOf
        { y with reservoir := r, blkCount := satAdd 32 y.blkCount blocks.length, short := y.short && decide (r.length < 2048) })

/-- A failed test clears the staged blocks, and a block on the core (R192). -/
def discardStaged (k : Fin 4) (s : State) : State :=
  let n := (s.yoke.cores.get k).staged.length
  s |> modCond k (fun _ => .reset)
    |> modYoke (fun y => { y with discCount := satAdd 16 y.discCount n, evt := y.evt ||| 0x1 })

/-- A conditioning core leaves service: the floor follows when none is left (R193). -/
def afterCondFault (s : State) : State := judgeFloor (showFloor s)

/-- COND_KAT_END (R192): the test of a core in service, or the re-test of a quarantined one. The core is idle from then on. -/
def execCondKatEnd (k : Fin 4) (pass : Bool) (s : State) : Res :=
  .next <|
    let u := UnitRef.sha (condSha k)
    let h := s.health u
    if h.st = .quarantined ∧ h.retest = true ∧ h.bist = false then
      afterCondFault (justIdle k (if pass then passRetest u s else failRetest u s))
    else if (s.yoke.cores.get k).kat then
      if pass then justIdle k (releaseStaged k s)
      else afterCondFault (justIdle k (faultUnit u 0x5050 15 [BitVec.ofNat 8 k.val] (discardStaged k s)))
    else s

/-! ### Draws (R197, R199, R241) -/

/-- The round after a grant: the served drawer waits for the next round when it asks again; an empty round starts the next. -/
def Fabric.roundAfter (f : Fabric) (id : Nat) (again : Bool) : Fabric :=
  let now := f.drawers.filter (· != id)
  let next := f.drawersNext ++ (if again then [id] else [])
  if now.isEmpty then { f with drawers := next, drawersNext := [], served := [] }
  else { f with drawers := now, drawersNext := next, served := id :: f.served }

/-- A drawer that asks again once its claim completes has been served in the round that is still open (R197). -/
def Fabric.keepServed (f : Fabric) (id : Nat) : Fabric := if f.drawers.isEmpty then f else { f with served := id :: f.served }

/-- A GET_SEED's granted bytes enter a pocket; its reply is posted with the last (R241, R327). -/
def seedIntoPocket (o : Op) (p : Nat) (data : List Byte) (s : State) : State :=
  let made := o.made + data.length
  let s := fillPocket p data s
  let s := modOp o.id (fun x => { x with pockets := x.pockets ++ [p], made := made, booked := x.booked - 1 }) s
  if made = o.nbytes then
    s |> removeOp o.id
      |> (fun t => match o.cmd with
          | some id => answerP id stOk [] (o.pockets ++ [p]) made t
          | none => t)
      |> settleFabric
  else s

/-- Give a drawer its units (R194, R197). -/
def grantUnitsTo (o : Op) (s : State) : State :=
  let n := o.grantUnits
  let data := (s.yoke.reservoir.take n).flatMap (fun u => natBytes 16 u.toNat)
  let s := modYoke (fun y => { y with reservoir := y.reservoir.drop n, drawCount := satAdd 32 y.drawCount n }) s
  if o.kind = .getSeed then
    let again := decide (o.made + data.length < o.nbytes)
    match claimNow o.sl s with
    | some (p, s') =>
      let t := seedIntoPocket o p data (modFabric (fun f => f.roundAfter o.id again) s')
      if again then (match t.findOp o.id with
        | some q => if t.yoke.reservoir.length < q.grantUnits then noteShort t else t
        | none => t)
      else t
    | none =>
      s |> modFabric (fun f => (f.roundAfter o.id false).keepServed o.id) |> stallClaim o.id none data
  else
    s |> modOp o.id (fun x => { x with seed := data, phase := .updSeed })
      |> modFabric (fun f => f.roundAfter o.id false)

/-- RESERVOIR_GRANT (R197): the drawer at this place of the present round, if the reservoir holds its whole grant; none is made
below the floor (R198). -/
def execReservoirGrant (drawer : Nat) (s : State) : Res :=
  .next <|
    match s.fabric.drawers[drawer]?.bind s.findOp with
    | some o =>
      if !s.running || s.floor.below then s
      else if s.yoke.reservoir.length < o.grantUnits then noteShort s
      else grantUnitsTo o s
    | none => s

end Sys2Proof.Machine
end

