-- ==== Sys2Proof/Machine/PoolSteps.lean ====
section
/-! DEFINITION. The pool's rows: claims, frees, torn pockets, banks, queue removals and stream seals (chapter 8, R73, R475). -/

namespace Sys2Proof.Machine

/-! ### Claims and frees (R239 to R241) -/

/-- The next round of waiting claims begins when the present one has none left (R56). -/
def Fabric.claimRound (f : Fabric) : Fabric :=
  if f.claims.all (·.late) then { f with claims := f.claims.map (fun c => { c with late := false }) } else f

/-- A waiting claim takes its pocket. -/
def serveClaim (c : StalledClaim) (o : Op) (p : Nat) (s : State) : State :=
  match c.core with
  | some k => placePocket o k p s
  | none =>
    let t := seedIntoPocket o p c.data s
    match t.findOp o.id with
    | some q => joinDrawers q q.grantUnits t
    | none => t

/-- POCKET_CLAIM (R239, R241): a stalled claim of the present round, by its place among them all, takes the lowest free pocket. -/
def execPocketClaim (n : Nat) (s : State) : Res :=
  .next <|
    let s := modFabric Fabric.claimRound s
    match s.fabric.claims[n]? with
    | none => s
    | some c =>
      if c.late then s
      else match s.findOp c.op with
      | none => modFabric (fun f => { f with claims := f.claims.eraseIdx n }) s
      | some o =>
        match claimPocket o.sl s with
        | none => s
        | some (p, s') => serveClaim c o p (modFabric (fun f => { f with claims := f.claims.eraseIdx n }) s')

/-- POCKET_FREE (R238, R240): the cleared pocket's bit is set, unless its bank is masked (R255 step 2). -/
def execPocketFree (p : Fin 4096) (s : State) : Res :=
  .next <|
    match s.pool.clearing.find? (fun x => x.1 == p.val) with
    | none => s
    | some (_, i) =>
      s |> modPool (fun q => { q with
            clearing := q.clearing.filter (fun x => x.1 != p.val)
            free := if (q.banks.get (bankOf p.val)).masked then q.free else setPBit q.free p.val })
        |> subUsed i 1

/-! ### Torn pockets (R253, 8.1.1) -/

/-- The head reply of a select's sleeve holds the pocket and a POP_REPLY reads it. -/
def State.poppingReply (s : State) (c : Sel) (p : Nat) : Option Reply :=
  if s.serves c && !s.early c && decide (s.role c = 1) && !s.fencedSleeve c then
    match (s.sleeve (s.selSleeve c)).replies with
    | r :: _ => if r.pockets.contains p then some r else none
    | [] => none
  else none

/-- The stream whose ready head record holds the pocket. -/
def State.readingStream (s : State) (c : Sel) (p : Nat) : Option (Fin 4) :=
  if s.serves c && !s.early c && !s.foldM c && decide (s.role c = 1) && !s.fencedSleeve c then
    allFours.find? (fun n =>
      let x := (s.sleeve (s.selSleeve c)).streams.get n
      x.headReady && ((x.frames.headD []).any (fun y => y.pocket == p)))
  else none

/-- A stream record that is cut short from place `k` on: payload words from it on are zero, the trailer carries INTERNAL, the
record is lost and its counter value used (R209, R253, 13.5.2). -/
def recordCut (c : Sel) (n : Fin 4) (k : Nat) (sh : Shift) (s : State) : State :=
  let i := s.selSleeve c
  let x := (s.sleeve i).streams.get n
  let f := x.frames.headD []
  let body := s.streamBody i n f
  let part := body.take (4 + 64 * k) ++ List.replicate (64 * (f.length - k)) 0 ++ body.drop (4 + 64 * f.length)
  (sendRecord c part (x.unheld f) stInternal (x.record.toNat % 65536) sh (claimFrame i n f (drive c [] [] s))).1

/-- A stream record whose read meets a bad pocket (R253). -/
def recordTorn (c : Sel) (n : Fin 4) (p : Nat) (sh : Shift) (s : State) : State :=
  recordCut c n (((((s.sleeve (s.selSleeve c)).streams.get n).frames.headD []).map (·.pocket)).idxOf p) sh s

/-- A STREAM_READ on this select has claimed the head record of a stream that holds a pocket of one of these operations (R416):
the stream, and the place of the first of them. -/
def State.claimedFrame (s : State) (c : Sel) (ids : List Nat) : Option (Fin 4 × Nat) :=
  if s.serves c && !s.early c && !s.foldM c && decide (s.role c = 1) && !s.fencedSleeve c then
    (allFours.filterMap (fun n =>
      let f := ((s.sleeve (s.selSleeve c)).streams.get n).frames.headD []
      if wholeFrame f then (f.findIdx? (fun p => ids.contains p.op && !p.dropped)).map (fun k => (n, k)) else none)).head?
  else none

/-- AES_MISMATCH (R209). A frame that a read has claimed is cut short, not dropped. -/
def execAesMismatch (m : Mismatch) (s : State) : Res :=
  .next <|
    let k := m.core
    let h := (s.fabric.cores.get k).health
    if h.st = .retired ∨ h.bist = true then s
    else
      let ids := s.coreOps k
      let s := match m.reader with
        | some c => match s.claimedFrame c.1 ids with
          | some (n, j) => recordCut c.1 n j c.2 s
          | none => s
        | none => s
      aesFault k (modFabric (fun f => { f with mismatch := satAdd 16 f.mismatch 1 }) s)

/-- A pocket that fails in a scrub is a fault in its bank's own recovery (8.5.3). -/
def tornInScrub (p : Nat) (s : State) : State :=
  let b := bankOf p
  if (s.health (.bank b)).st = .quarantined ∧ s.pool.bankIdle b = true then retireBank b s else s

/-- The owner check failed: the pocket's reply or record is handled as for a torn pocket, and the alarm is raised (8.1.1). -/
def ownerAlarm (p : Nat) (s : State) : State :=
  raiseD 0x208B (natBytes 2 p) (modPool (fun q => { q with evt := q.evt ||| 0x40 }) s)

/-- The head reply of a select's sleeve loses a pocket to a failed owner check (8.1.1). -/
def loseReplyPocket (i : Sleeve) (cmd p : Nat) : State → State :=
  modSleeve i (fun x => { x with replies := x.replies.map (fun r =>
    if r.cmd = cmd then { r with pockets := r.pockets.map (fun q => if q = p then 4096 else q) } else r) })

/-- POCKET_TORN (R253), or the owner check of 8.1.1. -/
def execPocketTorn (p : Fin 4096) (r : PocketReader) (s : State) : Res :=
  .next <|
    if s.pool.torn.getLsbD p.val then s
    else match r with
      | .inside => settleFabric (tornInScrub p.val (tearPocket p.val s))
      | .pop c sh => match s.poppingReply c p.val with
        | some _ => settleFabric (popOne c sh id (tearPocket p.val s))
        | none => settleFabric (tornInScrub p.val (tearPocket p.val s))
      | .stream c sh => match s.readingStream c p.val with
        | some n => settleFabric (tearPocket p.val (recordTorn c n p.val sh s))
        | none => settleFabric (tornInScrub p.val (tearPocket p.val s))
      | .ownerPop c sh => match s.poppingReply c p.val with
        | some x => ownerAlarm p.val (popOne c sh id (loseReplyPocket (s.selSleeve c) x.cmd p.val s))
        | none => s
      | .ownerStream c sh => match s.readingStream c p.val with
        | some n => ownerAlarm p.val (recordTorn c n p.val sh s)
        | none => s

/-! ### Banks (R255) -/

/-- BANK_ECC_STORM (R235, R255): corrected errors of a bank; sixteen within 1 s are a transient fault of it. -/
def execBankEccStorm (b : Fin 16) (errors : Nat) (s : State) : Res :=
  .next <|
    let h := s.health (.bank b)
    let recent := (s.pool.banks.get b).errors.filter (fun t => decide (s.now - t < 1000000))
    let all := (List.replicate (min 16 errors) s.now ++ recent).take 16
    let s := modPool (fun q => { q with corr := satAdd 16 q.corr errors }) s
    if all.length < 16 ∨ h.st = .retired ∨ h.bist = true then modBank b (fun x => { x with errors := all }) s
    else
      s |> modBank b (fun x => { x with errors := [] })
        |> modPool (fun q => { q with evt := q.evt ||| 0x02 })
        |> faultUnit (.bank b) 0x2081 15 [BitVec.ofNat 8 b.val]
        |> maskBank b

/-- BANK_SCRUB (R255 step 3): the scrub of a drained bank. -/
def execBankScrub (b : Fin 16) (pass : Bool) (s : State) : Res :=
  .next <|
    let u := UnitRef.bank b
    let h := s.health u
    if h.st = .quarantined ∧ h.retest = true ∧ h.bist = false ∧ s.pool.bankIdle b = true then
      if pass && s.recovers u then raiseD 0x2082 [BitVec.ofNat 8 b.val] (unmaskBank b (passRetest u s)) else failRetest u s
    else s

/-- BANK_DRAIN_TIMEOUT (R255 step 4): 100 ms after the drain began. -/
def execBankDrainTimeout (b : Fin 16) (s : State) : Res :=
  .next <|
    let x := s.pool.banks.get b
    if x.masked && !s.pool.bankIdle b && decide (x.since + 100000 ≤ s.now) then settleFabric (forceDrain b s) else s

/-! ### Queues and seals -/

/-- QUEUE_REMOVAL (R73, R74): the taken packet's place is free; a held push commits. -/
def execQueueRemoval (i : Sleeve) (s : State) : Res :=
  .next <|
    if (s.sleeve i).removing then
      modSleeve i (fun x => { x with removing := false, cmdq := x.cmdq ++ x.heldPush.map (·.1), heldPush := [] }) s
    else s

/-- The message of a stream seal (R413). -/
def State.sealMessage (s : State) (i : Sleeve) (n : Fin 4) (q : BitVec 64 × List Place) : List Byte :=
  wordBytes s.lining.boot ++ wordBytes (s.sleeve i).epoch ++ [BitVec.ofNat 8 i.val, BitVec.ofNat 8 n.val] ++
    wordBytes ((s.sleeve i).streams.get n).run ++ natBytes 8 q.1.toNat ++ s.pocketBytes i (q.2.map (·.pocket))

/-- A seal's compressions are counted to the lowest engine of every service core in service: the row names none. -/
def noteSeal (r : SealRef) : State → State :=
  modDigest (fun d => { d with engines := d.engines.mapFinIdx (fun j e hj =>
    if j % 8 = 0 && (d.cores.get ⟨4 + j / 8, by omega⟩).inSvc then { e with seals := r :: e.seals } else e) })

/-- The states of a seal whose compressions can all be made: begun, resolved, not complete, its record built. -/
def Stream.sealNow (x : Stream) (q : BitVec 64 × List Place) : Option (List Byte × List Byte) :=
  if builtFrame q.2 then match x.sealOf q.1 with
    | some z => if z.tag.isNone then z.key else none
    | none => none
  else none

/-- STREAM_SEAL_DONE (R413, R475): the seal of the first built record whose seal is not complete. -/
def execStreamSealDone (i : Sleeve) (n : Fin 4) (s : State) : Res :=
  .next <|
    let x := (s.sleeve i).streams.get n
    match x.numbered.find? (fun q => (x.sealNow q).isSome) with
    | some q => match x.sealNow q with
      | some k =>
        if s.svcUp then
          noteSeal ⟨i, n, x.run, q.1⟩ (modStream i n (putTag q.1 (some ((hmacWith 0 k.1 k.2 (s.sealMessage i n q)).take 16))) s)
        else s
      | none => s
    | none => s

end Sys2Proof.Machine
end

