-- ==== Sys2Proof/Machine/PowerRows.lean ====
section
/-! DEFINITION. Lining restore, READY, resets, DOOR, fold, wake and the TAP (chapters 16, 17 and 19). -/

namespace Sys2Proof.Machine

/-! ### Lining restore (step 4 of Table 19-1) -/

/-- The wrap unit fails its known-answer test (R490): an entry in the last-resort register, and nothing is restored. -/
def haltRestore (s : State) : State :=
  let n := (s.log.ring.getLast?.map (·.seq + 1)).getD 0
  let s := modLog (fun l => { l with next := n, alarm := true, last3 := 0x4013 }) s
  s |> modLog (fun l => { Log.lastResort (s.entryOf (mkEv s 0x4013 15 [])) l with next := n + 1 })
    |> modPower (fun p => { p with phase := .halted })

/-- The slices in the order of R519. -/
def sliceOrder : List (Fin 32) :=
  [30, 31, 26, 27, 28, 29, 20, 21, 22, 23, 24, 25, 16, 17, 18, 19, 0, 1, 2, 3, 4, 5, 6, 7, 8, 9, 10, 11, 12, 13, 14, 15]

/-- Power-up runs are queued for every slice with a unit not retired (R519, R347). -/
def queuePowerRuns (s : State) : State :=
  let due := sliceOrder.filter (fun k => (sliceUnits k).any (fun u => decide ((s.health u).st ≠ .retired)))
  forAll due (fun k => setResult k (fun x => { x with outcome := 1, req := 15 })) (modBist (fun b => { b with powerUp := due }) s)

/-- The boot epoch is the restored value + 1, and its commit goes first (R295, R558). -/
def beginBoot (s : State) : State :=
  modLining (fun l => { l with
    boot := l.boot + 1, bootDone := false, pending := ⟨.bootEpoch, .empty, false, .boot, none⟩ :: l.pending }) s

/-- The log goes on from its newest entry; LOG_OPEN and POWER_UP are its first entries; without its key it is fenced (R542,
R549, R567). -/
def openLog (s : State) : State :=
  let newest : Word := (s.log.ring.getLast?.map (·.seq)).getD 0xFFFFFFFF
  let s := modLog (fun l => { l with
    next := newest + 1
    opening := [mkEv s 0x8002 15 (wordBytes s.lining.boot ++ wordBytes newest), mkEv s 0xF070 15 (natBytes 1 s.power.cause)] }) s
  if s.log.keyOk || s.log.fenced then s else fenceLog s

/-- Retired banks and torn pockets are out of the store, and reservations follow (R253, R255, R248). -/
def maskStore (s : State) : State :=
  s |> modPool (fun p => { p with free := p.free &&& ~~~ p.torn })
    |> forAll (List.finRange 16) (fun b t => if (t.health (.bank b)).st = .retired then maskBank b t else t)
    |> recut

/-- A port's width after restore: the widest its lanes in service allow (R365). -/
def restoreWidths (s : State) : State :=
  forAll (List.finRange 3) (fun p t => modPort p (fun x => { x with width := min x.config (widest (t.lanesUp p).length) }) t) s

/-- Step 4: the records, the boot epoch, the log, the power-up runs, the patch, and a retired S0's re-test (R540). -/
def restoreAll (damage : List Damage) (s : State) : State :=
  s |> forAll damage applyDamage
    |> forAll allRecords restoreRecord
    |> beginBoot
    |> openLog
    |> maskStore
    |> restoreWidths
    |> queuePowerRuns
    |> modSupply (fun p => { p with policyOn := false })
    |> (fun t => { t with threads := t.threads.map (fun x => { x with fullDue := decide (x.health.st ≠ .retired) }) })
    |> (fun t => modPower (fun p => { p with phase := .startup, patchDone := decide (t.ports.xip.recVersion = 0) }) t)
    |> modSleeve 0 (fun x =>
        if x.health.st = .retired ∧ x.health.used < 3 then { x with health := { x.health with retest := true } } else x)

/-- LINING_RESTORE (R490, R495, R555): DOOR high at its end is an alarm at that moment. -/
def execLiningRestore (wrapKatOk doorHigh : Bool) (damage : List Damage) (s : State) : Res :=
  .next <|
    if s.power.phase ≠ .regulated then s
    else if !wrapKatOk then haltRestore s
    else when' doorHigh doorAlarm (restoreAll damage s)

/-! ### The recorded patch (R561) -/

/-- The image that F0 or F1 answers is the recorded one, and verifies. -/
def recordedImage (x : Xip) (img : List Byte) : Bool :=
  decide (img.length = x.recLen) && imageOk img && decide (imageVersion img = x.recVersion) &&
    img.drop (x.recLen - 32) == x.recTag && decide (x.recLen = 96 + imageCode img)

/-- The power-up run of a service core has passed. -/
def State.coreRan (s : State) (k : Fin 2) : Bool :=
  let sl : Fin 32 := ⟨24 + k.val, by omega⟩
  (s.digest.cores.get (svcSha k)).inSvc && !s.bist.powerUp.contains sl && !s.bist.again.contains sl &&
    !s.bist.active.any (fun r => r.slice == sl)

/-- PATCH_RECHECK (R561, R448). -/
def execPatchRecheck (core : Fin 2) (f0 f1 : List Byte) (s : State) : Res :=
  .next <|
    let x := s.ports.xip
    if s.power.phase ≠ .startup ∨ s.power.patchDone = true ∨ s.coreRan core = false then s
    else
      let s := modPower (fun p => { p with patchDone := true }) s
      let take (img : List Byte) : State → State := modXip (fun y => { y with
        version := x.recVersion, offset := x.recOffset, codeLen := imageCode img
        checks := lineChecks s.lining.boot x.recOffset img, buffer := [], f1only := [] })
      if recordedImage x f0 then take f0 (readImage false x.recOffset x.recLen s)
      else
        let s := readImage true x.recOffset x.recLen s
        if recordedImage x f1 then take f1 s else raise 0xA003 s

/-! ### READY -/

/-- Containment has decided the thread's state: its start-up test is over, or it is held (5.1.2). -/
def ThreadSt.decided (x : ThreadSt) : Bool :=
  x.railHold || match x.health.st with
    | .retired => true
    | .quarantined => x.custHold || !(x.health.retest || x.health.unhandled)
    | .inService => decide (x.test = .none) && x.passed

/-- The time from step 1, from release or from the first wake source to now, in milliseconds (Table 19-6); Tally starts with
step 3 (DESIGN CHOICE, assumption log 13). -/
def State.readyTime (s : State) : Nat :=
  min 65535 ((s.now - s.power.startAt + (if s.power.cause = 0 then Config.startUs else 0)) / 1000)

/-- READY may rise: power-up runs and start-up tests are over, and the recorded patch is judged (R555, R560, R561). -/
def State.readyDue (s : State) : Bool :=
  decide (s.power.phase = .startup) && s.powerRunsDone && (s.power.conditioned || s.power.railSkipped) &&
    allThreads.all (fun t => (s.thread t).decided) &&
    (s.power.patchDone || !([0, 1] : List (Fin 2)).any (fun k => (s.digest.cores.get (svcSha k)).inSvc))

/-- The below-floor condition is evaluated afresh from the first period after READY rises (R172). -/
def freshFloor : State → State := modFloor (fun f => { f with okSince := none })

/-- READY_RISE (R32, R33, R563): the held commands stand in their queues, in push order. -/
def execReadyRise (s : State) : Res :=
  .next <|
    if s.readyDue then
      s |> modPower (fun p => { p with phase := .serving, readyMs := s.readyTime })
        |> modSupply (fun p => { p with nextMeasure := s.now + 86400000000 })
        |> freshFloor
    else s

/-! ### RESET# (R50, R564, R566) -/

/-- EXTEST drives the pins only while RESET# is held low (Table 17-7). -/
def settleTap (s : State) : State :=
  modPower (fun p => { p with extest := decide (s.bist.ir = 0) && p.rstLow && decide (p.phase ≠ .off) }) s

/-- RESET_ASSERT. While the regulators are down it only holds the reset that follows. -/
def execResetAssert (s : State) : Res :=
  .next <| settleTap <| modPower (fun p => { p with rstLow := true }) <|
    match s.power.phase with
    | .off | .starting | .factoryTest | .inReset => s
    | _ => enterReset s

/-- RESET_RELEASE. -/
def execResetRelease (s : State) : Res :=
  .next <|
    let s := settleTap (modPower (fun p => { p with rstLow := false }) s)
    if s.power.phase = .inReset then leaveReset 1 s else s

/-! ### DOOR (R495, R497) -/

/-- DOOR_ALARM: one opening gives one alarm, from lining restore onwards. -/
def execDoorAlarm (s : State) : Res := .next (if s.lined && s.lining.armed then doorAlarm s else s)

/-- DOOR_CLOSED: the input re-arms and OPEN clears. -/
def execDoorClosed (s : State) : Res :=
  .next <|
    if s.lined && s.lining.doorOpen then raise 0xF051 (modLining (fun l => { l with armed := true, doorOpen := false }) s) else s

/-! ### Fold entry (R568, R569) -/

/-- 10 ms after a trip, commands still in flight are answered TIMEOUT, but for those whose commit has the writer (R569). -/
def foldTimeouts (s : State) : State :=
  if s.power.foldTherm && decide (s.power.foldAt + 10000 ≤ s.now) then
    forAll (s.cmds.filter (fun c => !c.granted && decide (some c.id ≠ s.power.foldCmd))).reverse timeOut s
  else s

/-- Ports A and B need no longer be driven: the FOLD reply was popped, or 10 ms have passed since it was posted (R349). -/
def State.foldOver (s : State) : Bool :=
  decide (s.power.foldAt + 10000 ≤ s.now) ||
  match s.power.foldCmd with
  | none => true
  | some id => !allSleeves.any (fun i => (s.sleeve i).replies.any (fun r => r.cmd == id))

/-- BIST stops in fold (Table 19-3). -/
def stopRuns (s : State) : State := forAll s.bist.active (fun r => endRun r 5 0 false []) s

/-- A thread is powered down: its windows are gone, and what it released and Yoke has not taken. It counts in the credited rate
as a held thread does (R172). -/
def foldThreadOff (t : Thread) (s : State) : State :=
  let s := if s.captured t then endCapture 3 s else s
  modThread t (fun x => { ThreadSt.restart x with foldOff := true, test := .none, release := [] }) s

/-- Push windows open on ports A and B end; no window is missed. -/
def closeAllWindows (s : State) : State :=
  forAll allEntries (fun q t => if (t.entry q).opened then closeWindow q t else t) s

/-- A port of fold that is off: pins high-impedance, untrained. -/
def foldPortOff (p : Fin 3) : State → State := modPort p (fun x => { x with on := false, trained := false, queue := [] })

/-- Steps 2 to 5 of R568. -/
def enterFold (s : State) : State :=
  let s := closeAllWindows (stopRuns s)
  let keep := allThreads.find? (fun t => isM t && (s.thread t).health.inSvc)
  s |> foldPortOff 0
    |> foldPortOff 1
    |> forAll (allThreads.filter (fun t => decide (some t ≠ keep))) foldThreadOff
    |> modSupply (fun p => { p with vcore := 600 })
    |> modPower (fun p => { p with phase := .fold, foldThread := keep, foldCmd := none, foldReply := false })

/-- FOLD_ENTRY: the reply once nothing else is in flight, then the entry itself. -/
def execFoldEntry (s : State) : Res :=
  .next <|
    if s.power.phase ≠ .folding then s
    else
      let s := if s.power.foldReply then s else foldReplyNow (foldTimeouts s)
      if s.power.foldReply && s.foldOver then enterFold s else s

/-! ### Wake (R570 to R576) -/

/-- WAKE_PIN (R570, R576): not while the module drives the pin. -/
def execWakePin (s : State) : Res :=
  .next <| if s.power.wakePin || (s.hostOnly && s.hot) then s else wakeSource 1 s

/-- WAKE_TIMER (R571). After a trip with THERM_ACT 01 only the host wakes (R109). -/
def execWakeTimer (s : State) : Res :=
  .next <|
    match s.power.wakeAt with
    | some t =>
      if s.power.phase = .fold ∧ t ≤ s.now then
        let s := modPower (fun p => { p with wakeAt := none }) s
        if s.hostOnly then s else wakeSource 2 s
      else s
    | none => s

/-- THERMAL_WAKE (R109): after a trip with THERM_ACT 00, below 100 degrees C. -/
def execThermalWake (s : State) : Res :=
  .next <|
    if s.power.phase = .fold ∧ s.power.foldTherm = true ∧ s.hostOnly = false ∧ s.hot = false then wakeSource 3 s else s

/-- The RESUMEs that wait for READY are answered OK, in order (R350). -/
def answerResumes (s : State) : State :=
  forAll s.power.resumes (fun id => answer id stOk []) (modPower (fun p => { p with resumes := [] }) s)

/-- WAKE_READY (R574, step 4 of Table 19-5). -/
def execWakeReady (s : State) : Res :=
  .next <|
    if s.power.phase = .waking ∧ allThreads.all (fun t => (s.thread t).decided) = true then
      s |> modPower (fun p => { p with phase := .serving, cause := 3, foldTherm := false, foldThread := none })
        |> (fun t => modPower (fun p => { p with readyMs := t.readyTime }) t)
        |> modSupply (fun p => { p with nextMeasure := s.now + 86400000000 })
        |> freshFloor
        |> answerResumes
        |> raiseD 0xF042 (natBytes 1 s.power.wakeWhy.toNat)
        |> settleFabric
    else s

/-! ### The TAP (17.7) -/

/-- Bits that must be 0: [7], [15:13] and [30:21] (Table 17-8). -/
def bistReqBitsOk (v : Word) : Bool := v &&& 0x7FE0E080 == 0

/-- The verdict on a BIST_REQ with GO (R525): none to accept it. -/
def State.bistReqVerdict (s : State) (v : Word) : Option Byte :=
  if s.power.phase ≠ .serving then some stNotReady
  else if !bistReqBitsOk v || !budgetsOk v then some stBadLength
  else if h : field v 0 7 < 32 then s.openVerdict ⟨field v 0 7, h⟩ 8
  else some stBadLength

/-- TARGET as it is written. -/
def bistReqTarget (v : Word) : State → State :=
  modBist (fun b => { b with target := if h : field v 0 7 < 32 then ⟨field v 0 7, h⟩ else b.target })

/-- BIST_REQ (R525): JTAG is requester 8. -/
def execBistReq (v : Word) (s : State) : Res :=
  .next <|
    if s.power.phase = .off ∨ s.bist.ir ≠ 0x10 then s
    else
      let s := bistReqTarget v s
      if !v.getLsbD 31 then s
      else match s.bistReqVerdict v with
        | some st => modBist (fun b => { b with verdict := st }) s
        | none => queueOpen s.bist.target 8 (argLogic v) (argAnalog v) (modBist (fun b => { b with verdict := stAccepted }) s)

/-- What Capture-DR loads into the data register of the instruction in force (Table 17-7): VERDICT and RESULT, the IDCODE, or the
one bit of BYPASS. The boundary register's cells and BIST_REQ's old content are not the module's to show: they keep what was
captured (DESIGN CHOICE, assumption log 82). -/
def Bist.captureDr (b : Bist) : List Byte :=
  if b.ir = 0x11 then b.verdict :: (b.results.get b.target).bytes
  else if b.ir = 0x02 then wordBytes idcode
  else if b.ir = 0x00 ∨ b.ir = 0x01 ∨ b.ir = 0x10 then b.captured
  else [0]

/-- BIST_STAT_CAPTURE (R6, R525): Capture-DR, at one instant. -/
def execBistStatCapture (s : State) : Res :=
  .next <| if s.power.phase = .off then s else modBist (fun b => { b with captured := b.captureDr }) s

/-- TEST_LOGIC_RESET (R524): IDCODE. -/
def execTestLogicReset (s : State) : Res :=
  .next <| if s.power.phase = .off then s else settleTap (modBist (fun b => { b with ir := 2 }) s)

/-- UPDATE_IR (R524). -/
def execUpdateIr (code : BitVec 5) (s : State) : Res :=
  .next <| if s.power.phase = .off then s else settleTap (modBist (fun b => { b with ir := code }) s)

end Sys2Proof.Machine
end

