-- ==== Sys2Proof/Machine/Flags.lean ====
section
/-! DEFINITION. What a software write leaves in a field of each concurrency class when it meets hardware (Table 0-3, R63 to R71,
Tables 2-3 to 2-5). -/

namespace Sys2Proof.Machine

/-- HS bits: a written 1 clears, and a bit that hardware sets in the commit window stays 1 (Table 2-3, R65). -/
def hsWrite {w : Nat} (old written sets : BitVec w) : BitVec w := (old &&& ~~~ written) ||| sets

/-- CT counter of `w` bits: the written value, with the concurrent increments on top, saturated (R10, R66, Table 2-4). -/
def ctWrite (w written added : Nat) : Nat := min (2 ^ w - 1) (written + added)

/-- CF start bit: the value after a write, and whether the write starts a new action (R67, R68, Table 2-5). `ends` says that the
running action completes in the window. -/
def cfWrite (old written ends : Bool) : Bool × Bool := (written && !(old && ends), written && !old)

/-- RW/ST field: the value after a write, and how many ignored writes GBL_DROPW counts (R69). -/
def stWrite (written : Nat) (hardware : Option Nat) : Nat × Nat :=
  match hardware with
  | none => (written, 0)
  | some v => (v, 1)

end Sys2Proof.Machine
end

