-- ==== Sys2Proof/Machine/RegWrites.lean ====
section
/-! DEFINITION. Register write frames: which fields of which words a write changes, under the concurrency class of each (R59,
R397 to R400, R581, R598), and the rows that write one word. -/

namespace Sys2Proof.Machine

/-! ### Hardware updates in the commit window of a word (R63) -/

/-- HS bits that hardware sets in word `i` of the frame. -/
def hwSets (i : Nat) (hw : List HwUpdate) : Word :=
  hw.foldl (fun m u => match u with
    | .setBits j k => if j = i then m ||| k else m
    | _ => m) 0

/-- What hardware adds to the counter at a bit of word `i`. -/
def hwAdds (i lsb : Nat) (hw : List HwUpdate) : Nat :=
  hw.foldl (fun n u => match u with
    | .count j l times amount => if j = i ∧ l = lsb then n + times * amount else n
    | _ => n) 0

/-- The value that hardware moves the RW/ST field of word `i` to. -/
def hwMirror (i : Nat) (hw : List HwUpdate) : Option Nat :=
  hw.foldl (fun v u => match u with
    | .mirror j x => if j = i then some x else v
    | _ => v) none

/-- What meets one word of a frame. -/
structure WordHw where
  sets   : Word
  counts : List (Nat × Nat)
  mirror : Option Nat
  deriving DecidableEq, Repr

/-- The hardware updates of word `i`, with the additions to the counters at bits 0, 8, 16 and 24. -/
def wordHw (i : Nat) (hw : List HwUpdate) : WordHw :=
  ⟨hwSets i hw, [0, 8, 16, 24].map (fun l => (l, hwAdds i l hw)), hwMirror i hw⟩

def WordHw.added (h : WordHw) (lsb : Nat) : Nat := ((h.counts.find? (fun x => x.1 == lsb)).map (·.2)).getD 0

/-- A CT counter of `width` bits at `lsb` of the word written (Table 2-4). -/
def ctField (lsb width : Nat) (v : Word) (h : WordHw) : Nat := ctWrite width (field v lsb width) (h.added lsb)

/-- HS bits at `lsb` of the word written (Table 2-3). -/
def hsField {n : Nat} (lsb : Nat) (old : BitVec n) (v : Word) (h : WordHw) : BitVec n :=
  hsWrite old (v.extractLsb' lsb n) (h.sets.extractLsb' lsb n)

/-- One HS bit. -/
def hsBit (lsb : Nat) (old : Bool) (v : Word) (h : WordHw) : Bool :=
  (hsField lsb (BitVec.ofNat 1 (bit old)) v h).getLsbD 0

/-! ### Words of the global pages (R581, R598) -/

/-- GBL_FAULT: the write that clears ALARM writes 0xF060 (R532). -/
def writeFault (v : Word) (h : WordHw) (s : State) : State :=
  let a := hsBit 0 s.log.alarm v h
  let t := modLog (fun l => { l with alarm := a, loss := hsBit 1 l.loss v h }) s
  if s.log.alarm && !a then raise 0xF060 t else t

/-- The software-reset key (R565). -/
abbrev resetKey : Word := 0x0000C35A

def write0 (w : Nat) (v : Word) (h : WordHw) (s : State) : State :=
  match w with
  | 4 => writeFault v h s
  | 9 => modLog (fun l => { l with lost := ctField 0 16 v h }) s
  | 10 => { s with dropw := ctField 0 16 v h }
  | 13 => if v = resetKey then softReset s else s
  | _ => s

/-- TLY_CFG.NOREF (R594): a write of 1 leaves REFCLK at once, with no event; a write of 0 after it starts acquisition. -/
def writeNoref (v : Word) : State → State :=
  modTally (fun t => { t with
    noref := v.getLsbD 0, ref := t.ref && !v.getLsbD 0, acqAt := if t.noref && !v.getLsbD 0 then t.now.toNat else t.acqAt })

def write1 (w : Nat) (v : Word) (h : WordHw) (s : State) : State :=
  match w with
  | 3 => writeNoref v s
  | 4 => modTally (fun t => { t with evt := hsField 0 t.evt v h }) s
  | _ => s

def write2 (w : Nat) (v : Word) (h : WordHw) (s : State) : State :=
  match w with
  | 6 => modCapture (fun c => { c with done := hsBit 7 c.done v h }) s
  | 7 => modFloor (fun f => { f with trips := ctField 0 16 v h }) s
  | 9 => modFloor (fun f => { f with evt := hsField 0 f.evt v h }) s
  | _ => s

def write3 (w : Nat) (v : Word) (h : WordHw) (s : State) : State :=
  match w with
  | 1 => modYoke (fun y => { y with blkCount := ctField 0 32 v h }) s
  | 2 => modYoke (fun y => { y with drawCount := ctField 0 32 v h }) s
  | 3 => modYoke (fun y => { y with discCount := ctField 0 16 v h }) s
  | 4 => modYoke (fun y => { y with evt := hsField 0 y.evt v h }) s
  | _ => s

def write4 (w : Nat) (v : Word) (h : WordHw) (s : State) : State :=
  match w with
  | 2 => modFabric (fun f => { f with mismatch := ctField 0 16 v h, busyRef := ctField 16 16 v h }) s
  | 3 => modFabric (fun f => { f with evt := hsField 0 f.evt v h }) s
  | _ => s

def write5 (w : Nat) (v : Word) (h : WordHw) (s : State) : State :=
  match w with
  | 6 => modPool (fun p => { p with corr := ctField 0 16 v h, uncorr := ctField 16 16 v h }) s
  | 7 => modPool (fun p => { p with evt := hsField 0 p.evt v h }) s
  | _ => s

def write6 (w : Nat) (v : Word) (h : WordHw) (s : State) : State :=
  match w with
  | 1 => modDigest (fun d => { d with katFail := ctField 0 16 v h, glitch := ctField 16 16 v h }) s
  | 2 => modDigest (fun d => { d with clrCount := ctField 0 8 v h }) s
  | 3 => modDigest (fun d => { d with evt := hsField 0 d.evt v h }) s
  | _ => s

/-- KEY_DOOR (R496): a changed ACT commits the policy record and writes 0x4020; a committed MAINT restarts its minute, and one
that meets the decrement is ignored and counted in GBL_DROPW (R69). -/
def writeDoor (v : Word) (h : WordHw) (s : State) : State :=
  let m := stWrite (field v 2 8) h.mirror
  let changed := decide (field v 0 2 ≠ s.lining.act)
  let s := modLining (fun l => { l with
    act := field v 0 2, maint := m.1 % 256, maintAt := if h.mirror.isSome then l.maintAt + 60000000 else s.now }) s
  let s := { s with dropw := satAdd 16 s.dropw m.2 }
  if changed then raise 0x4020 (pend ⟨.door, .empty, false, .door, none⟩ s) else s

def write7 (w : Nat) (v : Word) (h : WordHw) (s : State) : State :=
  match w with
  | 0 => writeDoor v h s
  | 2 => modLining (fun l => { l with wrFail := ctField 16 8 v h }) s
  | 3 => modLining (fun l => { l with evt := hsField 0 l.evt v h }) s
  | _ => s

def write8 (w : Nat) (v : Word) (h : WordHw) (s : State) : State :=
  match w with
  | 5 => modSupply (fun p => { p with evt := hsField 0 p.evt v h }) s
  | 6 => modSupply (fun p => { p with dips := ctField 0 16 v h, denied := ctField 16 16 v h }) s
  | _ => s

def write9 (w : Nat) (v : Word) (h : WordHw) (s : State) : State :=
  match w with
  | 3 =>
    s |> modPort 0 (fun p => { p with mmf := hsBit 0 p.mmf v h })
      |> modPort 1 (fun p => { p with mmf := hsBit 1 p.mmf v h })
  | 6 =>
    s |> modPort 0 (fun p => { p with fail := ctField 0 16 v h })
      |> modPort 1 (fun p => { p with fail := ctField 16 16 v h })
  | 7 => modPort 2 (fun p => { p with fail := ctField 0 16 v h }) s
  | 8 => modXip (fun x => { x with smp := field v 0 5, clk := field v 5 2 }) s
  | 9 => modXip (fun x => { x with rdcmd := v &&& 0x3FFFF }) s
  | 10 => modXip (fun x => { x with f0fail := ctField 0 16 v h, fault := ctField 16 16 v h }) s
  | w =>
    if 16 ≤ w ∧ w < 24 then modPorts (fun p => { p with pcfg := vset p.pcfg (nth8 (w - 16)) (v.extractLsb' 0 3) }) s else s

def write10 (w : Nat) (v : Word) (h : WordHw) (s : State) : State :=
  match w with
  | 3 => modBist (fun b => { b with runs := ctField 0 16 v h, fails := ctField 16 16 v h }) s
  | 4 => modBist (fun b => { b with evt := hsField 0 b.evt v h }) s
  | _ => s

def write11 (w : Nat) (v : Word) (h : WordHw) (s : State) : State :=
  match w with
  | 1 => modLog (fun l => { l with wfail := ctField 16 16 v h }) s
  | 2 => modLog (fun l => { l with overflow := ctField 16 16 v h }) s
  | _ => s

/-- One word of a global page commits; fields that are not writable ignore the write (R581). -/
def writeGlobal (page w : Nat) (v : Word) (h : WordHw) (s : State) : State :=
  match page with
  | 0 => write0 w v h s
  | 1 => write1 w v h s
  | 2 => write2 w v h s
  | 3 => write3 w v h s
  | 4 => write4 w v h s
  | 5 => write5 w v h s
  | 6 => write6 w v h s
  | 7 => write7 w v h s
  | 8 => write8 w v h s
  | 9 => write9 w v h s
  | 10 => write10 w v h s
  | 11 => write11 w v h s
  | _ => s

/-! ### Words of a sleeve page (Table 21-1) -/

def writeSleeve (i : Sleeve) (w : Nat) (v : Word) (h : WordHw) (s : State) : State :=
  match w with
  | 9 => modPS i (fun x => { x with evt := hsField 0 x.evt v h }) s
  | 12 => modSleeve i (fun x => { x with tmo := field v 0 10 }) s
  | 13 =>
    modSleeve i (fun x => { x with
      authf := ctField 0 8 v h, replay := ctField 8 8 v h, tmoCnt := ctField 16 8 v h, dup := ctField 24 8 v h }) s
  | 14 => modSleeve i (fun x => { x with undr := ctField 0 16 v h, aflt := ctField 16 16 v h }) s
  | 15 => modSleeve i (fun x => { x with alrt := hsField 0 x.alrt v h }) s
  | 21 => modSleeve i (fun x => { x with dsel := ⟨field v 24 2 % 4, Nat.mod_lt _ (by decide)⟩, dhalf := v.getLsbD 26 }) s
  | 30 => modSleeve i (fun x => { x with dgtErr := hsField 0 x.dgtErr v h }) s
  | _ => s

/-- One word commits at an absolute address (R59); word 0x1F of every page is the select's own PAGE (R393). -/
def writeWord (c : Sel) (addr : Nat) (v : Word) (h : WordHw) (s : State) : State :=
  let page := addr / 32
  let w := addr % 32
  if w = 31 then modSel c (fun x => { x with page := v.extractLsb' 0 8 }) s
  else if page < 16 then writeGlobal page w v h s
  else writeSleeve (nth8 (page - 16)) w v h s

/-- The words of a frame commit in ascending order; nothing follows a software reset. -/
def writeWords (c : Sel) (base : Nat) (hw : List HwUpdate) : Nat → List Word → State → State
  | _, [], s => s
  | k, v :: r, s =>
    let t := writeWord c (base + k) v (wordHw k hw) s
    if base + k = 13 ∧ v = resetKey then t else writeWords c base hw (k + 1) r t

/-- Index of the first word of a frame that is forbidden, or that writes a PAGE the requester may not read (R397). -/
def State.offending (s : State) (c : Sel) (base : Nat) (data : List Word) : Option Nat :=
  (List.range data.length).find? (fun k => !s.mayWrite c (base + k) (data.getD k 0))

/-- A WRITE_REG frame (R397 to R400, Table 13-10); `good`: its CRC passes. -/
def writeFrame (f : FrameIn) (good : Bool) (word : Fin 32) (data : List Word) (hw : List HwUpdate) (s : State) : State :=
  let c := f.sel
  if !s.serves c then drive c [] [] s
  else
    let s := trackLanes f s
    if f.aborted then drive c [] [] s
    else
      let s := if good then s else crcFailed f false s
      let base := 32 * (s.sel c).page.toNat + word.val
      if s.early c || s.foldM c then endFrame c [] stNotReady 0 s
      else if !good then endFrame c [] trCrcFail 0 s
      else match s.offending c base data with
        | some k => noteAccess c (endFrame c [] stAccessFault k s)
        | none => writeWords c base hw 0 data (endFrame c [] stOk 0 s)

/-- WRITE_REG (R397). -/
def execWriteReg (f : FrameIn) (word : Fin 32) (data : List Word) (hw : List HwUpdate) (s : State) : Res :=
  .next (writeFrame f (crcOk f (cmdByte 1 word) (BitVec.ofNat 8 (data.length - 1)) (wordsBytes data)) word data hw s)

/-! ### Rows that write one word -/

/-- A one-word write frame whose select shows the page of the register; with another page shown it is not this row's event
(DESIGN CHOICE, assumption log 7). -/
def writeOne (c : Sel) (page : Nat) (word : Fin 32) (v : Word) (hw : List HwUpdate) (s : State) : State :=
  if (s.sel c).page.toNat = page then writeFrame ⟨c, 0, false, []⟩ true word [v] hw s else s

/-- GBL_RST_WRITE (R565). -/
def execGblRstWrite (c : Sel) (v : Word) (s : State) : Res := .next (writeOne c 0 13 v [] s)

/-- KEY_DOOR_ACT_WRITE (R496). -/
def execKeyDoorActWrite (c : Sel) (v : Word) (s : State) : Res := .next (writeOne c 7 0 v [] s)

/-- KEY_DOOR_MAINT_WRITE (R69, R496). -/
def execKeyDoorMaintWrite (c : Sel) (v : Word) (dec : Bool) (s : State) : Res :=
  .next (writeOne c 7 0 v (if dec && decide (0 < s.lining.maint) then [.mirror 0 (s.lining.maint - 1)] else []) s)

/-- MAINT_MINUTE (R496): at each 60 s after the write that set it. -/
def execMaintMinute (s : State) : Res :=
  .next <|
    if 0 < s.lining.maint ∧ s.lining.maintAt + 60000000 ≤ s.now then
      modLining (fun l => { l with maint := l.maint - 1, maintAt := l.maintAt + 60000000 }) s
    else s

/-- GBL_FAULT_ALARM_ACK (R532). -/
def execGblFaultAlarmAck (c : Sel) (v : Word) (alarm : Bool) (s : State) : Res :=
  .next (writeOne c 0 4 v (if alarm then [.setBits 0 1] else []) s)

/-- MMF_CLEAR (R433). -/
def execMmfClear (c : Sel) (v : Word) (again : BitVec 2) (s : State) : Res :=
  .next (writeOne c 9 3 v [.setBits 0 (again.setWidth 32)] s)

/-- TLY_CFG_NOREF_WRITE (R594). -/
def execTlyCfgNorefWrite (c : Sel) (v : Word) (s : State) : Res := .next (writeOne c 1 3 v [] s)

end Sys2Proof.Machine
end

