-- ==== Sys2Proof/Machine/Service.lean ====
section
/-! DEFINITION. The service path's rows: engines, known-answer compressions, core faults, clearings, and the lining entries'
checks (15.1, 15.6, R462, R483). -/

namespace Sys2Proof.Machine

/-- The service core of an engine (R453). -/
def engineCore (e : Fin 16) : Fin 2 := ⟨e.val / 8, by omega⟩

def modEngine (e : Fin 16) (f : Engine → Engine) : State → State := modDigest (fun d => { d with engines := vmod d.engines e f })

/-- A service core is in service and powered: in fold only the lowest-numbered one in service is (R568). -/
def State.svcOn (s : State) (k : Fin 2) : Bool :=
  (s.digest.cores.get (svcSha k)).inSvc &&
    (decide (s.power.phase ≠ .fold) || decide (k = 0) || !(s.digest.cores.get (svcSha 0)).inSvc)

/-! ### Known-answer compressions and faults (R456 to R458) -/

/-- A known-answer compression is due on an engine: after 64 compressions, or 100 us after the last where it has compressed. -/
def Engine.katDue (x : Engine) (now : Nat) : Bool := decide (64 ≤ x.since) || (decide (0 < x.since) && decide (x.katAt + 100 ≤ now))

/-- SVC_KAT (R456): SHA-256 and SHA-512 in turn; a mismatch faults the core. -/
def execSvcKat (e : Fin 16) (pass : Bool) (s : State) : Res :=
  .next <|
    let k := engineCore e
    if !s.svcOn k then s
    else
      let s := modEngine e (fun x => { x with katAt := s.now, alt := !x.alt }) s
      if pass then modEngine e (fun x => { x with since := 0, suspects := [], seals := [] }) s
      else svcFault k 0x3001 (modDigest (fun d => { d with katFail := satAdd 16 d.katFail 1, evt := d.evt ||| 0x01 }) s)

/-- SVC_CORE_FAULT (R457): a transient fault of a service core, quarantined with its suspect work handled. -/
def execSvcCoreFault (k : Fin 2) (s : State) : Res :=
  .next <| if (s.digest.cores.get (svcSha k)).bist then s else svcFault k 0x3001 s

/-- SVC_RETEST_END (R458). -/
def execSvcRetestEnd (k : Fin 2) (pass : Bool) (s : State) : Res :=
  .next <|
    let u := UnitRef.sha (svcSha k)
    let h := s.health u
    if h.st = .quarantined ∧ h.retest = true ∧ h.bist = false then
      if pass && s.recovers u then raiseD 0x3002 [BitVec.ofNat 8 (4 + k.val)] (passRetest u s) else failRetest u s
    else s

/-! ### Grants (R29, R455, R467, R468) -/

/-- Contexts with a block to compress, in the order of the rounds: sleeves from the one after the last served, then a sleeve's
contexts likewise. -/
def State.hashRounds (s : State) : List (Sleeve × Fin 4) :=
  let sl := (List.range 8).map (fun d => nth8 (s.digest.lastSleeve.val + 1 + d))
  sl.flatMap (fun i =>
    ((List.range 4).map (fun d => (⟨((s.digest.lastCtx.get i).val + 1 + d) % 4, Nat.mod_lt _ (by decide)⟩ : Fin 4))).map
      (fun k => (i, k)))

/-- The context that the element grants next. -/
def State.nextContext (s : State) : Option (Sleeve × Fin 4) := s.hashRounds.find? (fun c => (s.ctx c.1 c.2).hasWork)

/-- One block of a context on an engine (R455); the work is suspect until the engine's next passed test (R457). -/
def grantBlock (e : Fin 16) (i : Sleeve) (k : Fin 4) (s : State) : State :=
  let s := modCtx i k s.stepCtx s
  let s := modEngine e (fun x => { x with
    since := x.since + 1, suspects := (i, k) :: x.suspects.filter (· != (i, k)) }) s
  let s := modDigest (fun d => { d with lastSleeve := i, lastCtx := vset d.lastCtx i k }) s
  let s := finishCtx i k s
  drainCtx i k (s.ctx i k).waitq.length s

/-- A stream's seals that wait for their compressions: begun, resolved, not complete (R475). -/
def Stream.sealWaits (x : Stream) : Nat := (x.seals.filter (fun z => z.key.isSome && z.tag.isNone)).length

/-- Jobs that the engines grant before log verification and the sleeves' hashing: the chain of the entry in hand, and stream
seals (R29). MACs and patch checks are done within their own commands. -/
def State.rankedAbove (s : State) : Nat :=
  bit (s.log.hand.isSome && !s.logSusp) + (allEntries.map (fun q => ((s.sleeve q.1).streams.get q.2).sealWaits)).sum

/-- Engines of the service cores in service. -/
def State.enginesUp (s : State) : Nat := 8 * bit (s.svcOn 0) + 8 * bit (s.svcOn 1)

/-- SERVICE_ENGINE_GRANT (R455): log verification before the sleeves' hashing; none while a clearing runs, the engine's
known-answer compression is due (R456) or every engine has a job that ranks above (R29; DESIGN CHOICE, assumption log 49). -/
def execServiceEngineGrant (e : Fin 16) (s : State) : Res :=
  .next <|
    if !s.svcOn (engineCore e) || s.digest.clearing || (s.digest.engines.get e).katDue s.now ||
        decide (s.enginesUp ≤ s.rankedAbove) then s
    else if s.log.verify.isSome then finishVerify (modEngine e (fun x => { x with since := x.since + 1 }) s)
    else match s.nextContext with
      | some (i, k) => grantBlock e i k s
      | none => s

/-! ### Clearings (R477 to R479) -/

/-- SERVICE_BUS_ERROR (R477): a clearing, and a fault of the core whose engine is involved. -/
def execServiceBusError (engine : Option (Fin 16)) (s : State) : Res :=
  .next <|
    let s := raise 0x3011 (clearService 1 s)
    match engine with
    | some e => if (s.digest.cores.get (svcSha (engineCore e))).bist then s else svcFault (engineCore e) 0x3001 s
    | none => s

/-- Seals in progress start again, and resolve their keys again (R479 step 5). -/
def restartSeals (s : State) : State :=
  forAll allEntries (fun q =>
    settleChain q.1 q.2 ∘ modStream q.1 q.2 (fun y => { y with seals := y.seals.filter (·.tag.isSome) })) s

/-- SERVICE_CLEARED (R478, R479): every context idle, every digest command not yet posted BAD_OPCODE, internal work begun
again. -/
def execServiceCleared (s : State) : Res :=
  .next <|
    if !s.digest.clearing then s
    else
      let ids := allSleeves.flatMap (fun i => allFours.flatMap (fun k => (s.ctx i k).commands))
      s |> modDigest (fun d => { d with
            contexts := Vector.replicate 8 (Vector.replicate 4 .reset), clearing := false, evt := d.evt ||| 0x08
            engines := d.engines.map (fun e => { e with suspects := [] }) })
        |> forAll allSleeves (fun i => dgtErr i 0x04)
        |> forAll ids (fun id => answer id stBadOpcode [])
        |> restartSeals
        |> raise 0x3010

/-! ### Lining checks (R462, R483) -/

/-- The context whose work reads a slot's state now: at its first compression, or at its outer one. -/
def State.slotReader (s : State) (k : Fin 32) : Option (Fin 4) :=
  let i : Sleeve := ⟨k.val / 4, by omega⟩
  allFours.find? (fun c =>
    let x := s.ctx i c
    x.hmac == some k && x.cmd.isSome && (x.chain.isEmpty || x.final))

/-- The seal of a stream under a slot that started last, where it is not complete, does not resolve. -/
def unkeySeal (k : Fin 32) (x : Stream) : Stream :=
  let mine := x.numbered.filter (fun q => q.2.any (fun p => decide (patKey p.pat0 = k)) && (x.sealOf q.1).isSome &&
    (x.sealTag q.1).isNone)
  match mine.getLast? with
  | some q => { x with seals := x.seals.map (fun z => if z.record == q.1 then { z with key := none } else z) }
  | none => x

/-- The reading operation of a slot's fault is answered FENCED; with no such command a seal that has just started reads it, and
does not resolve. -/
def failSlotReader (k : Fin 32) (s : State) : State :=
  let i : Sleeve := ⟨k.val / 4, by omega⟩
  match s.slotReader k with
  | some c => answerOpt (s.ctx i c).cmd stFenced [] (modCtx i c (fun y => { y with cmd := none }) s)
  | none =>
    forAll allFours (fun n => settleChain i n ∘ modStream i n (unkeySeal k)) s

/-- The slot is reloaded from its journal copy; while a zeroization is pending nothing is (R498). -/
def reloadSlot (k : Fin 32) (s : State) : State :=
  if s.lining.zeroPend then modSlot k (fun x => { x with hash := 0, inner := [], outer := [] }) s else reloadRecord (.slot k) s

/-- SLOT_LINING_FAULT (R462): the reading operation is answered FENCED, and the slot is quarantined; the reload that is its
re-test ends with the next tick of Tally (DESIGN CHOICE, assumption log 48). -/
def execSlotLiningFault (k : Fin 32) (copyOk : Bool) (s : State) : Res :=
  .next <|
    let u := UnitRef.slot k
    if (s.health u).st = .retired then s
    else
      s |> modDigest (fun d => { d with evt := d.evt ||| 0x10 })
        |> failSlotReader k
        |> clearSlotContexts k
        |> modSlot k (fun x => { x with copyOk := copyOk })
        |> faultUnit u 0x4005 (k.val / 4) [BitVec.ofNat 8 k.val]

/-- The reload of a quarantined slot ends (R462, R528). -/
def endSlotReload (k : Fin 32) (s : State) : State :=
  let u := UnitRef.slot k
  let h := s.health u
  if h.st = .quarantined ∧ h.retest = true then
    if (s.slot k).copyOk && s.recovers u then passRetest u (reloadSlot k s) else failRetest u s
  else s

/-- The reloads that instances and slots wait for end (R219, R462). -/
def endReloads (s : State) : State :=
  forAll (List.finRange 32) endSlotReload (forAll allEntries (fun q => endInstReload q.1 q.2) s)

/-- Reload one entry from its MRAM copy. A route is applied as a change would be; a key gone from SRAM for a pending
zeroization stays gone (R498). -/
def reloadEntry (r : RecId) (s : State) : State :=
  let x := s.restorePair (s.pair r)
  match r with
  | .inst _ _ | .slot _ => s
  | .route => match x.body with
    | some (.route rs) => applyRoutes (listVec 10 ⟨0, 0⟩ rs) s
    | _ => s
  | .cmdKey _ => if s.lining.zeroPend then s else loadRecord r x s
  | _ => loadRecord r x (loadEpoch r x s)

/-- LINING_CHECK_FAIL (R483): a policy, unit or epoch entry, or a command or log key, is reloaded, with event 0x4010. The
entries of instances and slots have rows of their own. -/
def execLiningCheckFail (r : RecId) (s : State) : Res :=
  .next <|
    match r with
    | .inst _ _ | .slot _ => s
    | _ =>
      if s.lined then raise 0x4010 (modLining (fun l => { l with evt := l.evt ||| 0x04 }) (reloadEntry r s)) else s

end Sys2Proof.Machine
end

