-- ==== Sys2Proof/Machine/Threads.lean ====
section
/-! DEFINITION. Samples, the continuous tests' windows, re-tests, the start-up tests, the rail and the entropy floor (chapters 4
and 5). -/

namespace Sys2Proof.Machine

/-! ### The fold thread (R145) -/

/-- The fold thread was quarantined: it is off like every other, and the next M-thread in service is powered and runs a start-up
test (R145, Table 4-8). -/
def foldTakeover (s : State) : State :=
  if s.power.phase ≠ .fold then s
  else match s.power.foldThread with
    | none => s
    | some t =>
      if (s.thread t).health.st = .inService then s
      else
        let s := modThread t (fun x => { ThreadSt.restart x with foldOff := true, test := .none }) s
        let next (k : Thread) : Bool := isM k && decide (t.val < k.val) && (s.thread k).health.inSvc && (s.thread k).foldOff
        match allThreads.filter next with
        | k :: _ => modPower (fun p => { p with foldThread := some k })
            (startFull k (modThread k (fun x => { x with foldOff := false }) s))
        | [] => modPower (fun p => { p with foldThread := none }) s

/-- A trip, and what follows for a thread that was under test or that fold relies on. -/
def tripNow (t : Thread) (kind : Nat) (s : State) : State := foldTakeover (trip t kind s)

/-! ### Full windows -/

/-- Whole bytes of a bit list, first bit in bit 7, and the bits left. -/
def takeBytes : Nat → List Bool → List Byte × List Bool
  | 0, bs => ([], bs)
  | n + 1, bs =>
    if bs.length < 8 then ([], bs)
    else
      let r := takeBytes n (bs.drop 8)
      (packBits (bs.take 8) :: r.1, r.2)

/-- Release a closed window's samples to Yoke, in order; what the release buffer cannot hold is discarded (R152, R187). -/
def releaseWindow (t : Thread) (s : State) : State :=
  if s.delivers t then
    modThread t (fun x =>
      let r := takeBytes 200 (x.bits ++ x.heldBack.reverse)
      { x with release := (x.release ++ r.1).take (max x.release.length Config.releaseBytes), bits := r.2 }) s
  else modThread t (fun x => { x with bits := [] }) s

/-- Close the adaptive proportion window once it holds 1024 samples (R152, R155). -/
def closeApt (t : Thread) (s : State) : State :=
  if (s.thread t).test = .none ∧ (s.thread t).aptPos = 1024 then
    modThread t (fun x => { x with aptPos := 0, aptCount := 0, heldBack := [] }) (releaseWindow t s)
  else s

/-- End the drift window once it holds 4096 samples (R156, R157). -/
def closeDrift (t : Thread) (s : State) : State :=
  let x := s.thread t
  if x.driftPos = 4096 then
    let d := driftFigure x
    let s := modThread t (fun y => { y with driftPos := 0, driftOnes := 0, driftPairs := 0 }) s
    if driftCutoff t ≤ d then tripNow t 2 s else s
  else s

/-- Event 0x5055 and YOK_EVT.LOWCRED once for each fall below 100 permille (R183). -/
def noteLowCredit (t : Thread) (s : State) : State :=
  let low := decide (s.creditBit t < 100)
  let was := (s.thread t).lowCred
  let s := modThread t (fun x => { x with lowCred := low, release := if low then [] else x.release }) s
  if low && !was then raiseD 0x5055 [BitVec.ofNat 8 t.val] (modYoke (fun y => { y with evt := y.evt ||| 0x8 }) s) else s

/-- End the live-estimate block once it holds 65,536 samples (R158, R159, R161). -/
def closeEstimate (t : Thread) (s : State) : State :=
  let x := s.thread t
  if x.estPos = 65536 then
    let e := blockEstimate x.estOnes x.estPairs.toList
    let s := modThread t (fun y => { y with
      estPos := 0, estOnes := 0, estPairs := Vector.replicate 4 0, ests := (e :: y.ests).take 4 }) s
    let s := noteLowCredit t s
    if e < estTrip t then tripNow t 3 s else s
  else s

/-- The threshold after a block of the servo: one step towards balance where the ones lie outside 1/2 ± 1/64 (R122). -/
def servoStepTo (servo ones : Nat) : Nat :=
  if 32768 + 1024 < ones then min 127 (servo + 1) else if ones < 32768 - 1024 then servo - 1 else servo

/-- End an A-thread's servo block once it holds 65,536 samples; 16 blocks at an end of the range are a trip (R122, R123). -/
def closeServo (t : Thread) (s : State) : State :=
  let x := s.thread t
  if isM t || decide (x.servoPos ≠ 65536) then s
  else
    let v := servoStepTo x.servo x.servoOnes
    let n := if v = 0 ∨ v = 127 then x.servoEnd + 1 else 0
    let s := if v ≠ x.servo ∧ s.captured t = true then
        modCapture (fun c => { c with servoSteps := min 65535 (c.servoSteps + 1) }) s
      else s
    let s := modThread t (fun y => { y with servo := v, servoPos := 0, servoOnes := 0, servoEnd := if 16 ≤ n then 0 else n }) s
    if 16 ≤ n then tripNow t 6 s else s

/-! ### Tests -/

/-- A thread passed its test: its continuous windows begin afresh, and it may be credited (R638). -/
def passThread (t : Thread) : State → State :=
  modThread t (fun x => { ThreadSt.fresh x with
    test := .none, testPos := 0, testBad := false, secondTry := false, passed := true, capHold := false })

/-- A quarantined thread fails its re-test, or trips in it: it is retired. -/
def failQuarantined (t : Thread) (s : State) : State :=
  if (s.thread t).custHold then tripNow t 4 (modThread t (fun x => { ThreadSt.fresh x with test := .none }) s)
  else foldTakeover (failRetest (.thread t) (modThread t ThreadSt.fresh s))

/-- A quarantined thread passes its re-test: event 0x5030, and service unless the custodian holds it (Table 5-3). What it had
released before the fence is not credited (R164). A fault during the re-test retires it, also where the handler has not yet
taken it (R167). -/
def passQuarantined (t : Thread) (s : State) : State :=
  if (s.thread t).custHold then modThread t (fun x => { ThreadSt.fresh x with test := .none, passed := false }) s
  else if s.recovers (.thread t) then
    raiseD 0x5030 [BitVec.ofNat 8 t.val]
      (passRetest (.thread t) (modThread t (fun x => { x with release := [] }) (passThread t s)))
  else failQuarantined t s

/-- A full start-up test at power-up or on wake fails: the thread is quarantined, or stays so, for its one 1024-sample re-test,
with event 0x5024 (R150). -/
def startupFail (t : Thread) (s : State) : State :=
  s |> noteTrip t 4
    |> modThread t (fun x => { ThreadSt.fresh x with test := .none, passed := false, secondTry := true })
    |> modHealth (.thread t) (fun h => { h with st := .quarantined, retest := false, unhandled := true, again := false })
    |> offerUnit (.thread t) 0x5024 15 [BitVec.ofNat 8 t.val]
    |> foldTakeover

/-- A 1024-sample test of a thread in service fails: it is handled as a trip (R140). -/
def failInService (t : Thread) (s : State) : State :=
  tripNow t 4 (modThread t (fun x => { ThreadSt.fresh x with test := .none, passed := false }) s)

/-- The THREAD_READMIT that waits for a retired thread's readmission. -/
def State.readmitCmd (s : State) (t : Thread) : Option Nat :=
  (s.cmds.find? (fun c => c.op == 0x52 && decide (field c.arg 0 4 = t.val))).map (·.id)

/-- A readmission's start-up test fails: event 0x5024, and the thread stays retired (R150, R169). -/
def failReadmission (t : Thread) (s : State) : State :=
  let cmd := s.readmitCmd t
  answerOpt cmd stFenced [] <| raiseD 0x5024 [BitVec.ofNat 8 t.val] <| noteTrip t 4 <|
    modThread t (fun x => { ThreadSt.fresh x with test := .none, readmit := false, passed := false }) s

/-- Whether the test in progress has its 1024 samples, or has tripped. -/
def ThreadSt.testOver (x : ThreadSt) : Bool := x.testBad || decide (x.testPos = 1024)

/-- One sample of a test (R148): the repetition count, and the test's own window. -/
def testStep (t : Thread) (b : Bool) (x : ThreadSt) : ThreadSt :=
  let y := aptStep b (rctStep b x)
  { y with testPos := x.testPos + 1, testBad := decide (rctCutoff t ≤ y.rctCount) || decide (aptCutoff t ≤ y.aptCount) }

/-- A sample of a thread under test: one that trips a quarantined thread's re-test retires it at once (R167). Under capture the
trip is also counted there (R137). -/
def sampleTest (t : Thread) (b : Bool) (s : State) : State :=
  let x := s.thread t
  if x.testOver then s
  else
    let s := modThread t (testStep t b) s
    let y := s.thread t
    if !y.testBad then s
    else if s.captured t then tripCaptured t (if rctCutoff t ≤ y.rctCount then 0 else 1) s
    else if decide (x.health.st = .quarantined) && x.health.retest && decide (x.test = .short) then failQuarantined t s
    else s

/-- Every continuous test sees the sample (R151): a full adaptive proportion count starts a new window with the next sample
(R155). -/
def runStep (t : Thread) (b : Bool) (x : ThreadSt) : ThreadSt :=
  let y := estStep b (driftStep b (aptStep b (rctStep b x)))
  if y.aptCount = aptCutoff t then { y with aptPos := 0, aptCount := 0, heldBack := [] } else { y with heldBack := b :: y.heldBack }

/-- A sample of a thread that no test holds: a trip is the repetition count's on the sample that brings the count to its cutoff,
else the adaptive proportion test's (R154, R155, 5.2.3 item 1). -/
def sampleRun (t : Thread) (b : Bool) (s : State) : State :=
  let x := aptStep b (rctStep b (s.thread t))
  let s := modThread t (runStep t b) s
  if x.rctCount = rctCutoff t then tripNow t 0 s
  else if x.aptCount = aptCutoff t then tripNow t 1 s
  else s

/-- The capture takes the sample (R136, R138); after the last of a restart the thread is held for 10 us before the next restart's
first (R132). -/
def sampleCapture (t : Thread) (code : BitVec 4) (s : State) : State :=
  if s.captured t && decide (s.capture.taken < s.capture.total) then
    let h := if s.capture.started then [] else s.captureHeader
    modCapture (fun c =>
      let d := Capture.take { c with bytes := c.bytes ++ h, started := true } code
      if d.restartsAt d.taken then { d with holdUntil := s.now + 10 } else d) s
  else s

/-- THREAD_SAMPLE (R116, R121, R151): windows that are full are closed first. While a full test injects its conditions the code is
a trial's result and goes nowhere else (R118, Table 5-1). -/
def threadSample (t : Thread) (code : BitVec 4) (s : State) : State :=
  let x := s.thread t
  if !s.samples t || x.health.bist then s
  else if x.injecting t then
    if x.testOver then s else modThread t (checkStep t s.now code.toNat) s
  else if decide (x.test = .full) && decide (s.now < x.settleAt) then s
  else
    let b := code.getLsbD 0
    let s := modThread t (fun x => { x with count := x.count + 1 }) s
    let s := closeServo t (closeEstimate t (closeDrift t (closeApt t s)))
    let s := sampleCapture t code s
    let s := if isM t then s else modThread t (servoStep b) s
    if (s.thread t).test = .none then sampleRun t b s else sampleTest t b s

def execThreadSample (t : Thread) (code : BitVec 4) (s : State) : Res := .next (threadSample t code s)

/-- APT_WINDOW_CLOSE (R152). -/
def execAptWindowClose (t : Thread) (s : State) : Res := .next (closeApt t s)

/-- DRIFT_WINDOW_END (R156). -/
def execDriftWindowEnd (t : Thread) (s : State) : Res := .next (closeDrift t s)

/-- ESTIMATE_BLOCK_END (R161). -/
def execEstimateBlockEnd (t : Thread) (s : State) : Res := .next (closeEstimate t s)

/-- SERVO_BLOCK_END (R122, R123). -/
def execServoBlockEnd (t : Thread) (s : State) : Res := .next (closeServo t s)

/-- THREAD_STALL (4.1.3, R140, R162): no sample for 10 us; not while a reapplied junction bias settles. -/
def execThreadStall (t : Thread) (s : State) : Res :=
  .next <|
    if !s.samples t || (s.thread t).health.bist || decide ((s.thread t).test = .full) && decide (s.now < (s.thread t).settleAt) then s
    else
      let s := if s.captured t then modThread t (fun x => { x with test := .none }) (endCapture 3 s) else s
      let x := s.thread t
      match x.health.st with
      | .retired => if x.readmit then failReadmission t s else s
      | .quarantined => if x.health.retest then failQuarantined t s else tripNow t 5 s
      | .inService => tripNow t 5 (modThread t (fun y => { y with test := .none, passed := false }) s)

/-- THREAD_RETEST_END (R148, R162): the end of a 1024-sample test. -/
def execThreadRetestEnd (t : Thread) (s : State) : Res :=
  .next <|
    let x := s.thread t
    if x.test ≠ .short ∨ x.testOver = false then s
    else match x.health.st, x.testBad with
      | .quarantined, false => passQuarantined t s
      | .quarantined, true => failQuarantined t s
      | .inService, false => passThread t s
      | .inService, true => failInService t s
      | .retired, _ => modThread t (fun y => { ThreadSt.fresh y with test := .none }) s

/-- STARTUP_TEST_END (R147, R150, R169 step 3): the end of a full start-up test, once its two parts are over or one has
failed. -/
def execStartupTestEnd (t : Thread) (_ : Unit) (s : State) : Res :=
  .next <|
    let x := s.thread t
    if x.test ≠ .full ∨ x.testOver = false then s
    else if x.readmit then
      if x.testBad then failReadmission t s
      else
        requestCommit ⟨.threads, .empty, false, .readmit (.thread t), s.readmitCmd t⟩
          (modThread t (fun y => { ThreadSt.fresh y with test := .none }) s)
    else match x.health.st, x.testBad with
      | .inService, false => passThread t s
      | .inService, true => startupFail t s
      | .quarantined, false => passQuarantined t s
      | .quarantined, true => if x.custHold then failQuarantined t s else startupFail t s
      | .retired, _ => modThread t (fun y => { ThreadSt.fresh y with test := .none }) s

/-! ### The avalanche rail (R126, R559, R560) -/

/-- The rail lies within 19.6 to 20.4 V. -/
def railGood (rail10mV : Nat) : Bool := decide (1960 ≤ rail10mV) && decide (rail10mV ≤ 2040)

/-- AVALANCHE_RAIL_UP (step 6 of Table 19-1): conditioning begins. -/
def execAvalancheRailUp (rail10mV : Nat) (s : State) : Res :=
  .next <|
    if s.live && !s.supply.railUp && !s.power.railSkipped && railGood rail10mV then
      modSupply (fun p => { p with rail10mV := rail10mV, railOk := true, railUp := true }) s
    else s

/-- RAIL_STARTUP_TIMEOUT (R560): 250 ms after step 3 without the rail, the A-threads' runs are skipped and they are held. -/
def execRailStartupTimeout (rail10mV : Nat) (s : State) : Res :=
  .next <|
    if s.power.phase = .startup && decide (250000 ≤ s.now) && !railGood rail10mV && !s.power.conditioned && !s.power.railSkipped then
      s |> modSupply (fun p => { p with rail10mV := rail10mV, railOk := false })
        |> modPower (fun p => { p with railSkipped := true })
        |> modBist (fun b => { b with powerUp := b.powerUp.filter (fun k => !(12 ≤ k.val && k.val < 16)) })
        |> holdRail
        |> startTests
    else s

/-- The A-threads' holds by the rail end. -/
def unholdRail (s : State) : State :=
  forAll aThreads (fun t u => restartTest t (modThread t (fun x => { x with railHold := false }) u)) s

/-- JUNCTION_CONDITIONING_DONE (R559, R560): the runs of T12 to T15 may start; after a late rail they are queued now. -/
def execJunctionConditioningDone (s : State) : Res :=
  .next <|
    if s.live && s.supply.railOk && !s.power.conditioned then
      let late := s.power.railSkipped
      let runs := ((List.finRange 32).filter (fun k => 12 ≤ k.val && k.val < 16)).filter
        (fun k => (sliceUnits k).any (fun u => decide ((s.health u).st ≠ .retired)))
      s |> modPower (fun p => { p with conditioned := true })
        |> when' late (modBist (fun b => { b with powerUp := b.powerUp ++ runs }))
        |> forAll aThreads (fun t => modThread t (fun x => { x with railHold := false, test := .none, passed := false }))
        |> startTests
    else s

/-- A_RAIL_HOLD (R126): out of the window for 10 us. A rail that leaves its window again during a hold starts the 1 ms of R126
over. -/
def execARailHold (rail10mV : Nat) (s : State) : Res :=
  .next <|
    if s.live && !s.supply.ride && !railGood rail10mV then
      let s := modSupply (fun p => { p with rail10mV := rail10mV, railOutAt := s.now }) s
      if s.supply.railOk then holdRail (modSupply (fun p => { p with railOk := false }) s) else s
    else s

/-- A_RAIL_OK (R126, R560): back in the window for 1 ms; the A-threads re-test, or, where their junctions have not been
conditioned, wait for that. -/
def execARailOk (rail10mV : Nat) (s : State) : Res :=
  .next <|
    if s.live && !s.supply.railOk && !s.supply.ride && railGood rail10mV && (s.supply.railUp || s.power.railSkipped) &&
        decide (s.supply.railOutAt + 1000 ≤ s.now) then
      let s := raise 0x5002 (modSupply (fun p => { p with rail10mV := rail10mV, railOk := true, railUp := true }) s)
      if s.power.conditioned then unholdRail s else s
    else s

/-- CAPTURE_END (R140): the last sample was taken. -/
def execCaptureEnd (s : State) : Res :=
  .next <| if s.capture.active && s.capture.taken == s.capture.total then endCapture 0 s else s

/-! ### The floor (R172 to R176) -/

/-- The raw rate of a thread, in samples per 20 us, at the end of a period of `us` microseconds; a held thread keeps that of its
last period before the hold (R173). -/
def ThreadSt.endPeriod (us : Nat) (x : ThreadSt) : ThreadSt :=
  { x with rate := if x.railHold || x.rideHold || x.foldOff then x.rate else 20 * x.count / us, count := 0 }

/-- FLOOR_RATIO_UPDATE (R172, R173): 20 us of Tally time have passed. -/
def execFloorRatioUpdate (_ : Unit) (s : State) : Res :=
  .next <|
    let us := s.now - s.floor.periodAt
    if !(s.running || decide (s.power.phase = .fold)) || decide (us < 20) then s
    else
      judgeFloor (showFloor (modFloor (fun f => { f with periodAt := s.now })
        { s with threads := s.threads.map (ThreadSt.endPeriod us) }))

/-- FLOOR_RESTORED (R176): the ratio has held for 10 ms. -/
def execFloorRestored (s : State) : Res :=
  .next <|
    match s.floor.okSince with
    | some t =>
      if s.ready && s.floor.below && decide (t + 10000 ≤ s.now) then
        settleFabric (raise 0x5041 (modFloor (fun f => { f with below := false }) s))
      else s
    | none => s

end Sys2Proof.Machine
end

