-- ==== Sys2Proof/Machine/Dispatch.lean ====
section
/-! DEFINITION. The meaning of every command, one arm per constructor. -/

namespace Sys2Proof.Machine

def exec (i : Instr) (s : State) : Host.Outcome State Fault Refusal :=
  match i with
  | .ping t => Sys2Proof.Machine.execPing t s
  | .identify t => Sys2Proof.Machine.execIdentify t s
  | .getStatus t => Sys2Proof.Machine.execGetStatus t s
  | .setRoute t => Sys2Proof.Machine.execSetRoute t s
  | .setQuota t => Sys2Proof.Machine.execSetQuota t s
  | .resetSleeve t => Sys2Proof.Machine.execResetSleeve t s
  | .instantiate t => Sys2Proof.Machine.execInstantiate t s
  | .uninstantiate t => Sys2Proof.Machine.execUninstantiate t s
  | .reseed t => Sys2Proof.Machine.execReseed t s
  | .generate t => Sys2Proof.Machine.execGenerate t s
  | .generatePr t => Sys2Proof.Machine.execGeneratePr t s
  | .getSeed t => Sys2Proof.Machine.execGetSeed t s
  | .setPriority t => Sys2Proof.Machine.execSetPriority t s
  | .patternWrite t => Sys2Proof.Machine.execPatternWrite t s
  | .patternCommit t => Sys2Proof.Machine.execPatternCommit t s
  | .patternRead t => Sys2Proof.Machine.execPatternRead t s
  | .streamStart t => Sys2Proof.Machine.execStreamStart t s
  | .streamStop t => Sys2Proof.Machine.execStreamStop t s
  | .digestBegin t => Sys2Proof.Machine.execDigestBegin t s
  | .digestUpdate t => Sys2Proof.Machine.execDigestUpdate t s
  | .digestFinal t => Sys2Proof.Machine.execDigestFinal t s
  | .digestSave t => Sys2Proof.Machine.execDigestSave t s
  | .digestRestore t => Sys2Proof.Machine.execDigestRestore t s
  | .digestCompare t => Sys2Proof.Machine.execDigestCompare t s
  | .keyLoad t => Sys2Proof.Machine.execKeyLoad t s
  | .keyErase t => Sys2Proof.Machine.execKeyErase t s
  | .keyInfo t => Sys2Proof.Machine.execKeyInfo t s
  | .sleeveKeyUpdate t => Sys2Proof.Machine.execSleeveKeyUpdate t s
  | .threadStatus t => Sys2Proof.Machine.execThreadStatus t s
  | .threadQuarantine t => Sys2Proof.Machine.execThreadQuarantine t s
  | .threadReadmit t => Sys2Proof.Machine.execThreadReadmit t s
  | .setCredit t => Sys2Proof.Machine.execSetCredit t s
  | .rawCapture t => Sys2Proof.Machine.execRawCapture t s
  | .bistRun t => Sys2Proof.Machine.execBistRun t s
  | .bistRunReadmit t => Sys2Proof.Machine.execBistRunReadmit t s
  | .bistResult t => Sys2Proof.Machine.execBistResult t s
  | .setPowerPolicy t => Sys2Proof.Machine.execSetPowerPolicy t s
  | .fold t => Sys2Proof.Machine.execFold t s
  | .resume t => Sys2Proof.Machine.execResume t s
  | .getPower t => Sys2Proof.Machine.execGetPower t s
  | .logRead t => Sys2Proof.Machine.execLogRead t s
  | .logReadLr t => Sys2Proof.Machine.execLogReadLr t s
  | .logMark t => Sys2Proof.Machine.execLogMark t s
  | .logVerify t => Sys2Proof.Machine.execLogVerify t s
  | .pushScheduleRearm t => Sys2Proof.Machine.execPushScheduleRearm t s
  | .pushScheduleReepoch t => Sys2Proof.Machine.execPushScheduleReepoch t s
  | .pushScheduleSuspend t => Sys2Proof.Machine.execPushScheduleSuspend t s
  | .pushStatus t => Sys2Proof.Machine.execPushStatus t s
  | .laneConfig t => Sys2Proof.Machine.execLaneConfig t s
  | .linkTrain t => Sys2Proof.Machine.execLinkTrain t s
  | .patchLoad t f0 f1 => Sys2Proof.Machine.execPatchLoad t f0 f1 s
  | .writeReg f word data hw => Sys2Proof.Machine.execWriteReg f word data hw s
  | .pushCmd f head packet => Sys2Proof.Machine.execPushCmd f head packet s
  | .popReply sel pop => Sys2Proof.Machine.execPopReply sel pop s
  | .streamRead sel stream records => Sys2Proof.Machine.execStreamRead sel stream records s
  | .status f => Sys2Proof.Machine.execStatus f s
  | .train sel seen completed => Sys2Proof.Machine.execTrain sel seen completed s
  | .reservedFrame sel => Sys2Proof.Machine.execReservedFrame sel s
  | .pwrWakewhyRead f => Sys2Proof.Machine.execPwrWakewhyRead f s
  | .tlyNowlRead f => Sys2Proof.Machine.execTlyNowlRead f s
  | .gblRstWrite sel v => Sys2Proof.Machine.execGblRstWrite sel v s
  | .keyDoorActWrite sel v => Sys2Proof.Machine.execKeyDoorActWrite sel v s
  | .keyDoorMaintWrite sel v dec => Sys2Proof.Machine.execKeyDoorMaintWrite sel v dec s
  | .maintMinute => Sys2Proof.Machine.execMaintMinute s
  | .gblFaultAlarmAck sel v alarm => Sys2Proof.Machine.execGblFaultAlarmAck sel v alarm s
  | .mmfClear sel v again => Sys2Proof.Machine.execMmfClear sel v again s
  | .tlyCfgNorefWrite sel v => Sys2Proof.Machine.execTlyCfgNorefWrite sel v s
  | .vinStartQualified vinMv dnc => Sys2Proof.Machine.execVinStartQualified vinMv dnc s
  | .regulatorsUp ioSelOpen hold10mV => Sys2Proof.Machine.execRegulatorsUp ioSelOpen hold10mV s
  | .liningRestore wrapKatOk doorHigh damage => Sys2Proof.Machine.execLiningRestore wrapKatOk doorHigh damage s
  | .avalancheRailUp rail10mV => Sys2Proof.Machine.execAvalancheRailUp rail10mV s
  | .railStartupTimeout rail10mV => Sys2Proof.Machine.execRailStartupTimeout rail10mV s
  | .junctionConditioningDone => Sys2Proof.Machine.execJunctionConditioningDone s
  | .patchRecheck core f0 f1 => Sys2Proof.Machine.execPatchRecheck core f0 f1 s
  | .readyRise => Sys2Proof.Machine.execReadyRise s
  | .bootEpochCommit => Sys2Proof.Machine.execBootEpochCommit s
  | .brownout vinMv => Sys2Proof.Machine.execBrownout vinMv s
  | .overvoltageDisconnect vinMv => Sys2Proof.Machine.execOvervoltageDisconnect vinMv s
  | .vinHigh vinMv => Sys2Proof.Machine.execVinHigh vinMv s
  | .vinDip vinMv => Sys2Proof.Machine.execVinDip vinMv s
  | .rideExpiry vinMv => Sys2Proof.Machine.execRideExpiry vinMv s
  | .resetAssert => Sys2Proof.Machine.execResetAssert s
  | .resetRelease => Sys2Proof.Machine.execResetRelease s
  | .doorAlarm => Sys2Proof.Machine.execDoorAlarm s
  | .zeroization => Sys2Proof.Machine.execZeroization s
  | .doorClosed => Sys2Proof.Machine.execDoorClosed s
  | .wakePin => Sys2Proof.Machine.execWakePin s
  | .wakeTimer => Sys2Proof.Machine.execWakeTimer s
  | .thermalWake => Sys2Proof.Machine.execThermalWake s
  | .wakeReady => Sys2Proof.Machine.execWakeReady s
  | .foldEntry => Sys2Proof.Machine.execFoldEntry s
  | .refclkFound windows => Sys2Proof.Machine.execRefclkFound windows s
  | .refclkLost => Sys2Proof.Machine.execRefclkLost s
  | .oscMeasure err => Sys2Proof.Machine.execOscMeasure err s
  | .bistReq v => Sys2Proof.Machine.execBistReq v s
  | .bistStatCapture => Sys2Proof.Machine.execBistStatCapture s
  | .commandTimeout id held => Sys2Proof.Machine.execCommandTimeout id held s
  | .beltPeriod b => Sys2Proof.Machine.execBeltPeriod b s
  | .dieTempSample dieT => Sys2Proof.Machine.execDieTempSample dieT s
  | .holdMeasureDue => Sys2Proof.Machine.execHoldMeasureDue s
  | .holdMeasureDone capUf short => Sys2Proof.Machine.execHoldMeasureDone capUf short s
  | .floorRatioUpdate nothing => Sys2Proof.Machine.execFloorRatioUpdate nothing s
  | .floorRestored => Sys2Proof.Machine.execFloorRestored s
  | .threadSample t code => Sys2Proof.Machine.execThreadSample t code s
  | .aptWindowClose t => Sys2Proof.Machine.execAptWindowClose t s
  | .driftWindowEnd t => Sys2Proof.Machine.execDriftWindowEnd t s
  | .estimateBlockEnd t => Sys2Proof.Machine.execEstimateBlockEnd t s
  | .servoBlockEnd t => Sys2Proof.Machine.execServoBlockEnd t s
  | .threadStall t => Sys2Proof.Machine.execThreadStall t s
  | .threadRetestEnd t => Sys2Proof.Machine.execThreadRetestEnd t s
  | .startupTestEnd t nothing => Sys2Proof.Machine.execStartupTestEnd t nothing s
  | .aRailHold rail10mV => Sys2Proof.Machine.execARailHold rail10mV s
  | .aRailOk rail10mV => Sys2Proof.Machine.execARailOk rail10mV s
  | .captureEnd => Sys2Proof.Machine.execCaptureEnd s
  | .yokeTakeByte => Sys2Proof.Machine.execYokeTakeByte s
  | .blockToCore => Sys2Proof.Machine.execBlockToCore s
  | .conditioningDone k => Sys2Proof.Machine.execConditioningDone k s
  | .stagingTimeout k => Sys2Proof.Machine.execStagingTimeout k s
  | .condKatEnd k pass => Sys2Proof.Machine.execCondKatEnd k pass s
  | .reservoirGrant drawer => Sys2Proof.Machine.execReservoirGrant drawer s
  | .pocketGrant core => Sys2Proof.Machine.execPocketGrant core s
  | .updateLaneGrant core counter => Sys2Proof.Machine.execUpdateLaneGrant core counter s
  | .aesMismatch m => Sys2Proof.Machine.execAesMismatch m s
  | .aesRetestEnd core pass => Sys2Proof.Machine.execAesRetestEnd core pass s
  | .instLiningFault sl kk copyOk => Sys2Proof.Machine.execInstLiningFault sl kk copyOk s
  | .bookingAllowed op => Sys2Proof.Machine.execBookingAllowed op s
  | .pocketClaim claim => Sys2Proof.Machine.execPocketClaim claim s
  | .pocketFree p => Sys2Proof.Machine.execPocketFree p s
  | .pocketTorn p r => Sys2Proof.Machine.execPocketTorn p r s
  | .bankEccStorm b errors => Sys2Proof.Machine.execBankEccStorm b errors s
  | .bankScrub b pass => Sys2Proof.Machine.execBankScrub b pass s
  | .bankDrainTimeout b => Sys2Proof.Machine.execBankDrainTimeout b s
  | .queueRemoval sl => Sys2Proof.Machine.execQueueRemoval sl s
  | .streamSealDone sl n => Sys2Proof.Machine.execStreamSealDone sl n s
  | .crcBurst p lane => Sys2Proof.Machine.execCrcBurst p lane s
  | .pushWindowStart sl e => Sys2Proof.Machine.execPushWindowStart sl e s
  | .pushProbe sl e bus => Sys2Proof.Machine.execPushProbe sl e bus s
  | .masterTransfer p bus => Sys2Proof.Machine.execMasterTransfer p bus s
  | .pushSpanEnd sl e => Sys2Proof.Machine.execPushSpanEnd sl e s
  | .multiMaster m => Sys2Proof.Machine.execMultiMaster m s
  | .xipFetch addr f0 f1 => Sys2Proof.Machine.execXipFetch addr f0 f1 s
  | .journalCommitGrant waiting => Sys2Proof.Machine.execJournalCommitGrant waiting s
  | .journalCommitMarker => Sys2Proof.Machine.execJournalCommitMarker s
  | .journalReadbackFail => Sys2Proof.Machine.execJournalReadbackFail s
  | .pendingRetry => Sys2Proof.Machine.execPendingRetry s
  | .liningCheckFail r => Sys2Proof.Machine.execLiningCheckFail r s
  | .svcKat engine pass => Sys2Proof.Machine.execSvcKat engine pass s
  | .svcCoreFault core => Sys2Proof.Machine.execSvcCoreFault core s
  | .svcRetestEnd core pass => Sys2Proof.Machine.execSvcRetestEnd core pass s
  | .slotLiningFault k copyOk => Sys2Proof.Machine.execSlotLiningFault k copyOk s
  | .serviceBusError engine => Sys2Proof.Machine.execServiceBusError engine s
  | .serviceCleared => Sys2Proof.Machine.execServiceCleared s
  | .bistSliceStart => Sys2Proof.Machine.execBistSliceStart s
  | .bistDrainDone slice => Sys2Proof.Machine.execBistDrainDone slice s
  | .bistRunEnd slice parts => Sys2Proof.Machine.execBistRunEnd slice parts s
  | .bistQueueTimeout => Sys2Proof.Machine.execBistQueueTimeout s
  | .bistOvertempAbandon slice => Sys2Proof.Machine.execBistOvertempAbandon slice s
  | .faultEvent code source data => Sys2Proof.Machine.execFaultEvent code source data s
  | .errorsLostSweep => Sys2Proof.Machine.execErrorsLostSweep s
  | .logWrite rowFails => Sys2Proof.Machine.execLogWrite rowFails s
  | .sleeveFault sl => Sys2Proof.Machine.execSleeveFault sl s
  | .sleeveRetestEnd sl pass => Sys2Proof.Machine.execSleeveRetestEnd sl pass s
  | .serviceEngineGrant engine => Sys2Proof.Machine.execServiceEngineGrant engine s
  | .resultWindowRead f => Sys2Proof.Machine.execResultWindowRead f s
  | .holdCharged => Sys2Proof.Machine.execHoldCharged s
  | .vinHighEnd => Sys2Proof.Machine.execVinHighEnd s
  | .testLogicReset => Sys2Proof.Machine.execTestLogicReset s
  | .updateIr code => Sys2Proof.Machine.execUpdateIr code s

end Sys2Proof.Machine
end

