-- ==== Sys2Proof/Machine/Idle.lean ====
section
/-! DEFINITION. What passes on an empty queue: one microsecond of Tally (R589), with the stopped execution timeouts of
commands whose ports retrain (R311). -/

namespace Sys2Proof.Machine

/-- A port whose selects route to the sleeve is retraining (R311): it is powered, not retired and untrained. -/
def State.retraining (s : State) (i : Sleeve) : Bool :=
  (List.finRange 3).any fun p =>
    let x := s.ports.ports.get p
    s.onPort i p && x.on && !x.trained && decide (x.health.st ≠ .retired)

/-- A command's timeout stops: a port of its sleeve retrains, or the port that it retrains itself does (R311, R357). -/
def State.stopsTimer (s : State) (c : Cmd) : Bool :=
  s.retraining c.sl || s.ports.ports.toList.any (fun x =>
    x.waiters.contains c.id && x.on && !x.trained && decide (x.health.st ≠ .retired))

/-- One microsecond of a command's timeout: while it is stopped, for at most 5 ms in total, its deadline moves on (R311). -/
def tickCmd (stopped : Bool) (c : Cmd) : Cmd :=
  if stopped && decide (c.frozenUs < 5000) then
    { c with frozen := true, frozenUs := c.frozenUs + 1, deadline := c.deadline + 1 }
  else c

/-- A microsecond passes in Tally and in the commands' timeouts. -/
def passMicrosecond (s : State) : State :=
  { s with
    tally := { s.tally with now := s.tally.now + 1 }
    cmds := s.cmds.map (fun c => tickCmd (s.stopsTimer c) c) }

/-- A tick of Tally, while it runs: reloads from journal copies are over with it. -/
def idle (s : State) : State := if s.tally.running then endReloads (passMicrosecond s) else s

end Sys2Proof.Machine
end

