-- ==== Sys2Proof/Safety.lean ====
section
/-! DEFINITION. The terms in which claims about the module are stated: the parts that few commands change, the invariant of the
whole state, a packet that Tailor admits, the reply it gets, and an event given to the fault handler. -/

namespace Sys2Proof

/-! ### Kinds of commands -/

/-- The commands that may change a kept part: those that power, reset or restore the module, the journal writer's and the log
writer's, Belt's, Tally's sources, and the register write frames. -/
def Instr.changesKept : Instr → Bool
  | .regulatorsUp _ _ | .liningRestore _ _ _ | .resetAssert | .resetRelease | .gblRstWrite _ _ | .writeReg _ _ _ _
  | .tlyCfgNorefWrite _ _ | .brownout _ | .overvoltageDisconnect _ | .rideExpiry _ | .bootEpochCommit
  | .journalCommitMarker | .journalReadbackFail | .zeroization | .logWrite _ | .beltPeriod _ | .refclkFound _ | .refclkLost
  | .oscMeasure _ | .foldEntry | .liningCheckFail _ => true
  | _ => false

/-- The take of an SCP row, and the opcodes it takes; none for a row of another kind. -/
def Instr.scp : Instr → Option (Take × (Byte → Word → Bool))
  | .ping t => some (t, fun op _ => op == 0x00 || !Machine.opDefined op)
  | .identify t => some (t, fun op _ => op == 0x01)
  | .getStatus t => some (t, fun op _ => op == 0x02)
  | .setRoute t => some (t, fun op _ => op == 0x03)
  | .setQuota t => some (t, fun op _ => op == 0x04)
  | .resetSleeve t => some (t, fun op _ => op == 0x05)
  | .instantiate t => some (t, fun op _ => op == 0x10)
  | .uninstantiate t => some (t, fun op _ => op == 0x11)
  | .reseed t => some (t, fun op _ => op == 0x12)
  | .generate t => some (t, fun op _ => op == 0x13)
  | .generatePr t => some (t, fun op _ => op == 0x14)
  | .getSeed t => some (t, fun op _ => op == 0x15)
  | .setPriority t => some (t, fun op _ => op == 0x16)
  | .patternWrite t => some (t, fun op _ => op == 0x20)
  | .patternCommit t => some (t, fun op _ => op == 0x21)
  | .patternRead t => some (t, fun op _ => op == 0x22)
  | .streamStart t => some (t, fun op _ => op == 0x23)
  | .streamStop t => some (t, fun op _ => op == 0x24)
  | .digestBegin t => some (t, fun op _ => op == 0x30)
  | .digestUpdate t => some (t, fun op _ => op == 0x31)
  | .digestFinal t => some (t, fun op _ => op == 0x32)
  | .digestSave t => some (t, fun op _ => op == 0x33)
  | .digestRestore t => some (t, fun op _ => op == 0x34)
  | .digestCompare t => some (t, fun op _ => op == 0x35)
  | .keyLoad t => some (t, fun op _ => op == 0x40)
  | .keyErase t => some (t, fun op _ => op == 0x41)
  | .keyInfo t => some (t, fun op _ => op == 0x42)
  | .sleeveKeyUpdate t => some (t, fun op _ => op == 0x43)
  | .threadStatus t => some (t, fun op _ => op == 0x50)
  | .threadQuarantine t => some (t, fun op _ => op == 0x51)
  | .threadReadmit t => some (t, fun op _ => op == 0x52)
  | .setCredit t => some (t, fun op _ => op == 0x53)
  | .rawCapture t => some (t, fun op _ => op == 0x54)
  | .bistRun t => some (t, fun op arg => op == 0x60 && !arg.getLsbD 7)
  | .bistRunReadmit t => some (t, fun op arg => op == 0x60 && arg.getLsbD 7)
  | .bistResult t => some (t, fun op _ => op == 0x61)
  | .setPowerPolicy t => some (t, fun op _ => op == 0x70)
  | .fold t => some (t, fun op _ => op == 0x71)
  | .resume t => some (t, fun op _ => op == 0x72)
  | .getPower t => some (t, fun op _ => op == 0x73)
  | .logRead t => some (t, fun op arg => op == 0x80 && !arg.getLsbD 7)
  | .logReadLr t => some (t, fun op arg => op == 0x80 && arg.getLsbD 7)
  | .logMark t => some (t, fun op _ => op == 0x81)
  | .logVerify t => some (t, fun op _ => op == 0x82)
  | .pushScheduleRearm t => some (t, fun op arg => op == 0x90 && (field arg 8 2 == 0 || field arg 8 2 == 3))
  | .pushScheduleReepoch t => some (t, fun op arg => op == 0x90 && field arg 8 2 == 1)
  | .pushScheduleSuspend t => some (t, fun op arg => op == 0x90 && field arg 8 2 == 2)
  | .pushStatus t => some (t, fun op _ => op == 0x91)
  | .laneConfig t => some (t, fun op _ => op == 0x92)
  | .linkTrain t => some (t, fun op _ => op == 0x93)
  | .patchLoad t _ _ => some (t, fun op _ => op == 0xA0)
  | _ => none

/-- The take of an SCP row. -/
def Instr.take (c : Instr) : Option Take := c.scp.map (·.1)

/-- An SCP row takes this opcode with this ARG. -/
def Instr.takesOp (c : Instr) (op : Byte) (arg : Word) : Bool :=
  match c.scp with
  | some (_, kind) => kind op arg
  | none => false

end Sys2Proof

namespace Sys2Proof.Machine

/-! ### The whole state -/

/-- The parts that few commands change. -/
structure Kept where
  pending : List Instr
  tally   : Tally
  mram    : List Pair
  vcore   : Nat
  ring    : List LogEntry
  policy  : Word
  routes  : Vector Route 10
  factors : Vector Nat 16
  pct     : Nat
  secrets : Word
  boot    : Word

/-- The kept parts of a state. -/
def State.kept (s : State) : Kept :=
  ⟨s.pending, s.tally, s.lining.mram, s.supply.vcore, s.log.ring, s.supply.policy, s.ports.routes, s.yoke.factors, s.floor.pct,
    s.lining.secrets, s.lining.boot⟩

/-- The invariant of the module's state: VCORE is off or within 0.60 to 0.95 V (R51), Tally stands at 0 while it does not run,
counts on REFCLK only where that is present and not disabled (20.3), the lining lists each record once in rising order, and no
two log entries share a row (R541). -/
structure Sound (s : State) : Prop where
  vcore   : s.supply.vcore = 0 ∨ (600 ≤ s.supply.vcore ∧ s.supply.vcore ≤ 950)
  stopped : s.tally.running = false → s.tally.now = 0 ∧ s.tally.ref = false
  refused : s.tally.noref = true → s.tally.ref = false
  present : s.tally.ref = true → s.tally.present = true
  records : (s.lining.mram.map (fun p => recPlace p.record)).Pairwise (· < ·)
  rows    : (s.log.ring.map LogEntry.row).Nodup

/-! ### Packets and replies -/

/-- Tailor finds this packet of this opcode at the head of the sleeve's queue, may take it in its round (R282), and steps 1 to 9
of Table 10-3 pass. -/
structure Admitted (t : Take) (op : Byte) (p : Packet) (s : State) : Prop where
  head   : (s.sleeve t.sl).cmdq.head? = some p
  opcode : p.op = op
  may    : s.mayTake t.sl = true
  turn   : s.turn t.sl = true
  checks : s.intakeFail t.sl p = none
  mac    : p.auth = true → t.cmp = .clean ∧ s.macOf t.sl p = p.mac
  fresh  : (s.sleeve t.sl).cache.find? (fun e => e.tag == p.tag && e.seq == p.seq) = none
  inSeq  : (s.sleeve t.sl).seqOk p.seq = true

/-- The command that a packet becomes (R307). -/
def State.cmdOf (s : State) (i : Sleeve) (p : Packet) : Cmd where
  id := s.nextCmd
  sl := i
  op := p.op
  tag := p.tag
  seq := p.seq
  arg := p.arg
  header := p.bytes.take 12
  params := p.params
  sealed := p.sealed
  echo := p.echo
  retry := p.retry
  frozen := false
  frozenUs := 0
  deadline := s.now + (s.sleeve i).tmoUs
  granted := false
  accepted := false

/-- The state in which an admitted packet's opcode begins: the sleeve is served in the round, the packet has left the queue, its
number is consumed, and its command is accepted, in flight and in the cache (R282, R302, R304). -/
def State.takenBy (s : State) (i : Sleeve) (p : Packet) : State :=
  modCmd s.nextCmd (fun k => { k with accepted := true })
    (modSleeve i (fun x => { SleeveSt.accept x s.nextCmd p.tag p.seq with cmdq := x.cmdq.drop 1, removing := true })
      { noteTake i s with cmds := s.cmdOf i p :: s.cmds, nextCmd := s.nextCmd + 1 })

/-- The newest reply of a sleeve answers a packet: its status, its payload behind the echoed header, no pockets, and neither
cached nor gone; it carries a seal or NOSEAL only where the packet asked for one. -/
def Replied (i : Sleeve) (p : Packet) (st : Byte) (payload : List Byte) (s t : State) : Prop :=
  ∃ r : Reply, (t.sleeve i).replies = (s.sleeve i).replies ++ [r] ∧ r.status = st ∧ r.tag = p.tag ∧ r.seq = p.seq ∧
    r.retry = p.retry ∧ r.payload = (if p.echo then p.bytes.take 12 else []) ++ payload ∧ r.pockets = [] ∧ r.pocketLen = 0 ∧
    r.cached = false ∧ r.gone = false ∧ (p.sealed = false → r.sealTag = [] ∧ r.noseal = false)

/-- From `s` to `t` one packet was taken and answered and nothing else happened: `t` is `s` but for the packet, the reply, the
sequence window and the cache of its sleeve, Tailor's round, and the numbering of commands. -/
def OnlyAnswered (i : Sleeve) (s t : State) : Prop :=
  t = { s with
    sleeves := vset s.sleeves i { s.sleeve i with
      cmdq := (s.sleeve i).cmdq.drop 1, removing := true, replies := (t.sleeve i).replies, seqHi := (t.sleeve i).seqHi
      consumed := (t.sleeve i).consumed, cache := (t.sleeve i).cache }
    cmds := s.cmds.filter (fun c => c.id != s.nextCmd), nextCmd := s.nextCmd + 1, taken := (noteTake i s).taken }

/-- A packet's command ended in an executed status and had no effect but its reply: its number stays consumed (R302). -/
def Answered (i : Sleeve) (p : Packet) (st : Byte) (payload : List Byte) (s t : State) : Prop :=
  Replied i p st payload s t ∧ OnlyAnswered i s t ∧
    (t.sleeve i).seqHi = ((s.sleeve i).accept s.nextCmd p.tag p.seq).seqHi ∧
    (t.sleeve i).consumed = ((s.sleeve i).accept s.nextCmd p.tag p.seq).consumed

/-- The newest reply of a sleeve: its status, tag and number, with this payload behind the echoed header. Other commands may
have been answered before it in the same step. -/
def LastReply (i : Sleeve) (p : Packet) (st : Byte) (payload : List Byte) (t : State) : Prop :=
  ∃ r : Reply, (t.sleeve i).replies.getLast? = some r ∧ r.status = st ∧ r.tag = p.tag ∧ r.seq = p.seq ∧
    r.payload = (if p.echo then p.bytes.take 12 else []) ++ payload ∧ r.cached = false ∧ r.gone = false

/-- The operation enters the fabric behind every operation admitted before it, and takes tags (R223, R224). -/
def State.entered (o : Op) (tags : Nat) (s : State) : State :=
  { s with fabric := { s.fabric with
      ops := s.fabric.ops ++ [{ o with id := s.fabric.nextOp }], nextOp := s.fabric.nextOp + 1
      held := vset s.fabric.held o.sl (s.fabric.held.get o.sl + tags) } }

/-! ### Frames -/

/-- The custodian's select is served, shows this page, and its write frames are admitted (Table 13-3, Table 13-10). -/
def State.custodian (s : State) (c : Sel) (page : Nat) : Bool :=
  s.serves c && !s.early c && !s.foldM c && decide (s.role c = 1) && decide (s.selSleeve c = 0) &&
    decide ((s.sel c).page.toNat = page)

/-- The trailer of a frame on a select (R403): its status, its detail, and the select's frame counter before the frame. -/
def State.trailer (s : State) (c : Sel) (st : Byte) (detail : Nat) : List Byte :=
  [st, BitVec.ofNat 8 detail] ++ natBytes 2 (s.sel c).frames.toNat

end Sys2Proof.Machine
end

