-- ==== Sys2Proof/Certificates/Slice0/Obligations.lean ====
section
/-! DEFINITION. The claims about the module for the provers, from the numbered rules of the spec. -/

open Sys2Proof Sys2Proof.Machine


/-! ### The block -/

/-- A step runs the command at the front of the queue on the state with the queue's rest. -/
def Obligations.StepRunsFront : Prop :=
  ∀ (c : Instr) (r : List Instr) (s : State), s.pending = c :: r → step s = exec c { s with pending := r }

/-- On an empty queue Tally, while it runs, passes one microsecond; where no instance or slot reloads from a journal copy
nothing else changes but, while a port retrains, the stopped timeouts of commands (R589, R311, R357). That a tick
takes the place of an idle step is the model's choice (DESIGN CHOICE, assumption log 9). -/
def Obligations.StepTicks : Prop :=
  ∀ s : State, s.pending = [] → ∃ u, step s = .next u ∧
    (s.tally.running = false → u = s) ∧
    (s.tally.running = true → u.kept = { s.kept with tally := { s.tally with now := s.tally.now + 1 } } ∧
      ((∀ i k, (s.inst i k).health.retest = false) → (∀ k, (s.slot k).health.retest = false) →
        u = { s with tally := { s.tally with now := s.tally.now + 1 }, cmds := u.cmds } ∧
        ((∀ c ∈ s.cmds, s.stopsTimer c = false) → u.cmds = s.cmds) ∧
        u.cmds.map (fun c => (c.id, c.sl, c.tag, c.seq)) = s.cmds.map (fun c => (c.id, c.sl, c.tag, c.seq))))

/-- No command stops the model, and none changes the queue of waiting commands. -/
def Obligations.ExecKeepsQueue : Prop := ∀ (c : Instr) (s : State), ∃ u, exec c s = .next u ∧ u.pending = s.pending

/-- A command outside the list of `Instr.changesKept` leaves Tally, MRAM, VCORE, the log's ring, the power policy, the
routes, the credit factors, the floor, the secrets epoch and the boot epoch as they are. -/
def Obligations.KeptUnlessListed : Prop :=
  ∀ (c : Instr) (s u : State), c.changesKept = false → exec c s = .next u → u.kept = s.kept

/-- The invariant holds in the module as shipped. -/
def Obligations.ResetSound : Prop := Sound State.reset

/-- Every step keeps the invariant of `Sound`: VCORE is off or within 0.60 to 0.95 V, a stopped Tally reads 0, the lining
lists each record once in rising order and no two log entries share a row. -/
def Obligations.StepSound : Prop := ∀ s u : State, Sound s → step s = .next u → Sound u

/-- The module as shipped is off: READY is low, no packet, reply or command waits, no instance is owned, no reservoir
unit, no route but the defaults of R392, and each PAGE register holds its reset value (R393). -/
def Obligations.ResetState : Prop :=
  State.reset.power.phase = .off ∧ State.reset.ready = false ∧
  (∀ i, (State.reset.sleeve i).cmdq = [] ∧ (State.reset.sleeve i).replies = [] ∧ (State.reset.sleeve i).seqHi = 0) ∧
  (∀ i k, (State.reset.inst i k).owned = false) ∧ State.reset.yoke.reservoir = [] ∧ State.reset.cmds = [] ∧
  (∀ c : Sel, State.reset.route c = if c.val = 9 then ⟨0, 3⟩ else if c.val = 8 then ⟨0, 1⟩ else ⟨nth8 c.val, 1⟩) ∧
  (∀ c : Sel, (State.reset.sel c).page = if (State.reset.route c).role = 1 then
    BitVec.ofNat 8 (0x10 + (State.reset.route c).sl.val) else 0)

/-! ### Packets: intake, sequence numbers and the cache -/

/-- A packet that fails one of steps 1 to 7 of Table 10-3 is answered with that step's status and has no other effect than
the counters and the event of AUTH_FAIL: its number is not consumed, whatever row takes it. A row does nothing where
Tailor may not take a packet of its sleeve, where the present round has served the sleeve and leaves another to serve
(R282), or where no packet of its opcode stands first: the model's rule for events whose precondition fails (DESIGN
CHOICE, assumption log 7). -/
def Obligations.IntakeRefuses : Prop :=
  (∀ (c : Instr) (t : Take) (p : Packet) (st : Byte) (s : State),
     c.take = some t → (s.sleeve t.sl).cmdq.head? = some p → c.takesOp p.op p.arg = true → s.mayTake t.sl = true →
     s.turn t.sl = true →
     s.intakeFail t.sl p = some st →
     ∃ u r, exec c s = .next u ∧ r.status = st ∧ r.tag = p.tag ∧ r.seq = p.seq ∧
       r.payload = (if p.echo then p.bytes.take 12 else []) ∧ r.sealTag = [] ∧
       (u.sleeve t.sl).replies = (s.sleeve t.sl).replies ++ [r] ∧ (u.sleeve t.sl).seqHi = (s.sleeve t.sl).seqHi ∧
       (u.sleeve t.sl).authf = (if st = stAuthFail then satAdd 8 (s.sleeve t.sl).authf 1 else (s.sleeve t.sl).authf) ∧
       ((∀ e ∈ (s.sleeve t.sl).cache, e.cmd ≠ s.nextCmd) →
         (u.sleeve t.sl).cache = (s.sleeve t.sl).cache ∧ (u.sleeve t.sl).consumed = (s.sleeve t.sl).consumed) ∧
       u = { s with
         sleeves := vset s.sleeves t.sl { s.sleeve t.sl with
           cmdq := (s.sleeve t.sl).cmdq.drop 1, removing := true, replies := (s.sleeve t.sl).replies ++ [r]
           authf := (u.sleeve t.sl).authf, lastAuth := (u.sleeve t.sl).lastAuth
           consumed := (u.sleeve t.sl).consumed, cache := (u.sleeve t.sl).cache }
         cmds := s.cmds.filter (fun k => k.id != s.nextCmd), nextCmd := s.nextCmd + 1, taken := (noteTake t.sl s).taken
         log := u.log }) ∧
  (∀ (c : Instr) (t : Take) (s : State), c.take = some t →
     (s.mayTake t.sl = false ∨ s.turn t.sl = false ∨ (s.sleeve t.sl).cmdq.head?.all (fun p => !c.takesOp p.op p.arg) = true) →
     exec c s = .next s)

/-- Steps 8 and 9 of Table 10-3 on a packet that passed steps 1 to 7, whatever row takes it: a comparator that glitches or
a MAC that does not match is AUTH_FAIL; a number that R301 does not accept is REPLAY, and counted; a retransmit of a
command in flight is absorbed and counted, with no reply (Table 10-5). -/
def Obligations.IntakeJudges : Prop :=
  ∀ (c : Instr) (t : Take) (p : Packet) (s : State),
    c.take = some t → (s.sleeve t.sl).cmdq.head? = some p → c.takesOp p.op p.arg = true → s.mayTake t.sl = true →
    s.turn t.sl = true →
    s.intakeFail t.sl p = none →
    (p.auth = true → t.cmp ≠ .clean → (∀ i k, s.nextCmd ∉ (s.ctx i k).commands) →
      ∃ u, exec c s = .next u ∧ LastReply t.sl p stAuthFail [] u ∧ (u.sleeve t.sl).seqHi = (s.sleeve t.sl).seqHi ∧
        u.digest.glitch = min 65535 (s.digest.glitch + 1) ∧ u.digest.evt.getLsbD 2 = true) ∧
    (p.auth = true → t.cmp = .clean → s.macOf t.sl p ≠ p.mac →
      ∃ u, exec c s = .next u ∧ Replied t.sl p stAuthFail [] s u ∧
        (u.sleeve t.sl).authf = satAdd 8 (s.sleeve t.sl).authf 1 ∧ (u.sleeve t.sl).seqHi = (s.sleeve t.sl).seqHi) ∧
    ((p.auth = true → t.cmp = .clean ∧ s.macOf t.sl p = p.mac) →
      (s.sleeve t.sl).cache.find? (fun e => e.tag == p.tag && e.seq == p.seq) = none →
      (s.sleeve t.sl).seqOk p.seq = false →
      ∃ u, exec c s = .next u ∧ Replied t.sl p stReplay [] s u ∧
        (u.sleeve t.sl).replay = satAdd 8 (s.sleeve t.sl).replay 1 ∧ (u.sleeve t.sl).seqHi = (s.sleeve t.sl).seqHi) ∧
    (∀ e : CacheEntry, (p.auth = true → t.cmp = .clean ∧ s.macOf t.sl p = p.mac) →
      (s.sleeve t.sl).cache.find? (fun e => e.tag == p.tag && e.seq == p.seq) = some e → e.reply = none →
      ∃ u, exec c s = .next u ∧ (u.sleeve t.sl).replies = (s.sleeve t.sl).replies ∧
        (u.sleeve t.sl).dup = satAdd 8 (s.sleeve t.sl).dup 1 ∧
        u.cmds = s.cmds.filter (fun k => k.id != s.nextCmd))

/-! ### Opcodes that only read -/

/-- PING echoes its words; IDENTIFY, GET_STATUS and THREAD_STATUS return their payloads, and nothing else changes (R321,
R340, Tables 11-3 to 11-5). -/
def Obligations.IdentityReads : Prop :=
  ∀ (t : Take) (p : Packet) (s : State),
    (Admitted t 0x00 p s → p.params.length ≤ 61 →
      ∃ u, exec (.ping t) s = .next u ∧ Answered t.sl p stOk (wordsBytes p.params) s u) ∧
    (Admitted t 0x01 p s → p.params = [] →
      ∃ u, exec (.identify t) s = .next u ∧ Answered t.sl p stOk (s.identity t.sl) s u) ∧
    (Admitted t 0x02 p s → p.params = [] →
      ∃ u, exec (.getStatus t) s = .next u ∧ Answered t.sl p stOk (s.statusBytes t.sl) s u) ∧
    (Admitted t 0x50 p s → p.params = [] →
      ∃ u, exec (.threadStatus t) s = .next u ∧ Answered t.sl p stOk (s.threadStatusBytes t.sl) s u)

/-- PATTERN_READ returns the bank it names and the CRC-32 over it, and changes nothing but the sleeve's protocol state. -/
def Obligations.PatternReadReturnsBank : Prop :=
  ∀ (t : Take) (p : Packet) (s : State), Admitted t 0x22 p s → argBits p.arg 0x1 = true → p.params = [] →
    let bank := if p.arg.getLsbD 0 then (s.sleeve t.sl).live else (s.sleeve t.sl).shadow
    ∃ u, exec (.patternRead t) s = .next u ∧
      Answered t.sl p stOk (wordsBytes bank.toList ++ wordBytes (crc32 (wordsBytes bank.toList))) s u

/-- KEY_INFO of an own slot or of the command key, BIST_RESULT, GET_POWER, PUSH_STATUS and LOG_READ of the ring return
what their tables give. GET_POWER from S0 also reads PWR_WAKEWHY, and PUSH_STATUS uses one free value (DESIGN CHOICE,
assumption log 4). -/
def Obligations.RecordReads : Prop :=
  ∀ (t : Take) (p : Packet) (s : State),
    (Admitted t 0x42 p s → argBits p.arg 0x9F = true → p.params = [] →
      (p.arg.getLsbD 7 = false → (argSlot p.arg).val / 4 = t.sl.val →
        ∃ u, exec (.keyInfo t) s = .next u ∧ Answered t.sl p stOk (s.slotInfo (argSlot p.arg)) s u) ∧
      (p.arg.getLsbD 7 = true → argSlot p.arg = 0 →
        ∃ u, exec (.keyInfo t) s = .next u ∧ Answered t.sl p stOk (s.cmdKeyInfo t.sl) s u) ∧
      (p.arg.getLsbD 7 = false → (argSlot p.arg).val / 4 ≠ t.sl.val →
        ∃ u, exec (.keyInfo t) s = .next u ∧ Replied t.sl p stNotOwner [] s u)) ∧
    (Admitted t 0x61 p s → argBits p.arg 0x7F = true → p.params = [] → ∀ h : field p.arg 0 7 < 32,
      ∃ u, exec (.bistResult t) s = .next u ∧ Answered t.sl p stOk (s.bist.results.get ⟨field p.arg 0 7, h⟩).bytes s u) ∧
    (Admitted t 0x73 p s → p.params = [] →
      ∃ u, exec (.getPower t) s = .next u ∧
        Answered t.sl p stOk (s.powerBytes t.sl) (if t.sl = 0 then clearWakeWhy s.power.wakeWhy 0 s else s) u) ∧
    (Admitted t 0x91 p s → argBits p.arg 0x3 = true → p.params = [] →
      ∃ u, exec (.pushStatus t) s = .next u ∧ Answered t.sl p stOk (s.pushStatusBytes t.sl (argInst p.arg)) (useFree s) u) ∧
    (∀ first, Admitted t 0x80 p s → p.arg.getLsbD 7 = false → argBits p.arg 0x7 = true → p.params = [first] →
      field p.arg 0 3 ≠ 0 →
      let es := s.log.range first (field p.arg 0 3)
      ∃ u, exec (.logRead t) s = .next u ∧
        Answered t.sl p stOk (wordBytes (match es.getLast? with
            | some e => e.seq + 1
            | none => s.log.next) ++
          (es.filter (fun e => decide (t.sl = 0) || decide (e.src = t.sl.val))).flatMap LogEntry.bytes) s u)

/-! ### Opcodes whose effect waits for the journal -/

/-- SET_ROUTE, SET_QUOTA, SET_CREDIT, SET_POWER_POLICY, KEY_LOAD, KEY_ERASE, SLEEVE_KEY_UPDATE and PATCH_LOAD, accepted,
ask for one journaled commit of their record and change nothing else: the command stays in flight until the commit
ends. -/
def Obligations.CommitsRequested : Prop :=
  ∀ (t : Take) (p : Packet) (s : State),
    (Admitted t 0x03 p s → p.params ≠ [] → p.params.length ≤ 10 → p.params.all routeWordOk = true →
      (p.params.map routeSel).Nodup → routeKeepsS0 (routeTable p.params s.ports.routes) = true →
      exec (.setRoute t) s = .next (requestCommit
        ⟨.route, .route (routeTable p.params s.ports.routes).toList, false, .route, some s.nextCmd⟩ (s.takenBy t.sl p))) ∧
    (∀ w0 w1 w2, Admitted t 0x04 p s → argBits p.arg 0x7 = true → p.params = [w0, w1, w2] →
      s.quotaOk (nth8 (field p.arg 0 3)) w0 w1 w2 = true →
      exec (.setQuota t) s = .next (requestCommit
        ⟨.quotas, s.quotaBody (nth8 (field p.arg 0 3)) w0 w1, false, .quota (nth8 (field p.arg 0 3)) (field w2 0 10),
          some s.nextCmd⟩ (s.takenBy t.sl p))) ∧
    (Admitted t 0x53 p s → p.params.length = 9 → creditOk p.params = true →
      exec (.setCredit t) s = .next (requestCommit ⟨.credit, s.creditBody p.params, false, .credit, some s.nextCmd⟩
        (s.takenBy t.sl p))) ∧
    (∀ w, Admitted t 0x70 p s → p.params = [w] → policyOk w = true →
      exec (.setPowerPolicy t) s = .next (requestCommit ⟨.power, .power w, false, .power, some s.nextCmd⟩ (s.takenBy t.sl p))) ∧
    (Admitted t 0x40 p s → argBits p.arg 0x00FF031F = true → field p.arg 8 2 ≠ 3 → field p.arg 16 8 ≠ 0 →
      field p.arg 16 8 ≤ blockLen (field p.arg 8 2) → p.params.length = (field p.arg 16 8 + 3) / 4 →
      s.slotRefusal t.sl (argSlot p.arg) = none →
      ((s.unmask (s.cmdOf t.sl p)).drop (field p.arg 16 8)).all (· == 0) = true →
      let st := hmacStates (field p.arg 8 2) ((s.unmask (s.cmdOf t.sl p)).take (field p.arg 16 8))
      exec (.keyLoad t) s = .next (requestCommit ⟨.slot (argSlot p.arg), .slot (field p.arg 8 2 + 1) st.1 st.2, true,
        .keyLoad (argSlot p.arg), some s.nextCmd⟩ (s.takenBy t.sl p))) ∧
    (Admitted t 0x41 p s → argBits p.arg 0x1F = true → p.params = [] → s.slotRefusal t.sl (argSlot p.arg) = none →
      exec (.keyErase t) s = .next (requestCommit ⟨.slot (argSlot p.arg), .slot 0 [] [], (s.slot (argSlot p.arg)).owned,
        .keyErase (argSlot p.arg), some s.nextCmd⟩ (s.takenBy t.sl p))) ∧
    (Admitted t 0x43 p s → p.params.length = 8 →
      let st := hmacStates 0 (s.unmask (s.cmdOf t.sl p))
      exec (.sleeveKeyUpdate t) s = .next (requestCommit ⟨.cmdKey t.sl, .cmdKey st.1 st.2, false, .cmdKeyUpdate t.sl,
        some s.nextCmd⟩ (s.takenBy t.sl p))) ∧
    (∀ (offset len : Word) (f0 f1 : List Byte), Admitted t 0xA0 p s → p.params = [offset, len] → offset.toNat % 64 = 0 →
      96 ≤ len.toNat → len.toNat ≤ 65632 → (len.toNat - 96) % 64 = 0 → offset.toNat + len.toNat ≤ 2 ^ 24 →
      f0.length = len.toNat → imageOk f0 = true → len.toNat = 96 + imageCode f0 →
      s.ports.xip.version < imageVersion f0 → imageRom f0 = 0x0103 →
      exec (.patchLoad t f0 f1) s = .next (requestCommit
        ⟨.patch, .patch offset.toNat len.toNat (imageVersion f0) (f0.drop (len.toNat - 32)), false,
          .patch (imageVersion f0) false offset.toNat (imageCode f0) (lineChecks s.lining.boot offset.toNat f0),
          some s.nextCmd⟩ (readImage false offset.toNat len.toNat (s.takenBy t.sl p))))

/-! ### Fabric opcodes -/

/-- A DRBG opcode that the packet checks, the AES cores and the sleeve's tags allow enters the fabric as one operation
behind every operation admitted before it, with one tag (R223, R326); UNINSTANTIATE takes no tag and no core (R218).
Then every head of an instance that is new goes on. With no AES core in service INSTANTIATE, RESEED and GENERATE are
FENCED (R326); with no tag of the quota left a GENERATE is QUOTA, and nothing of it enters the fabric (R225). -/
def Obligations.DrbgEnters : Prop :=
  (∀ (t : Take) (p : Packet) (s : State), addlOk (s.cmdOf t.sl p) = true →
     (s.noAes = false → s.fabric.tagRefusal t.sl 1 = none →
       (Admitted t 0x10 p s → argBits p.arg 0x3F03 = true → exec (.instantiate t) s =
         .next (settleFabric ((s.takenBy t.sl p).entered (newOp (s.cmdOf t.sl p) .instantiate 0) 1))) ∧
       (Admitted t 0x12 p s → argBits p.arg 0x3F03 = true → exec (.reseed t) s =
         .next (settleFabric ((s.takenBy t.sl p).entered (newOp (s.cmdOf t.sl p) .reseed 0) 1))) ∧
       (Admitted t 0x13 p s → argBits p.arg 0xFFFF3F03 = true → s.pool.allFenced = false → exec (.generate t) s =
         .next (settleFabric ((s.takenBy t.sl p).entered (newOp (s.cmdOf t.sl p) .generate (argNlen p.arg + 1)) 1))) ∧
       (Admitted t 0x14 p s → argBits p.arg 0xFFFF3F03 = true → s.pool.allFenced = false → exec (.generatePr t) s =
         .next (settleFabric ((s.takenBy t.sl p).entered (newOp (s.cmdOf t.sl p) .generatePr (argNlen p.arg + 1)) 1)))) ∧
     (Admitted t 0x11 p s → argBits p.arg 0x3 = true → exec (.uninstantiate t) s =
       .next (settleFabric ((s.takenBy t.sl p).entered (newOp (s.cmdOf t.sl p) .uninstantiate 0) 0))) ∧
     (Admitted t 0x15 p s → argBits p.arg 0xFFFF0000 = true → p.params = [] → argNlen p.arg ≤ 1023 →
       s.pool.allFenced = false → s.fabric.tagRefusal t.sl 1 = none → exec (.getSeed t) s =
         .next (settleFabric ((s.takenBy t.sl p).entered (newOp (s.cmdOf t.sl p) .getSeed (16 * (argNlen p.arg + 1))) 1)))) ∧
  (∀ (t : Take) (p : Packet) (s : State), addlOk (s.cmdOf t.sl p) = true →
     (Admitted t 0x10 p s → argBits p.arg 0x3F03 = true → s.noAes = true →
       ∃ u, exec (.instantiate t) s = .next u ∧ Replied t.sl p stFenced [] s u ∧ u.fabric = s.fabric) ∧
     (Admitted t 0x12 p s → argBits p.arg 0x3F03 = true → s.noAes = true →
       ∃ u, exec (.reseed t) s = .next u ∧ Replied t.sl p stFenced [] s u ∧ u.fabric = s.fabric) ∧
     (Admitted t 0x13 p s → argBits p.arg 0xFFFF3F03 = true → s.noAes = true →
       ∃ u, exec (.generate t) s = .next u ∧ Replied t.sl p stFenced [] s u ∧ u.fabric = s.fabric) ∧
     (Admitted t 0x13 p s → argBits p.arg 0xFFFF3F03 = true → s.noAes = false → s.pool.allFenced = false →
       s.fabric.quotaOf t.sl < s.fabric.held.get t.sl + 1 →
       ∃ u, exec (.generate t) s = .next u ∧ Replied t.sl p stQuota [] s u ∧ u.fabric = s.fabric))

/-- SET_PRIORITY stores the lower of its level and PMAX, returns it, and changes nothing else; an instance that is not
owned is NOT_OWNER. -/
def Obligations.PrioritySet : Prop :=
  ∀ (t : Take) (p : Packet) (s : State), Admitted t 0x16 p s → argBits p.arg 0x303 = true → p.params = [] →
    let level := min (field p.arg 8 2) (s.fabric.pmaxOf t.sl)
    ((s.inst t.sl (argInst p.arg)).owned = true → ∃ u, exec (.setPriority t) s = .next u ∧
      Answered t.sl p stOk (natBytes 4 level) (modInst t.sl (argInst p.arg) (fun x => { x with prio := level }) s) u) ∧
    ((s.inst t.sl (argInst p.arg)).owned = false →
      ∃ u, exec (.setPriority t) s = .next u ∧ Replied t.sl p stNotOwner [] s u ∧ u.fabric = s.fabric)

/-! ### Pattern banks and streams -/

/-- PATTERN_WRITE writes its data words into the shadow bank from the index upwards, the whole bank taken once, and
changes nothing else; an index above 31, no data word, or a run past word 31 is BAD_LENGTH and writes nothing. -/
def Obligations.PatternWriteWrites : Prop :=
  ∀ (t : Take) (p : Packet) (s : State), Admitted t 0x20 p s →
    (∀ first d r, p.params = first :: d :: r → first.toNat ≤ 31 → first.toNat + (d :: r).length ≤ 32 →
      ∃ (u : State) (v : Vector Word 32), exec (.patternWrite t) s = .next u ∧
        (∀ k : Fin 32, v.get k =
          if first.toNat ≤ k.val ∧ k.val < first.toNat + (d :: r).length then (d :: r).getD (k.val - first.toNat) 0
          else (s.sleeve t.sl).shadow.get k) ∧
        Answered t.sl p stOk [] (modSleeve t.sl (fun x => { x with shadow := v }) s) u) ∧
    ((p.params.length < 2 ∨ 31 < (p.params.headD 0).toNat ∨ 32 < (p.params.headD 0).toNat + (p.params.length - 1)) →
      ∃ u, exec (.patternWrite t) s = .next u ∧ Replied t.sl p stBadLength [] s u ∧
        (u.sleeve t.sl).shadow = (s.sleeve t.sl).shadow ∧ (u.sleeve t.sl).live = (s.sleeve t.sl).live)

/-- PATTERN_COMMIT copies all 32 shadow words over the live bank at once, leaves the shadow bank as it was and returns the
CRC over the live bank, where the tags its patterns add can be taken; where the quota forbids them it is QUOTA and the
live bank stays. -/
def Obligations.PatternCommitCopies : Prop :=
  ∀ (t : Take) (p : Packet) (s : State), Admitted t 0x21 p s → p.params = [] →
    (∀ o ∈ s.fabric.ops, o.cmd ≠ some s.nextCmd) →
    let k := (allFours.map (fun n => bitCount (addedTags (s.sleeve t.sl) (s.sleeve t.sl).shadow n))).sum
    (s.fabric.tagRefusal t.sl k = none →
      ∃ u, exec (.patternCommit t) s = .next u ∧ (u.sleeve t.sl).live = (s.sleeve t.sl).shadow ∧
        (u.sleeve t.sl).shadow = (s.sleeve t.sl).shadow ∧
        LastReply t.sl p stOk (wordBytes (crc32 (wordsBytes (s.sleeve t.sl).shadow.toList))) u) ∧
    (0 < k → s.fabric.quotaOf t.sl < s.fabric.held.get t.sl + k →
      ∃ u, exec (.patternCommit t) s = .next u ∧ Replied t.sl p stQuota [] s u ∧
        (u.sleeve t.sl).live = (s.sleeve t.sl).live ∧ (u.sleeve t.sl).shadow = (s.sleeve t.sl).shadow)

/-- STREAM_START of a stopped stream raises the run count, starts the stream at record 0 with an empty chain under the
live pattern, the Tally time its epoch, and returns the run number, where the tags of its instances can be taken; a
running stream is BAD_OPCODE (R330, R272). STREAM_STOP returns the low half of the next record number. A stream that
is not running stays as it is; a running one stops, keeps of its chain only a head frame that is whole and filled, and
holds no tag any more (R331, R259). -/
def Obligations.StreamsStartAndStop : Prop :=
  (∀ (t : Take) (p : Packet) (s : State), Admitted t 0x23 p s → argBits p.arg 0x3 = true → p.params = [] →
     (∀ o ∈ s.fabric.ops, o.cmd ≠ some s.nextCmd) →
     let n := argInst p.arg
     let x := s.sleeve t.sl
     ((x.streams.get n).running = false → x.runs ≠ BitVec.allOnes 32 → s.noAes = false →
       s.fabric.tagRefusal t.sl (bitCount (patInst (x.live.get ⟨2 * n.val, by omega⟩))) = none →
       ∃ u, exec (.streamStart t) s = .next u ∧ (u.sleeve t.sl).runs = x.runs + 1 ∧
         LastReply t.sl p stOk (wordBytes (x.runs + 1)) u ∧
         (u.sleeve t.sl).streams.get n = { Stream.reset with
           running := true, run := x.runs + 1, pat0 := x.live.get ⟨2 * n.val, by omega⟩
           pat1 := x.live.get ⟨2 * n.val + 1, by omega⟩, tags := patInst (x.live.get ⟨2 * n.val, by omega⟩), epoch := s.now }) ∧
     ((x.streams.get n).running = true →
       ∃ u, exec (.streamStart t) s = .next u ∧ Replied t.sl p stBadOpcode [] s u ∧
         (u.sleeve t.sl).streams = x.streams ∧ (u.sleeve t.sl).runs = x.runs)) ∧
  (∀ (t : Take) (p : Packet) (s : State), Admitted t 0x24 p s → argBits p.arg 0x3 = true → p.params = [] →
     (∀ o ∈ s.fabric.ops, o.cmd ≠ some s.nextCmd) →
     let n := argInst p.arg
     let y := (s.sleeve t.sl).streams.get n
     ∃ u, exec (.streamStop t) s = .next u ∧ LastReply t.sl p stOk (natBytes 4 (y.record.toNat % 65536)) u ∧
       (y.running = false → (u.sleeve t.sl).streams = (s.sleeve t.sl).streams) ∧
       (y.running = true → let z := (u.sleeve t.sl).streams.get n
         z.running = false ∧ z.tags = 0 ∧ z.record = y.record ∧
         z.chain = (match y.frames with
           | f :: _ => if wholeFrame f && f.all (fun q => q.filled && !q.dropped) then f else []
           | [] => []) ∧
         (s.fabric.ops = [] → u.fabric.held = vmod s.fabric.held t.sl (· - bitCount y.tags))))

/-! ### Digest contexts -/

/-- A digest opcode runs on its context at once where no command is served or waits there and no clearing runs. Where the
operands of a DIGEST_COMPARE are equal and the comparator is clean its payload is 1, where they differ 2, and a
glitched pair (0 or 3) is returned as it is, counted, and faults the core that compared (R473, Table 15-5). -/
def Obligations.DigestOpcodes : Prop :=
  (∀ (t : Take) (p : Packet) (s : State), s.digest.clearing = false →
     (s.ctx t.sl (argInst p.arg)).cmd = none → (s.ctx t.sl (argInst p.arg)).waitq = [] →
     let k := argInst p.arg
     let x := s.ctx t.sl k
     let words := wordsBytes p.params
     -- DIGEST_BEGIN, unkeyed and keyed (R333)
     (Admitted t 0x30 p s → argBits p.arg 0x00011F33 = true → p.params = [] → field p.arg 4 2 ≠ 3 → field p.arg 8 5 = 0 →
       ∃ u, exec (.digestBegin t) s = .next u ∧ Answered t.sl p stOk [] (modCtx t.sl k (fun _ => { Context.reset with
         state := 1, alg := field p.arg 4 2, route := p.arg.getLsbD 16, chain := initChain (field p.arg 4 2) })
         (unsuspect t.sl k s)) u) ∧
     (∀ h : field p.arg 8 5 < 32, let slot : Fin 32 := ⟨field p.arg 8 5, h⟩
       Admitted t 0x30 p s → argBits p.arg 0x00011F33 = true → p.params = [] → field p.arg 4 2 = 3 →
       slot.val / 4 = t.sl.val → (s.slot slot).owned = true → (s.slot slot).health.st = .inService → (s.slot slot).hash ≠ 0 →
       ∃ u, exec (.digestBegin t) s = .next u ∧ Answered t.sl p stOk [] (modCtx t.sl k (fun _ => { Context.reset with
         state := 1, alg := (s.slot slot).hash - 1, hmac := some slot, route := p.arg.getLsbD 16 })
         (unsuspect t.sl k s)) u) ∧
     -- DIGEST_UPDATE: OK at once below a block, otherwise an engine serves it first (R467)
     (Admitted t 0x31 p s → argBits p.arg 0x3 = true → p.params ≠ [] → x.state = 1 → x.final = false →
       (4 * p.params.length) % engineWord x.alg = 0 → x.total + 4 * p.params.length ≤ (if x.alg = 0 then 2 ^ 61 - 1 else 2 ^ 64 - 1) →
       (x.buffer.length + words.length < blockLen x.alg → ∃ u, exec (.digestUpdate t) s = .next u ∧
         Answered t.sl p stOk [] (modCtx t.sl k (fun y => { y with
           buffer := y.buffer ++ words, count := y.count + 4 * p.params.length }) s) u) ∧
       (blockLen x.alg ≤ x.buffer.length + words.length → s.svcUp = true → exec (.digestUpdate t) s =
         .next (modCtx t.sl k (fun y => { y with
           buffer := y.buffer ++ words, count := y.count + 4 * p.params.length, cmd := some s.nextCmd })
           (s.takenBy t.sl p)))) ∧
     -- DIGEST_FINAL: the last bytes and the padding wait for the engine (R334, R468)
     (Admitted t 0x32 p s → argBits p.arg 0x00700003 = true → p.params.length ≤ 2 → x.state = 1 →
       field p.arg 20 3 < engineWord x.alg → (p.params = [] ∨ 4 * p.params.length = engineWord x.alg) → s.svcUp = true →
       let tail := if field p.arg 20 3 = 0 then words else words.take (field p.arg 20 3)
       exec (.digestFinal t) s = .next (modCtx t.sl k (fun y => { y with
         last := words, count := y.count + tail.length, cmd := some s.nextCmd, final := true
         buffer := shaPad y.alg (y.total + tail.length) (y.buffer ++ tail) }) (s.takenBy t.sl p))) ∧
     -- DIGEST_SAVE and DIGEST_RESTORE (R336, R469)
     (Admitted t 0x33 p s → argBits p.arg 0x3 = true → p.params = [] → x.state = 1 → x.hmac = none →
       x.count % blockLen x.alg = 0 → ∃ u, exec (.digestSave t) s = .next u ∧
         Answered t.sl p stOk (natBytes 4 x.alg ++ natBytes 8 x.count ++ x.chain) s u) ∧
     (∀ alg, Admitted t 0x34 p s → argBits p.arg 0x00010003 = true → (p.params.headD 0).toNat = alg → alg ≤ 2 →
       p.params.length = (if alg = 0 then 11 else 19) → bytesNat ((words.drop 4).take 8) % blockLen alg = 0 →
       ∃ u, exec (.digestRestore t) s = .next u ∧ Answered t.sl p stOk [] (modCtx t.sl k (fun _ => { Context.reset with
         state := 1, alg := alg, route := p.arg.getLsbD 16, chain := words.drop 12
         count := bytesNat ((words.drop 4).take 8) }) (unsuspect t.sl k s)) u) ∧
     -- DIGEST_COMPARE: the pair, and the context idle (R335, R472)
     (Admitted t 0x35 p s → t.cmp = .clean → argBits p.arg 0x3F000003 = true → 4 ≤ field p.arg 24 6 →
       p.params.length = field p.arg 24 6 → x.state = 2 → 4 * field p.arg 24 6 ≤ digestLen x.alg → s.svcUp = true →
       ∃ u, exec (.digestCompare t) s = .next u ∧
         Answered t.sl p stOk (natBytes 4 (if x.result.take (4 * field p.arg 24 6) = words then 1 else 2))
           (modCtx t.sl k (fun _ => Context.reset) s) u)) ∧
  (∀ (t : Take) (p : Packet) (s : State), s.digest.clearing = false → (s.ctx t.sl (argInst p.arg)).cmd = none →
     (s.ctx t.sl (argInst p.arg)).waitq = [] → Admitted t 0x35 p s → p.auth = false → argBits p.arg 0x3F000003 = true →
     4 ≤ field p.arg 24 6 → p.params.length = field p.arg 24 6 → (s.ctx t.sl (argInst p.arg)).state = 2 →
     4 * field p.arg 24 6 ≤ digestLen (s.ctx t.sl (argInst p.arg)).alg → (s.digest.cores.get (svcSha t.core)).inSvc = true →
     ∃ v, Answered t.sl p stOk (natBytes 4 (match t.cmp with
         | .clean => if (s.ctx t.sl (argInst p.arg)).result.take (4 * field p.arg 24 6) = wordsBytes p.params then 1 else 2
         | .bothZero => 0
         | .bothOne => 3)) (modCtx t.sl (argInst p.arg) (fun _ => Context.reset) s) v ∧
       exec (.digestCompare t) s = .next (if t.cmp = .clean then v else cmpGlitch t.core v))

/-! ### Sleeves, threads, self-test and power opcodes -/

/-- RESET_SLEEVE of a sleeve in service, with energy for a commit, empties the sleeve at once and asks for the commit of
its next wrap epoch; without it the answer is POWER_DENIED and the sleeve stays as it was (R324, R94). Steps 1 and 2
of R324: a sleeve that is reset holds no packet, reply, cached command, stream or instance, its number window and
pattern banks are at reset, its commands but the one that asked are gone, and every other sleeve's pattern banks,
streams and number window stay. -/
def Obligations.SleeveResets : Prop :=
  (∀ (t : Take) (p : Packet) (s : State), Admitted t 0x05 p s → argBits p.arg 0x7 = true → p.params = [] →
     let i := nth8 (field p.arg 0 3)
     (s.sleeve i).health.st ≠ .retired →
     (s.energyOk = true → exec (.resetSleeve t) s = .next (requestCommit
       ⟨.wrapEpoch i, .number ((s.sleeve i).wrapEpoch + 1), false, .resetSleeve i, some s.nextCmd⟩
       (resetSleeveNow i (some s.nextCmd) (s.takenBy t.sl p)))) ∧
     (s.energyOk = false → ∃ u, exec (.resetSleeve t) s = .next u ∧ Replied t.sl p stPowerDenied [] s u ∧
       u.supply.denied = satAdd 16 s.supply.denied 1 ∧ u.lining = s.lining ∧ u.fabric = s.fabric)) ∧
  (∀ (i : Sleeve) (keep : Option Nat) (s : State),
     let u := resetSleeveNow i keep s
     let x := u.sleeve i
     x.cmdq = [] ∧ x.replies = [] ∧ x.cache = [] ∧ x.heldPush = [] ∧ x.seqHi = 0 ∧ x.consumed = [] ∧
     x.runs = (s.sleeve i).runs ∧
     x.shadow = Vector.replicate 32 0 ∧ x.live = Vector.replicate 32 0 ∧ x.streams = Vector.replicate 4 Stream.reset ∧
     (∀ k, (u.inst i k).owned = false ∧ (u.inst i k).key = 0 ∧ (u.inst i k).health = (s.inst i k).health) ∧
     (∀ k, u.ctx i k = Context.reset) ∧ (∀ c ∈ u.cmds, c.sl = i → some c.id = keep) ∧
     (∀ j, j ≠ i → (u.sleeve j).seqHi = (s.sleeve j).seqHi ∧ (u.sleeve j).shadow = (s.sleeve j).shadow ∧
       (u.sleeve j).live = (s.sleeve j).live ∧ (u.sleeve j).streams = (s.sleeve j).streams))

/-- THREAD_QUARANTINE holds a thread in service or in quarantine, drops its open windows, writes 0x5034 and returns OK;
where a trip of a quarantined thread still waits to be handled as a second one the thread retires first, and the
answer is FENCED; a retired thread is FENCED (R341, R166, R528). THREAD_READMIT: a thread that the custodian holds
begins its 1024-sample test and returns through it; a retired thread with a readmission left is queued for its BIST
and answered later; one without is FENCED; a thread in service is left alone (R169, R171). -/
def Obligations.ThreadsHeldAndReadmitted : Prop :=
  (∀ (t : Take) (p : Packet) (s : State), Admitted t 0x51 p s → argBits p.arg 0xF = true → p.params = [] →
     let k := argThread p.arg
     ((s.thread k).health.st = .inService ∨ (s.thread k).health.st = .quarantined ∧ (s.thread k).health.unhandled = false →
       ∃ u, exec (.threadQuarantine t) s = .next u ∧
       Answered t.sl p stOk [] (raiseD 0x5034 [BitVec.ofNat 8 k.val] (modThread k (fun x => { ThreadSt.fresh x with
         custHold := true, test := .none, passed := false
         health := { x.health with st := .quarantined, retest := false, unhandled := false, again := false } }) s)) u) ∧
     ((s.thread k).health.st = .quarantined → (s.thread k).custHold = false → (s.thread k).health.unhandled = true →
       (s.thread k).health.again = true → ∃ u, exec (.threadQuarantine t) s = .next u ∧ LastReply t.sl p stFenced [] u ∧
         (u.thread k).health.st = .retired) ∧
     ((s.thread k).health.st = .retired →
       ∃ u, exec (.threadQuarantine t) s = .next u ∧ Replied t.sl p stFenced [] s u ∧ u.threads = s.threads)) ∧
  (∀ (t : Take) (p : Packet) (s : State), Admitted t 0x52 p s → argBits p.arg 0xF = true → p.params = [] →
     let k := argThread p.arg
     let slice : Fin 32 := ⟨k.val, by omega⟩
     ((s.thread k).health.st = .inService → ∃ u, exec (.threadReadmit t) s = .next u ∧ Answered t.sl p stOk [] s u) ∧
     ((s.thread k).health.st = .quarantined → (s.thread k).custHold = true → ∃ u, exec (.threadReadmit t) s = .next u ∧
       Answered t.sl p stOk [] (startRetest (.thread k) (modThread k (fun x => { x with
         custHold := false, health := { x.health with unhandled := false, again := false } }) s)) u) ∧
     ((s.thread k).health.st = .quarantined → (s.thread k).custHold = false →
       ∃ u, exec (.threadReadmit t) s = .next u ∧ Answered t.sl p stOk [] s u) ∧
     ((s.thread k).health.st = .retired → (s.thread k).health.used < 3 → s.sliceBusy slice = false →
       s.readmitting (.thread k) = false →
       exec (.threadReadmit t) s = .next (queueReadmit slice t.sl.val 4 2 (some s.nextCmd) (s.takenBy t.sl p))) ∧
     ((s.thread k).health.st = .retired → 3 ≤ (s.thread k).health.used →
       ∃ u, exec (.threadReadmit t) s = .next u ∧ Replied t.sl p stFenced [] s u ∧ u.threads = s.threads ∧ u.bist = s.bist))

/-- RAW_CAPTURE starts a capture of the thread with its pockets claimed and returns their number and the capture's number;
while a capture runs another is BUSY (R132 to R136, R343). -/
def Obligations.CaptureStarts : Prop :=
  ∀ (t : Take) (p : Packet) (s : State) (m r : Word), Admitted t 0x54 p s → argBits p.arg 0x3F = true → p.params = [m, r] →
    m.toNat ≠ 0 → captureOk (argThread p.arg) (field p.arg 4 2) m.toNat r.toNat = true →
    let k := argThread p.arg
    let n := capturePockets (field p.arg 4 2) r.toNat m.toNat
    (s.capture.active = false → ((s.thread k).health.st = .inService → s.floor.below = false ∧ s.wouldFall [k] = false) →
      s.pool.allFenced = false → n ≤ s.pool.avail 0 → n + s.fabric.claims.length ≤ s.pool.freeCount →
      ∃ u, exec (.rawCapture t) s = .next u ∧
        LastReply t.sl p stAccepted (wordBytes (pack [(0, 13, n), (16, 16, (s.capture.seq + 1) % 65536)])) u ∧
        u.capture.active = true ∧ u.capture.thread = k ∧ u.capture.mode = field p.arg 4 2 ∧
        u.capture.samples = m.toNat ∧ u.capture.restarts = r.toNat ∧ u.capture.seq = (s.capture.seq + 1) % 65536 ∧
        u.capture.pockets.length = n ∧ u.capture.taken = 0 ∧ u.capture.bytes = [] ∧
        ((s.thread k).readmit = false → (u.thread k).bits = [] ∧ (u.thread k).test = .none)) ∧
    (s.capture.active = true →
      ∃ u, exec (.rawCapture t) s = .next u ∧ Replied t.sl p stBusy [] s u ∧ u.capture = s.capture)

/-- BIST_RUN of a slice, with no verdict against it, is ACCEPTED and queues its run for the requester; a slice under test
or queued is BUSY (R344, R345). BIST_RUN with READMIT: a slice with something to readmit is queued and answered when
its readmission ends; a retired instance or key slot asks for the first of its two journal writes; with nothing to
readmit it is FENCED (R169, R346). -/
def Obligations.BistRequested : Prop :=
  (∀ (t : Take) (p : Packet) (s : State), Admitted t 0x60 p s → p.arg.getLsbD 7 = false → argBits p.arg 0x001F1F7F = true →
     p.params = [] → budgetsOk p.arg = true → ∀ h : field p.arg 0 7 < 32,
     let k : Fin 32 := ⟨field p.arg 0 7, h⟩
     (s.openVerdict k t.sl.val = none → ∃ u, exec (.bistRun t) s = .next u ∧
       Answered t.sl p stAccepted [] (queueOpen k t.sl.val (argLogic p.arg) (argAnalog p.arg) s) u) ∧
     (s.sliceBusy k = true → ∃ u, exec (.bistRun t) s = .next u ∧ Replied t.sl p stBusy [] s u ∧ u.bist = s.bist)) ∧
  (∀ (t : Take) (p : Packet) (s : State), Admitted t 0x60 p s → p.arg.getLsbD 7 = true → argBits p.arg 0x001F1FFF = true →
     p.params = [] → budgetsOk p.arg = true →
     (∀ k : Fin 32, field p.arg 0 7 = k.val → 16 ≤ k.val →
       (s.readmittable k = true → s.sliceBusy k = false → (s.readmitUnits k).any s.readmitting = false →
         exec (.bistRunReadmit t) s = .next (queueReadmit k t.sl.val (budget (argLogic p.arg) 4) (budget (argAnalog p.arg) 2)
           (some s.nextCmd) (s.takenBy t.sl p))) ∧
       (s.readmittable k = false →
         ∃ u, exec (.bistRunReadmit t) s = .next u ∧ Replied t.sl p stFenced [] s u ∧ u.bist = s.bist)) ∧
     (∀ (i : Sleeve) (k : Fin 4), field p.arg 0 7 = 32 + 4 * i.val + k.val → (s.inst i k).health.st = .retired →
       (s.inst i k).health.used < 3 → s.readmitting (.inst i k) = false →
       exec (.bistRunReadmit t) s = .next (requestCommit
         ⟨.inst i k, .inst false 0 0, false, .erase0 (.inst i k), some s.nextCmd⟩ (s.takenBy t.sl p))) ∧
     (∀ k : Fin 32, field p.arg 0 7 = 64 + k.val → (s.slot k).health.st = .retired → (s.slot k).health.used < 3 →
       s.readmitting (.slot k) = false →
       exec (.bistRunReadmit t) s = .next (requestCommit
         ⟨.slot k, .slot 0 [] [], false, .erase0 (.slot k), some s.nextCmd⟩ (s.takenBy t.sl p))))

/-- FOLD with nothing else in flight answers OK, stops every stream and starts the wake timer; with commands in flight it
only turns new commands away; with a capture or a BIST run active it is BUSY (R349). RESUME outside fold changes
nothing and is OK; in fold it is a wake source and is answered at READY, and after a trip with THERM_ACT 01 it is BUSY
while the die is hot (R350, R576). -/
def Obligations.FoldAndResume : Prop :=
  (∀ (t : Take) (p : Packet) (s : State), Admitted t 0x71 p s → argBits p.arg 0xFFFFFF = true → p.params = [] →
     (s.capture.active = false → s.bist.active = [] → s.cmds = [] →
       ∃ u, exec (.fold t) s = .next u ∧ u.power.phase = .folding ∧ u.power.foldReply = true ∧ u.power.foldAt = s.now ∧
         u.power.wakeAt = (if field p.arg 0 24 = 0 then none else some (s.now + 1000000 * field p.arg 0 24)) ∧
         LastReply t.sl p stOk [] u ∧ (∀ i n, ((u.sleeve i).streams.get n).running = false)) ∧
     (s.capture.active = false → s.bist.active = [] → (∃ c ∈ s.cmds, c.id ≠ s.nextCmd) →
       exec (.fold t) s = .next (modPower (fun w => { w with
         phase := .folding, foldCmd := some s.nextCmd, foldReply := false, foldTherm := false, wakeS := field p.arg 0 24 })
         (s.takenBy t.sl p))) ∧
     ((s.capture.active = true ∨ s.bist.active ≠ []) →
       ∃ u, exec (.fold t) s = .next u ∧ Replied t.sl p stBusy [] s u ∧ u.power = s.power)) ∧
  (∀ (t : Take) (p : Packet) (s : State), Admitted t 0x72 p s → p.params = [] →
     (s.power.phase ≠ .fold → ∃ u, exec (.resume t) s = .next u ∧ Answered t.sl p stOk [] s u) ∧
     (s.power.phase = .fold → (s.hostOnly = false ∨ s.hot = false) → exec (.resume t) s = .next (wakeSource 0
       (modPower (fun w => { w with resumes := w.resumes ++ [s.nextCmd] }) (s.takenBy t.sl p)))) ∧
     (s.power.phase = .fold → s.hostOnly = true → s.hot = true →
       ∃ u, exec (.resume t) s = .next u ∧ Replied t.sl p stBusy [] s u ∧ u.power = s.power))

/-! ### Log, push and port opcodes -/

/-- LOG_READ of the last-resort register returns its oldest unread entries and the overflow count to S0 and marks them
read; for another sleeve it is NOT_OWNER. LOG_VERIFY that may run waits for a service engine. LOG_MARK gives its two
words to the fault handler as event 0x8001 from its sleeve, to be answered once the entry is written; where the
handler loses the event, or the sleeve's last mark was answered less than a second ago, it is BUSY (R353). -/
def Obligations.LogOpcodes : Prop :=
  (∀ (t : Take) (p : Packet) (s : State),
     (Admitted t 0x80 p s → p.arg.getLsbD 7 = true → argBits p.arg 0x87 = true → p.params.length = 1 →
       1 ≤ field p.arg 0 3 → field p.arg 0 3 ≤ 4 →
       (t.sl = 0 → ∃ u, exec (.logReadLr t) s = .next u ∧ Answered t.sl p stOk (natBytes 4 s.log.overflow ++
         (((s.log.lr.filter (fun e => !e.2)).take (field p.arg 0 3)).map (·.1)).flatMap LogEntry.bytes)
         (modLog (fun l => { l with lr := markRead (field p.arg 0 3) l.lr }) s) u) ∧
       (t.sl ≠ 0 → ∃ u, exec (.logReadLr t) s = .next u ∧ Replied t.sl p stNotOwner [] s u ∧ u.log = s.log)) ∧
     (∀ first count, Admitted t 0x82 p s → p.params = [first, count] → count.toNat ≠ 0 → count.toNat ≤ 8192 →
       (s.log.keyOk = true → s.logSusp = false → s.log.verify = none → exec (.logVerify t) s =
         .next (modLog (fun l => { l with verify := some (s.nextCmd, first, count.toNat) }) (s.takenBy t.sl p))) ∧
       ((s.log.keyOk = false ∨ s.logSusp = true) →
         ∃ u, exec (.logVerify t) s = .next u ∧ Replied t.sl p stFenced [] s u ∧ u.log = s.log))) ∧
  (∀ (t : Take) (p : Packet) (s : State) (a b : Word), Admitted t 0x81 p s → p.params = [a, b] →
     let e : Ev := { mkEv s 0x8001 t.sl.val (wordBytes a ++ wordBytes b) with cmd := some s.nextCmd }
     (everySecond (s.sleeve t.sl).lastMark s.now = true → (placeEv e s.log).2 = true →
       exec (.logMark t) s = .next { s.takenBy t.sl p with log := (placeEv e s.log).1 }) ∧
     (everySecond (s.sleeve t.sl).lastMark s.now = true → (placeEv e s.log).2 = false →
       ∃ u, exec (.logMark t) s = .next u ∧ Replied t.sl p stBusy [] s u ∧ u.log = countLost s.log) ∧
     (everySecond (s.sleeve t.sl).lastMark s.now = false →
       ∃ u, exec (.logMark t) s = .next u ∧ Replied t.sl p stBusy [] s u ∧ u.log = s.log))

/-- PUSH_SCHEDULE re-arms an entry at its existing epoch, gives it a new epoch, the Tally time of its commit, or suspends
it: at once where no window of the entry is in progress, else from the next window start, after the actions that wait
for it already; the reply is OK and nothing else changes. ACTION 11 is BAD_LENGTH (R356). LANE_CONFIG sets a port's
configured width and retrains the port: the port is untrained, and the command waits for the training; for port F it
sets the width and answers with the lanes at once. LINK_TRAIN only retrains. WIDTH 00, eight lanes of port M, and
LINK_TRAIN of port F are BAD_LENGTH; a width above the lanes in service, and a retired port, are FENCED (R357, R369). -/
def Obligations.PortOpcodes : Prop :=
  (∀ (t : Take) (p : Packet) (s : State), Admitted t 0x90 p s → argBits p.arg 0x303 = true → p.params = [] →
     let e := argInst p.arg
     let x := (s.sleeve t.sl).pushes.get e
     (field p.arg 8 2 = 0 → x.opened = false → ∃ u, exec (.pushScheduleRearm t) s = .next u ∧ Answered t.sl p stOk []
       (modPush t.sl e (fun y => { y with lost := false, suspended := false, doublings := 0, streak := 0 }) s) u) ∧
     (field p.arg 8 2 = 0 → x.opened = true → ∃ u, exec (.pushScheduleRearm t) s = .next u ∧ Answered t.sl p stOk []
       (modPush t.sl e (fun y => { y with acts := y.acts ++ [.rearm] }) s) u) ∧
     (field p.arg 8 2 = 1 → x.opened = false → ∃ u, exec (.pushScheduleReepoch t) s = .next u ∧ Answered t.sl p stOk []
       (modPush t.sl e (fun y => { y with
         lost := false, suspended := false, doublings := 0, streak := 0, epoch := s.now, after := 0 }) s) u) ∧
     (field p.arg 8 2 = 1 → x.opened = true → ∃ u, exec (.pushScheduleReepoch t) s = .next u ∧ Answered t.sl p stOk []
       (modPush t.sl e (fun y => { y with acts := y.acts ++ [.reepoch s.now] }) s) u) ∧
     (field p.arg 8 2 = 2 → x.opened = false → ∃ u, exec (.pushScheduleSuspend t) s = .next u ∧ Answered t.sl p stOk []
       (modPush t.sl e (fun y => { y with suspended := true }) s) u) ∧
     (field p.arg 8 2 = 2 → x.opened = true → ∃ u, exec (.pushScheduleSuspend t) s = .next u ∧ Answered t.sl p stOk []
       (modPush t.sl e (fun y => { y with acts := y.acts ++ [.suspend] }) s) u) ∧
     (field p.arg 8 2 = 3 → ∃ u, exec (.pushScheduleRearm t) s = .next u ∧ Replied t.sl p stBadLength [] s u ∧
       (u.sleeve t.sl).pushes = (s.sleeve t.sl).pushes)) ∧
  (∀ (t : Take) (p : Packet) (s : State), p.params = [] →
     (Admitted t 0x92 p s → argBits p.arg 0x33 = true → field p.arg 0 2 = 3 → field p.arg 4 2 ≠ 0 →
       ∃ u, exec (.laneConfig t) s = .next u ∧ Answered t.sl p stOk (natBytes 4 (2 ^ (2 ^ field p.arg 4 2) - 1))
         (modXip (fun x => { x with fWidth := 2 ^ field p.arg 4 2 }) s) u) ∧
     (∀ k : Fin 3, field p.arg 0 2 = k.val → field p.arg 4 2 ≠ 0 → ¬ (k = 2 ∧ field p.arg 4 2 = 3) →
       Admitted t 0x92 p s → argBits p.arg 0x33 = true →
       (2 ^ field p.arg 4 2 ≤ (s.lanesUp k).length → (s.ports.ports.get k).health.st ≠ .retired →
         exec (.laneConfig t) s = .next (retrain s.nextCmd k
           (modPort k (fun x => { x with config := 2 ^ field p.arg 4 2 }) (s.takenBy t.sl p))) ∧
         ∃ u, exec (.laneConfig t) s = .next u ∧ (u.ports.ports.get k).trained = false ∧
           (u.ports.ports.get k).config = 2 ^ field p.arg 4 2 ∧
           (u.ports.ports.get k).waiters = (s.ports.ports.get k).waiters ++ [s.nextCmd]) ∧
       (((s.lanesUp k).length < 2 ^ field p.arg 4 2 ∨ (s.ports.ports.get k).health.st = .retired) →
         ∃ u, exec (.laneConfig t) s = .next u ∧ Replied t.sl p stFenced [] s u ∧ u.ports = s.ports)) ∧
     (∀ k : Fin 3, field p.arg 0 2 = k.val → Admitted t 0x93 p s → argBits p.arg 0x3 = true →
       ((s.ports.ports.get k).health.st ≠ .retired →
         exec (.linkTrain t) s = .next (retrain s.nextCmd k (s.takenBy t.sl p)) ∧
         ∃ u, exec (.linkTrain t) s = .next u ∧ (u.ports.ports.get k).trained = false ∧
           (u.ports.ports.get k).config = (s.ports.ports.get k).config ∧
           (u.ports.ports.get k).waiters = (s.ports.ports.get k).waiters ++ [s.nextCmd]) ∧
       ((s.ports.ports.get k).health.st = .retired →
         ∃ u, exec (.linkTrain t) s = .next u ∧ Replied t.sl p stFenced [] s u ∧ u.ports = s.ports)) ∧
     (Admitted t 0x92 p s → argBits p.arg 0x33 = true →
       (field p.arg 4 2 = 0 ∨ field p.arg 0 2 = 2 ∧ field p.arg 4 2 = 3) →
       ∃ u, exec (.laneConfig t) s = .next u ∧ Replied t.sl p stBadLength [] s u ∧ u.ports = s.ports) ∧
     (Admitted t 0x93 p s → argBits p.arg 0x3 = true → field p.arg 0 2 = 3 →
       ∃ u, exec (.linkTrain t) s = .next u ∧ Replied t.sl p stBadLength [] s u ∧ u.ports = s.ports))

/-! ### Frames -/

/-- A PUSH_CMD of 3 to 70 words whose CRC-32 over command byte, count byte and packet is right, on a served select of a
sleeve in service, is trailed OK; at its release the packet enters the command queue with the select's count of failed
tries, waits for a removal in progress, or is refused with LASTPUSH 2 (R74, R390, R401). That a second push that meets
the same removal of a full queue is refused is the model's choice (DESIGN CHOICE, assumption log 79). A PUSH_CMD that
is aborted, whose CRC fails, or that comes on a select of no sleeve commits nothing: LASTPUSH is 3; a CRC failure is
counted on the port and the select and trailed CRC_FAIL, the other select is trailed ACCESS_FAULT, and an aborted
frame has no trailer (R398, R399, R402). -/
def Obligations.PushCommits : Prop :=
  (∀ (f : FrameIn) (low : Fin 32) (count : Byte) (packet : List Byte) (s : State), s.serves f.sel = true → f.aborted = false →
     f.crc = crc32 (cmdByte 2 low :: count :: packet) → s.role f.sel = 1 → s.fencedSleeve f.sel = false → 2 ≤ count.toNat →
     count.toNat ≤ 69 →
     let i := s.selSleeve f.sel
     let x := s.sleeve i
     let p : Packet := ⟨packet, min 3 (s.sel f.sel).fails⟩
     let told (v : Nat) (u : State) : State := modSel f.sel (fun y => { y with
       frames := y.frames + 1, out := ⟨[], s.trailer f.sel stOk 0, []⟩, lastPush := v, fails := if v = 1 then 0 else y.fails }) u
     (x.cmdq.length + bit x.removing < s.queuePlaces → exec (.pushCmd f ⟨low, count⟩ packet) s =
       .next (told 1 (modSleeve i (fun y => { y with cmdq := y.cmdq ++ [p] }) (trackLanes f s)))) ∧
     (s.queuePlaces ≤ x.cmdq.length + bit x.removing → x.removing = true → x.heldPush = [] →
       exec (.pushCmd f ⟨low, count⟩ packet) s =
         .next (told 1 (modSleeve i (fun y => { y with heldPush := [(p, f.sel)] }) (trackLanes f s)))) ∧
     (s.queuePlaces ≤ x.cmdq.length + bit x.removing → (x.removing = false ∨ x.heldPush ≠ []) →
       exec (.pushCmd f ⟨low, count⟩ packet) s = .next (told 2 (trackLanes f s)))) ∧
  (∀ (f : FrameIn) (low : Fin 32) (count : Byte) (packet : List Byte) (s : State), s.serves f.sel = true →
     let good := crc32 (cmdByte 2 low :: count :: packet)
     (f.aborted = true → exec (.pushCmd f ⟨low, count⟩ packet) s =
       .next (modSel f.sel (fun x => { x with out := ⟨[], [], []⟩, lastPush := 3 }) (trackLanes f s))) ∧
     (f.aborted = false → f.crc ≠ good → s.role f.sel = 1 → s.fencedSleeve f.sel = false → 2 ≤ count.toNat →
       count.toNat ≤ 69 → ∃ u, exec (.pushCmd f ⟨low, count⟩ packet) s = .next u ∧
         (∀ i, (u.sleeve i).cmdq = (s.sleeve i).cmdq ∧ (u.sleeve i).heldPush = (s.sleeve i).heldPush) ∧
         (u.sel f.sel).out = ⟨[], s.trailer f.sel trCrcFail 0, []⟩ ∧ (u.sel f.sel).lastPush = 3 ∧
         (u.sel f.sel).fails = (s.sel f.sel).fails + 1 ∧
         (u.ports.ports.get (selPort f.sel)).fail = satAdd 16 (s.ports.ports.get (selPort f.sel)).fail 1) ∧
     (f.aborted = false → f.crc = good → s.role f.sel ≠ 1 → 2 ≤ count.toNat → count.toNat ≤ 69 →
       ∃ u, exec (.pushCmd f ⟨low, count⟩ packet) s = .next u ∧ u.sleeves = s.sleeves ∧ (u.sel f.sel).lastPush = 3 ∧
         (u.sel f.sel).out = ⟨[], s.trailer f.sel stAccessFault 0, []⟩))

/-- A POP_REPLY returns the head reply padded to whole words with an OK trailer and removes it; one cut off before the
reply's last byte leaves it at the head (R405). A reply that has lost a pocket is driven zero from that pocket on
under INTERNAL, and an INTERNAL reply takes its place (R253). Of an empty queue it returns 8 bytes of 0xFF with an
EMPTY trailer (R406). A pop on another select while the first holds its claim takes the next reply (R405); where it
begins and ends within the claim is the model's choice (DESIGN CHOICE, assumption log 80). -/
def Obligations.PopDelivers : Prop :=
  ∀ (c : Sel) (s : State), s.serves c = true → s.early c = false → s.role c = 1 → s.fencedSleeve c = false →
    let i := s.selSleeve c
    (∀ r rest, (s.sleeve i).replies = r :: rest → 4096 ∉ r.pockets →
      exec (.popReply c ⟨.full, []⟩) s = .next (releasePockets r.pockets (modSel c (fun x => { x with
        frames := x.frames + 1, out := ⟨padWords (s.replyBytes i r), s.trailer c stOk 0, []⟩ })
        (modSleeve i (fun x => { x with replies := rest }) s))) ∧
      (∀ n, n < (s.replyBytes i r).length → exec (.popReply c ⟨(.cut n), []⟩) s =
        .next (modSel c (fun x => { x with out := ⟨(padWords (s.replyBytes i r)).take n, [], []⟩ }) s))) ∧
    (∀ r rest, (s.sleeve i).replies = r :: rest → 4096 ∈ r.pockets →
      ∃ u q, exec (.popReply c ⟨.full, []⟩) s = .next u ∧ (u.sleeve i).replies = q :: rest.map (fun y =>
          if y.cmd = r.cmd then q else y) ∧
        q.status = stInternal ∧ q.tag = r.tag ∧ q.seq = r.seq ∧ q.payload = [] ∧ q.pockets = [] ∧
        (u.sel c).out = ⟨zeroFrom (8 + r.payload.length + 64 * r.pockets.idxOf 4096) (padWords (s.replyBytes i r)),
          s.trailer c stInternal 0, []⟩) ∧
    (∀ r q rest d, (s.sleeve i).replies = r :: q :: rest → 4096 ∉ r.pockets → 4096 ∉ q.pockets → d ≠ c → s.serves d = true →
      s.early d = false → s.role d = 1 → s.selSleeve d = i →
      ∃ u, exec (.popReply c ⟨.full, [(d, .full)]⟩) s = .next u ∧ (u.sleeve i).replies = rest ∧
        (u.sel c).out = ⟨padWords (s.replyBytes i r), s.trailer c stOk 0, []⟩ ∧
        (u.sel d).out = ⟨padWords (s.replyBytes i q), s.trailer d stOk 0, []⟩) ∧
    ((s.sleeve i).replies = [] → exec (.popReply c ⟨.full, []⟩) s = .next (modSel c (fun x => { x with
      frames := x.frames + 1, out := ⟨List.replicate 8 0xFF, s.trailer c trEmpty 0, []⟩ }) s))

/-- A STREAM_READ of a stream that does not run and has no record left returns one record of length 0 whose trailer says
IDLE, with the CRC-32 over both; one of a ready record of an unsealed stream returns its pockets in order under its
number and claims the frame; of a head record that is not ready it drives nothing while the host waits (R408, R411,
R412, R416). -/
def Obligations.StreamReads : Prop :=
  ∀ (c : Sel) (n : Fin 4) (s : State), s.serves c = true → s.early c = false → s.foldM c = false → s.role c = 1 →
    s.fencedSleeve c = false → (s.selSleeve c = 0 → s.capture.holds = false) →
    let x := (s.sleeve (s.selSleeve c)).streams.get n
    let number := x.record.toNat % 65536
    let record (body : List Byte) (st : Byte) : BusOut :=
      ⟨body ++ wordBytes (crc32 (body ++ ([st, 0] ++ natBytes 2 number))), [st, 0] ++ natBytes 2 number, []⟩
    (x.running = false → x.chain = [] → exec (.streamRead c n [.full]) s = .next (modSel c (fun y => { y with
      out := record (wordBytes (BitVec.ofNat 32 (n.val * 2 ^ 13))) trIdle }) s)) ∧
    (∀ f r, patPush x.pat0 = false → x.frames = f :: r → x.headReady = true → (∀ q ∈ f, patSeal q.pat0 = false) →
      (∀ q ∈ f, ∃ k, s.pocket q.pocket = some k ∧ k.owner = s.selSleeve c ∧ k.bytes.length = 64) →
      exec (.streamRead c n [.full]) s = .next (modSel c (fun y => { y with
        out := record (wordBytes (BitVec.ofNat 32 (64 * f.length + n.val * 2 ^ 13)) ++ s.pocketBytes (s.selSleeve c) (f.map (·.pocket))) stOk })
        (claimFrame (s.selSleeve c) n f (modSel c (fun y => { y with out := ⟨[], [], []⟩ }) s)))) ∧
    (∀ f r, patPush x.pat0 = false → x.frames = f :: r → x.headReady = false → (∀ q ∈ f, q.dropped = false) →
      exec (.streamRead c n [.full]) s = .next (modSel c (fun y => { y with out := ⟨[], [], []⟩ }) s))

/-- A STATUS frame returns the select's status word: OK while READY is high, NOT_READY before; on an unrouted select the
word is 0 and the trailer ACCESS_FAULT (R407, Table 13-10). One cut off before the end of its trailer drives what was
shifted out, and leaves the frame counter (R403). A frame of the reserved kind, on any select, drives nothing, commits
nothing and leaves the frame counter (R391). A TRAIN frame on a port that takes one judges its lanes by what they
received, drives PRBS-7 on the lanes of the new width and is trailed OK with that width, 0 for a port then retired;
where it leaves no lane in quarantine the port is trained and the commands that waited for it are answered (R357,
R372, R375); a second one on the same select within 1 ms on a trained port is BUSY and judges nothing; one whose
inbound phase does not complete does nothing (R372). -/
def Obligations.StatusAndTraining : Prop :=
  (∀ (c : Sel) (s : State), s.serves c = true →
     (s.early c = false → s.role c ≠ 0 → exec (.status ⟨c, .full⟩) s = .next (modSel c (fun x => { x with
       frames := x.frames + 1, out := ⟨wordBytes (s.statusWord c), s.trailer c stOk 0, []⟩ }) s)) ∧
     (s.early c = true → exec (.status ⟨c, .full⟩) s = .next (modSel c (fun x => { x with
       frames := x.frames + 1, out := ⟨wordBytes (s.statusWord c), s.trailer c stNotReady 0, []⟩ }) s)) ∧
     (s.early c = false → s.role c = 0 → ∃ u, exec (.status ⟨c, .full⟩) s = .next u ∧
       (u.sel c).out = ⟨[0, 0, 0, 0], s.trailer c stAccessFault 0, []⟩ ∧ u.sleeves = s.sleeves) ∧
     (∀ n, n < 8 → exec (.status ⟨c, (.cut n)⟩) s = .next (modSel c (fun x => { x with
       out := ⟨(wordBytes (s.statusWord c)).take n, [], []⟩ }) s))) ∧
  (∀ (c : Sel) (seen : List (List (BitVec 1024))) (s : State), s.trains (selPort c) = true →
     let noted : State := modSel c (fun x => { x with lastTrain := some s.now }) s
     let judged : State := judgeTrain (selPort c) seen noted
     let port : PortSt := judged.ports.ports.get (selPort c)
     (exec (.train c seen false) s = .next (modSel c (fun x => { x with out := ⟨[], [], []⟩ }) s)) ∧
     (((s.ports.ports.get (selPort c)).trained = false ∨ (s.sel c).lastTrain = none ∨
         ∃ t, (s.sel c).lastTrain = some t ∧ 1000 ≤ s.now - t) →
       exec (.train c seen true) s =
         .next (endFrame c (trainOut (if port.health.st = .retired then 0 else port.width)) stOk
           (if port.health.st = .retired then 0 else port.width) judged)) ∧
     (port.health.st ≠ .retired →
       (∀ l ∈ portLanes (selPort c), (judged.health (.lane (laneFin (selPort c) l))).st ≠ .quarantined) →
       port.trained = true ∧ port.waiters = [] ∧
         ∀ id ∈ (s.ports.ports.get (selPort c)).waiters, judged.findCmd id = none) ∧
     (∀ t, (s.ports.ports.get (selPort c)).trained = true → (s.sel c).lastTrain = some t → s.now - t < 1000 →
       exec (.train c seen true) s = .next (endFrame c [] stBusy 0 noted)))

/-- On a frame of the reserved kind the module drives nothing, commits nothing and sends no trailer, and the select's
frame counter does not advance. -/
def Obligations.ReservedFrameIgnored : Prop :=
  ∀ (c : Sel) (s : State), exec (.reservedFrame c) s = .next (modSel c (fun x => { x with out := ⟨[], [], []⟩ }) s)

/-- A WRITE_REG frame that no rule refuses commits its words in ascending order; with a forbidden word it commits none,
and its trailer carries ACCESS_FAULT and the index of the first offending word; with a failed CRC it commits none
(R397, R398). What one write to a register of each class leaves: HS bits clear where written 1 unless hardware sets
them meanwhile (R65, Table 2-3), CT counters read the written value plus the increments it meets, saturated (R66,
Table 2-4), RW fields take the written value, and PAGE takes its low byte (R393). Nothing else changes. -/
def Obligations.WriteFrames : Prop :=
  (∀ (f : FrameIn) (word : Fin 32) (data : List Word) (hw : List HwUpdate) (s : State), s.serves f.sel = true →
     f.aborted = false → s.early f.sel = false → s.foldM f.sel = false →
     let base := 32 * (s.sel f.sel).page.toNat + word.val
     let good := crc32 (cmdByte 1 word :: BitVec.ofNat 8 (data.length - 1) :: wordsBytes data)
     (f.crc = good → (∀ k, k < data.length → s.mayWrite f.sel (base + k) (data.getD k 0) = true) →
       exec (.writeReg f word data hw) s = .next (writeWords f.sel base hw 0 data (endFrame f.sel [] stOk 0 (trackLanes f s)))) ∧
     (∀ k, f.crc = good → k < data.length → s.mayWrite f.sel (base + k) (data.getD k 0) = false →
       (∀ j, j < k → s.mayWrite f.sel (base + j) (data.getD j 0) = true) →
       ∃ u, exec (.writeReg f word data hw) s = .next u ∧ (u.sel f.sel).out = ⟨[], s.trailer f.sel stAccessFault k, []⟩ ∧
         (u.sel f.sel).page = (s.sel f.sel).page ∧ u.kept = s.kept ∧ u.log.alarm = s.log.alarm ∧ u.pool = s.pool) ∧
     (f.crc ≠ good → ∃ u, exec (.writeReg f word data hw) s = .next u ∧
       (u.sel f.sel).out = ⟨[], s.trailer f.sel trCrcFail 0, []⟩ ∧ (u.sel f.sel).page = (s.sel f.sel).page ∧ u.supply = s.supply)) ∧
  (∀ (c : Sel) (v : Word) (hw : List HwUpdate) (s : State),
     let frame (w : Fin 32) : FrameIn := ⟨c, crc32 (cmdByte 1 w :: 0 :: wordsBytes [v]), false, []⟩
     (s.custodian c 8 = true → exec (.writeReg (frame 5) 5 [v] hw) s = .next (modSupply (fun p => { p with
       evt := (p.evt &&& ~~~ v.extractLsb' 0 11) ||| (hwSets 0 hw).extractLsb' 0 11 }) (endFrame c [] stOk 0 s))) ∧
     (s.custodian c 8 = true → exec (.writeReg (frame 6) 6 [v] hw) s = .next (modSupply (fun p => { p with
       dips := min 65535 (field v 0 16 + hwAdds 0 0 hw), denied := min 65535 (field v 16 16 + hwAdds 0 16 hw) })
       (endFrame c [] stOk 0 s))) ∧
     (s.custodian c 16 = true → exec (.writeReg (frame 12) 12 [v] hw) s =
       .next (modSleeve 0 (fun x => { x with tmo := field v 0 10 }) (endFrame c [] stOk 0 s))) ∧
     (∀ page, s.custodian c page = true → field v 0 8 ≤ 16 → page ≤ 16 →
       exec (.writeReg (frame 31) 31 [v] hw) s =
         .next (modSel c (fun x => { x with page := v.extractLsb' 0 8 }) (endFrame c [] stOk 0 s))))

/-- READ_REG rows: the Tally words come from one instant (R61); PWR_WAKEWHY clears exactly the bits it returned, and bits
set while it is read stay (R13, R573); the result window shows the result or zeros and notes why (R471). -/
def Obligations.ReadRows : Prop :=
  ∀ (c : Sel) (during : BitVec 5) (s : State), s.serves c = true → s.early c = false → s.role c = 1 → s.selSleeve c = 0 →
    let shown (data : List Byte) : State → State := modSel c (fun x => { x with
      frames := x.frames + 1, out := ⟨data, s.trailer c stOk 0, []⟩ })
    ((s.sel c).page = 1 → exec (.tlyNowlRead ⟨c, 0, 2, .full, during⟩) s = .next (shown
      (wordBytes (s.tally.now.extractLsb' 0 32) ++ wordBytes (s.tally.now.extractLsb' 32 32)) s)) ∧
    ((s.sel c).page = 8 → exec (.pwrWakewhyRead ⟨c, 7, 1, .full, during⟩) s = .next (shown
      (natBytes 4 s.power.wakeWhy.toNat) (modPower (fun p =>
        let w : BitVec 5 := if s.power.phase = .fold ∨ s.power.phase = .waking then during else 0
        { p with wakeWhy := w, wakePin := (p.wakePin || (w &&& 0x1C) != 0) && (w &&& 0x1C) != 0 }) s))) ∧
    ((s.sel c).page = 16 → exec (.resultWindowRead ⟨c, 22, 8, .full, during⟩) s = .next (shown
      (s.window 0).1 (modSleeve 0 (fun x => { x with dgtErr := x.dgtErr ||| (s.window 0).2 }) s)))

/-! ### Rows that write one register -/

/-- A software reset acts as RESET# asserted and then released; it occurs when the custodian writes 0x0000_C35A to
GBL_RST, at the select release that commits the write, and a write of any other value changes nothing but the select. -/
def Obligations.ResetKeyWrites : Prop :=
  ∀ (c : Sel) (v : Word) (s : State), s.custodian c 0 = true → exec (.gblRstWrite c v) s =
    .next (if v = 0x0000C35A then leaveReset 2 (enterReset (endFrame c [] stOk 0 s)) else endFrame c [] stOk 0 s) ∧
  (v = 0x0000C35A → s.power.extest = false → ∃ a b, exec .resetAssert s = .next a ∧ exec .resetRelease a = .next b ∧
    exec (.gblRstWrite c v) s = .next { b with power := { b.power with cause := 2 } })

/-- KEY_DOOR writes: a changed ACT asks for the DOOR record and writes 0x4020, an unchanged one does neither; MAINT
restarts its minute; a MAINT write that meets the decrement is ignored and counted (R69, R496). MAINT_MINUTE counts it
down each 60 s. While MMF is set the port masters nothing; the custodian clears it by writing 1, and a new event that
meets the clear leaves it set (R433). -/
def Obligations.DoorWrites : Prop :=
  (∀ (c : Sel) (v : Word) (s : State), s.custodian c 7 = true →
     let u := endFrame c [] stOk 0 s
     let put (maint maintAt : Nat) : State → State := modLining (fun l => { l with
       act := field v 0 2, maint := maint, maintAt := maintAt })
     (field v 0 2 = s.lining.act → exec (.keyDoorActWrite c v) s =
       .next { put (field v 2 8) s.now u with dropw := min 65535 s.dropw }) ∧
     (field v 0 2 ≠ s.lining.act → exec (.keyDoorActWrite c v) s =
       .next (raise 0x4020 (pend ⟨.door, .empty, false, .door, none⟩
         { put (field v 2 8) s.now u with dropw := min 65535 s.dropw }))) ∧
     (field v 0 2 = s.lining.act → 0 < s.lining.maint → s.lining.maint ≤ 255 → exec (.keyDoorMaintWrite c v true) s =
       .next { put (s.lining.maint - 1) (s.lining.maintAt + 60000000) u with dropw := min 65535 (s.dropw + 1) }) ∧
     (field v 0 2 = s.lining.act → exec (.keyDoorMaintWrite c v false) s =
       .next { put (field v 2 8) s.now u with dropw := min 65535 s.dropw }) ∧
     (0 < s.lining.maint → s.lining.maintAt + 60000000 ≤ s.now → exec .maintMinute s =
       .next (modLining (fun l => { l with maint := l.maint - 1, maintAt := l.maintAt + 60000000 }) s))) ∧
  (∀ (c : Sel) (v : Word) (again : BitVec 2) (s : State), s.custodian c 9 = true →
     exec (.mmfClear c v again) s = .next
       (modPort 1 (fun p => { p with mmf := (p.mmf && !v.getLsbD 1) || again.getLsbD 1 })
       (modPort 0 (fun p => { p with mmf := (p.mmf && !v.getLsbD 0) || again.getLsbD 0 }) (endFrame c [] stOk 0 s))) ∧
     ∀ p : Fin 3, (s.ports.ports.get p).mmf = true → s.portMasters p = false)

/-- A rank 3 alarm is acknowledged when the custodian writes 1 to GBL_FAULT.ALARM; a new alarm that meets the write leaves
the bit set and is unacknowledged; each write that clears the bit writes event 0xF060 at rank 0, and no other write
does. -/
def Obligations.AlarmAcknowledged : Prop :=
  ∀ (c : Sel) (v : Word) (alarm : Bool) (s : State), s.custodian c 0 = true →
    let u := modLog (fun l => { l with
      alarm := (l.alarm && !v.getLsbD 0) || alarm, loss := l.loss && !v.getLsbD 1 }) (endFrame c [] stOk 0 s)
    exec (.gblFaultAlarmAck c v alarm) s = .next (if s.log.alarm && v.getLsbD 0 && !alarm then raise 0xF060 u else u) ∧
    rankOf 0xF060 = 0

/-- A write of 1 to TLY_CFG.NOREF takes effect at its commit: a REFCLK in use is left and no event is written. A write of
0 starts acquisition: a REFCLK found two windows of 1 ms later is taken into use again (R588, R594). -/
def Obligations.NorefWrites : Prop :=
  ∀ (c : Sel) (v : Word) (s : State), s.custodian c 1 = true →
    exec (.tlyCfgNorefWrite c v) s = .next (modTally (fun t => { t with
      noref := v.getLsbD 0, ref := t.ref && !v.getLsbD 0
      acqAt := if t.noref && !v.getLsbD 0 then t.now.toNat else t.acqAt }) (endFrame c [] stOk 0 s)) ∧
    (v.getLsbD 0 = false → s.tally.running = true → s.tally.ref = false → s.tally.noref = true →
      s.tally.now.toNat + 2000 < 2 ^ 64 → ∀ w1 w2, acceptRef w1 w2 ≠ none →
      ∃ u w, exec (.tlyCfgNorefWrite c v) s = .next u ∧
        exec (.refclkFound (w1, w2)) { u with tally := { u.tally with now := u.tally.now + 2000 } } = .next w ∧
        w.tally.ref = true)

/-! ### Supply and start-up -/

/-- VIN above 4.3 V for 1 ms, below the limits, starts the module from off, and nothing else does; after an over-voltage
it must first fall through 24.0 V (R84, Table 3-1). Its regulators then come up with VCORE at 0.85 V under the start-
up policy, Tally at 0 and no record restored (R112, R589). READY rises when the power-up runs and every thread's test
are over, with the time it took, and not before (R32); a recorded patch is judged once, after a service core's run: an
image that fails leaves ROM microcode in force and writes 0xA003, and its record is kept (R561). -/
def Obligations.StartsAndServes : Prop :=
  (∀ (vinMv hold10mV : Nat) (ioSelOpen : Bool) (s : State),
     (s.power.phase = .off → 4300 < vinMv → vinMv < 24000 → exec (.vinStartQualified vinMv false) s =
       .next (modPower (fun p => { p with phase := .starting, cause := 0 })
         (modSupply (fun p => { p with vinMv := vinMv, switchOn := true, ovOpen := false }) s))) ∧
     (s.power.phase = .off → 24500 < vinMv → exec (.overvoltageDisconnect vinMv) s =
       .next (modSupply (fun p => { p with ovOpen := true }) (modSupply (fun p => { p with vinMv := vinMv }) s))) ∧
     ((s.power.phase ≠ .off ∨ vinMv ≤ 4300 ∨ 24500 ≤ vinMv ∨ s.supply.ovOpen = true ∧ 24000 ≤ vinMv) → exec (.vinStartQualified vinMv false) s = .next s) ∧
     (s.power.phase = .starting → ∃ u, exec (.regulatorsUp ioSelOpen hold10mV) s = .next u ∧
       u.power.phase = (if s.power.rstLow then .inReset else .regulated) ∧ u.power.ioSelOpen = ioSelOpen ∧
       u.supply.vcore = 850 ∧ u.supply.policyOn = true ∧ u.supply.hold10mV = hold10mV ∧ u.supply.policyWord = 40 ∧
       u.tally = { Tally.reset with running := true } ∧ u.lining = s.lining ∧ u.threads = s.threads ∧ u.log = s.log)) ∧
  (∀ s : State,
     (s.readyDue = true → ∃ u, exec .readyRise s = .next u ∧ u.ready = true ∧ u.power.readyMs = s.readyTime ∧
       u.supply = { s.supply with nextMeasure := s.now + 86400000000 } ∧ u.sleeves = s.sleeves ∧ u.ports = s.ports ∧
       u.log = s.log) ∧
     (s.readyDue = false → exec .readyRise s = .next s) ∧
     (∀ core f0 f1, s.power.phase = .startup → s.power.patchDone = false → s.coreRan core = true →
       (recordedImage s.ports.xip f0 = false → recordedImage s.ports.xip f1 = false → exec (.patchRecheck core f0 f1) s =
         .next (raise 0xA003 (readImage true s.ports.xip.recOffset s.ports.xip.recLen
           (modPower (fun p => { p with patchDone := true }) s)))) ∧
       (recordedImage s.ports.xip f0 = true → ∃ u, exec (.patchRecheck core f0 f1) s = .next u ∧ u.power.patchDone = true ∧
         u.ports.xip.version = s.ports.xip.recVersion ∧ u.ports.xip.codeLen = imageCode f0 ∧ u.log = s.log)))

/-- Lining restore: a wrap unit that fails its known-answer test leaves READY low, asserts FAULT#, puts an entry in the
last-resort register and restores nothing (R490); otherwise start-up goes on with a boot epoch one above the restored
one, whose commit is the first that waits (R558), the restored policy in force (R112) and LOG_OPEN and POWER_UP ahead
of every other log entry (R542, R567). The boot-epoch commit is made at the head of the pending queue once the energy
check passes; until then packets with AUTH or SEAL are POWER_DENIED at step 7 (R295, R558). -/
def Obligations.LiningRestores : Prop :=
  (∀ (doorHigh : Bool) (damage : List Damage) (s : State), s.power.phase = .regulated →
     (∃ u, exec (.liningRestore false doorHigh damage) s = .next u ∧ u.power.phase = .halted ∧ u.faultPin = true ∧
       u.ready = false ∧ u.log.lr.length ≠ 0 ∧ u.log.ring = s.log.ring ∧ u.lining = s.lining ∧ u.slots = s.slots ∧
       u.sleeves = s.sleeves ∧ u.fabric = s.fabric ∧ u.threads = s.threads) ∧
     (∃ u, exec (.liningRestore true false damage) s = .next u ∧ u.power.phase = .startup ∧ u.lining.bootDone = false ∧
       u.supply.policyOn = false ∧ u.lining.pending.head? = some ⟨.bootEpoch, .empty, false, .boot, none⟩ ∧
       u.log.opening.map (·.code) = [0x8002, 0xF070] ∧ u.ready = false ∧
       ((s.pair .bootEpoch).loc0 = none → (s.pair .bootEpoch).loc1 = none → u.lining.boot = s.lining.boot + 1) ∧
       (∀ c n, damage = [] → (s.pair .bootEpoch).loc0 = some c → (s.pair .bootEpoch).loc1 = none → c.valid = true →
         c.body = .number n → u.lining.boot = n + 1) ∧
       (∀ c w, damage = [] → (s.pair .power).loc0 = some c → (s.pair .power).loc1 = none → c.valid = true → c.bodyOk = true →
         c.body = .power w → u.supply.policy = w))) ∧
  (∀ (s : State) (c : Commit) (r : List Commit), s.lining.pending = c :: r → c.why = .boot → s.lining.bootDone = false →
     (s.lined = true → s.lining.writer = none → s.lining.zeroPend = false → s.energyOk = true →
       (s.pair .bootEpoch).frozen = false → ∃ u, exec .bootEpochCommit s = .next u ∧
       u.lining.bootDone = true ∧ u.lining.pending = r ∧ u.lining.boot = s.lining.boot ∧ u.sleeves = s.sleeves ∧
       (u.pair c.record).inForce = some (s.pair c.record).inactive ∧ u.lining.waiting = s.lining.waiting) ∧
     ((s.energyOk = false ∨ (s.pair .bootEpoch).frozen = true) → exec .bootEpochCommit s = .next s) ∧
     (∀ (i : Sleeve) (p : Packet) (st : Byte), (p.auth = true ∨ p.sealed = true) → s.intakeFail i p = some st →
       p.wellFormed = true → p.sleeve = i.val → opDefined p.op = true → opCust p.op p.arg = false →
       s.power.phase = .serving → (opMac p.op p.arg = true → p.auth = true) → st = stPowerDenied))

/-- The avalanche rail: in its window it starts conditioning, and without it by 250 ms the A-threads are held (R559,
R560); conditioning over, their holds by the rail end; out of the window every A-thread is held, which is no trip, and
back in it for 1 ms they are held no more (R126, R127). M-threads are not touched. -/
def Obligations.RailHolds : Prop :=
  ∀ (s : State) (v : Nat),
    (s.live = true → s.supply.railUp = false → s.power.railSkipped = false → 1960 ≤ v → v ≤ 2040 →
      exec (.avalancheRailUp v) s = .next (modSupply (fun p => { p with rail10mV := v, railOk := true, railUp := true }) s)) ∧
    (s.power.phase = .startup → 250000 ≤ s.now → (v < 1960 ∨ 2040 < v) → s.power.conditioned = false →
      s.power.railSkipped = false → ∃ u, exec (.railStartupTimeout v) s = .next u ∧ u.supply.railOk = false ∧
        (∀ t, isM t = false → (u.thread t).railHold = true) ∧ u.floor.trips = s.floor.trips ∧
        (∀ k ∈ u.bist.powerUp, k.val < 12 ∨ 16 ≤ k.val)) ∧
    (s.live = true → s.supply.railOk = true → s.power.conditioned = false → ∃ u,
      exec .junctionConditioningDone s = .next u ∧ u.power.conditioned = true ∧
      (∀ t, isM t = false → (u.thread t).railHold = false ∧ (u.thread t).passed = false) ∧
      (∀ t, isM t = true → s.powerRunsDone = false → u.thread t = s.thread t)) ∧
    (s.live = true → s.supply.railOk = true → s.supply.ride = false → (v < 1960 ∨ 2040 < v) → ∃ u,
      exec (.aRailHold v) s = .next u ∧ u.supply.railOk = false ∧ u.floor.trips = s.floor.trips ∧
      (∀ t, isM t = false → (u.thread t).railHold = true) ∧ (∀ t, (u.thread t).health = (s.thread t).health) ∧
      (∀ t, isM t = true → u.thread t = s.thread t)) ∧
    (s.live = true → s.supply.railOk = false → s.supply.ride = false → s.supply.railUp = true → s.power.conditioned = true →
      s.supply.railOutAt + 1000 ≤ s.now → 1960 ≤ v → v ≤ 2040 → ∃ u, exec (.aRailOk v) s = .next u ∧ u.supply.railOk = true ∧
      u.log = (placeEv (mkEv s 0x5002 15 []) s.log).1 ∧ (∀ t, isM t = false → (u.thread t).railHold = false) ∧
      (∀ t, isM t = true → u.thread t = s.thread t))

/-- A brown-out while the module serves begins ride-through: RIDE is set, the charger and the A-threads stop, and
commands, sleeves and instances stay; one before READY turns the module off (R95, R99). An over-voltage does the same
after 0xF004 (R87). A recovery before t_RIDE absorbs the dip: RIDE clears, DIPS counts it, 0xF001 is written and the
A-threads' hold ends (R96, R99). At t_RIDE the module shuts down: a commit in the writer completes, 0xF002 is written,
and the module is off with MRAM and the log's ring alone kept (R97, Table 3-2). -/
def Obligations.DipsRidden : Prop :=
  (∀ (vinMv : Nat) (s : State), s.supply.ride = false →
     (vinMv < 4100 → s.rides = true → ∃ u, exec (.brownout vinMv) s = .next u ∧ u.supply.ride = true ∧ u.supply.rideFrom = s.now ∧
       u.supply.vinMv = vinMv ∧ u.supply.charge = 0 ∧ (∀ t, isM t = false → (u.thread t).rideHold = true) ∧
       u.sleeves = s.sleeves ∧ u.fabric = s.fabric ∧ u.cmds = s.cmds ∧ u.lining = s.lining ∧ u.energyOk = false) ∧
     (vinMv < 4100 → s.rides = false → s.power.phase ≠ .off → ∃ u, exec (.brownout vinMv) s = .next u ∧ u.power.phase = .off ∧
       u.cmds = [] ∧ u.supply.vcore = 0 ∧ u.tally.running = false) ∧
     (24500 < vinMv → s.rides = true → s.supply.ovOpen = false → ∃ u, exec (.overvoltageDisconnect vinMv) s = .next u ∧
       u.supply.ride = true ∧ u.supply.rideOv = true ∧ u.supply.ovOpen = true ∧ u.supply.evt.getLsbD 2 = true ∧
       u.supply.evt.getLsbD 1 = (s.supply.evt.getLsbD 1 || !s.supply.vinHigh) ∧ u.cmds = s.cmds ∧ u.fabric = s.fabric)) ∧
  (∀ (vinMv : Nat) (s : State), s.supply.ride = true →
     (s.supply.recovered vinMv = true → s.now - s.supply.rideFrom ≤ s.supply.rideUs → ∃ u, exec (.vinDip vinMv) s = .next u ∧
       u.supply.ride = false ∧ u.supply.dips = min 65535 (s.supply.dips + 1) ∧ u.supply.evt = s.supply.evt ||| 1 ∧
       u.supply.vinMv = vinMv ∧ u.log = (placeEv (mkEv s 0xF001 15 []) s.log).1 ∧
       (∀ t, isM t = false → (u.thread t).rideHold = false) ∧ u.fabric = s.fabric ∧ u.sleeves = s.sleeves) ∧
     (s.supply.rideUs ≤ s.now - s.supply.rideFrom → ∃ u, exec (.rideExpiry vinMv) s = .next u ∧ u.power.phase = .off ∧
       u.ready = false ∧ u.cmds = [] ∧ u.supply.vcore = 0 ∧ u.supply.switchOn = false ∧ u.tally.running = false ∧
       u.threads = State.reset.threads ∧ u.sleeves = State.reset.sleeves ∧ u.slots = State.reset.slots ∧
       u.lining.mram = (finishWriter s).lining.mram ∧
       (s.log.fenced = false → s.logSusp = false → s.log.keyOk = true →
         ∃ e, u.log.ring.getLast? = some e ∧ e.code = 0xF002 ∧ e.seq = s.log.next)))

/-- RESET# asserted clears every volatile state and keeps MRAM, the log's ring, VCORE and the rail; its release starts
Tally from 0 and power-up from step 4 with cause 1 (R564, R566). -/
def Obligations.ResetPin : Prop :=
  ∀ s : State,
    (s.live = true → ∃ u, exec .resetAssert s = .next u ∧ u.power.phase = .inReset ∧ u.power.rstLow = true ∧ u.ready = false ∧
      u.cmds = [] ∧ u.threads = State.reset.threads ∧ u.sleeves = State.reset.sleeves ∧ u.slots = State.reset.slots ∧
      u.supply.vcore = s.supply.vcore ∧ u.supply.railOk = s.supply.railOk ∧ u.lining.mram = (finishWriter s).lining.mram ∧
      u.log.ring = s.log.ring ∧ u.log.alarm = false) ∧
    (s.power.phase = .inReset → ∃ u, exec .resetRelease s = .next u ∧ u.power.phase = .regulated ∧ u.power.cause = 1 ∧
      u.tally = { Tally.reset with running := true } ∧ u.supply.vcore = 850 ∧ u.supply.policyOn = true ∧
      u.lining = s.lining ∧ u.log = s.log) ∧
    (s.power.phase = .off → exec .resetAssert s = .next (modPower (fun p => { p with rstLow := true, extest := false }) s))

/-- A DOOR alarm clears the service path, writes 0xF050 with the action and sets KEY_EVT.DOOR and OPEN, whatever the
policy; ERASE also empties every slot and instance and leaves a zeroization pending (R497, R498). One opening gives
one alarm (R495). The zeroization marker: the secrets epoch increments, no instance is owned, no slot is loaded, every
command key is the transport key; it needs only E_COMMIT and waits only for the commit in progress (R498). -/
def Obligations.DoorAlarms : Prop :=
  (∀ s : State, s.lined = true →
     (s.lining.armed = true → s.lining.act = 1 → s.lining.zeroPend = false → exec .doorAlarm s = .next (raiseD 0xF050 [1]
       (clearService 2 (modLining (fun l => { l with doorOpen := true, armed := false, evt := l.evt ||| 0x01 }) s)))) ∧
     (s.lining.armed = true → 2 ≤ s.lining.act → s.lining.act ≤ 3 → s.lining.maint = 0 → s.lining.zeroPend = false →
       ∃ u, exec .doorAlarm s = .next u ∧ u.lining.doorOpen = true ∧ u.lining.zeroPend = true ∧ u.digest.clearing = true ∧
         u.lining.evt.getLsbD 0 = true ∧ (∀ k, (u.slot k).hash = 0 ∧ (u.slot k).inner = [] ∧ (u.slot k).outer = []) ∧
         (∀ i k, (u.inst i k).owned = false ∧ (u.inst i k).key = 0) ∧ (∀ i, (u.sleeve i).cmdKey.present = false) ∧
         u.yoke.reservoir = []) ∧
     (s.lining.armed = false → exec .doorAlarm s = .next s) ∧
     (s.lining.doorOpen = true → exec .doorClosed s =
       .next (raise 0xF051 (modLining (fun l => { l with armed := true, doorOpen := false }) s)))) ∧
  (∀ s : State, s.lined = true → s.lining.zeroPend = true →
     (s.lining.writer = none → 250 ≤ s.eavail → (s.pair .secretsEpoch).frozen = false → ∃ u, exec .zeroization s = .next u ∧
       u.lining.secrets = s.lining.secrets + 1 ∧ u.lining.zeroPend = false ∧
       (u.pair .secretsEpoch).inForce = some (s.pair .secretsEpoch).inactive ∧
       (∀ i k, (u.inst i k).owned = false ∧ (u.inst i k).key = 0 ∧ (u.inst i k).v = 0) ∧
       (∀ k, (u.slot k).hash = 0 ∧ (u.slot k).inner = []) ∧
       (∀ i, (u.sleeve i).cmdKey = transportCmdKey i (s.sleeve i).cmdKey.gen)) ∧
     ((s.lining.writer ≠ none ∨ s.eavail < 250 ∨ (s.pair .secretsEpoch).frozen = true) → exec .zeroization s = .next s))

/-! ### Fold and wake -/

/-- FOLD_ENTRY with its reply posted 10 ms ago: ports A and B are off, VCORE is 0.60 V and only the fold thread, an
M-thread in service, keeps its power; what the others had released is gone (R568, R145). Every wake source in fold
sets its bit; the first that may wake starts the transition, cancels the timer, powers ports A and B untrained, and a
device source drives WAKE# (R571, R572, R573). After a trip with THERM_ACT 00 the die below 100 degrees C wakes the
module, with WAKEWHY bit THERMAL; after one with 01 it does not (R109). A wake ends in READY once every thread is
decided: serving with cause 3, the waiting RESUMEs answered, 0xF042 with the wake reasons (R350, R574). -/
def Obligations.FoldAndWake : Prop :=
  (∀ s : State, s.power.phase = .folding → s.power.foldReply = true →
     (s.foldOver = true → ∃ u, exec .foldEntry s = .next u ∧ u.power.phase = .fold ∧ u.ready = false ∧ u.supply.vcore = 600 ∧
       (u.ports.ports.get 0).on = false ∧ (u.ports.ports.get 1).on = false ∧ u.bist.active = [] ∧
       (∀ t, some t ≠ u.power.foldThread → (u.thread t).foldOff = true ∧ (u.thread t).test = .none ∧
         (u.thread t).release = []) ∧
       (∀ t, u.power.foldThread = some t → isM t = true)) ∧
     (s.foldOver = false → exec .foldEntry s = .next s)) ∧
  (∀ s : State, s.power.phase = .fold → s.power.foldTherm = false →
     let wakes (n : Nat) (v : State) (u : State) : Prop := u = beginWake (modPower (fun p => { p with
       wakeWhy := p.wakeWhy ||| BitVec.twoPow 5 n, wakePin := p.wakePin || decide (2 ≤ n) }) v)
     (s.power.wakePin = false → ∃ u, exec .wakePin s = .next u ∧ wakes 1 s u ∧ u.power.phase = .waking ∧ u.power.wakeAt = none ∧
       (u.ports.ports.get 0).on = true ∧ (u.ports.ports.get 0).trained = false ∧ u.supply.vcore = s.supply.vcore) ∧
     (∀ at_, s.power.wakeAt = some at_ → at_ ≤ s.now → ∃ u, exec .wakeTimer s = .next u ∧
       wakes 2 (modPower (fun p => { p with wakeAt := none }) s) u ∧ u.power.wakePin = true) ∧
     (s.power.wakePin = true → exec .wakePin s = .next s)) ∧
  (∀ s : State, s.power.phase = .fold → s.power.foldTherm = true →
     (s.hostOnly = false → s.supply.dieT < 164 → ∃ u, exec .thermalWake s = .next u ∧ u.power.phase = .waking ∧
       u.power.wakeWhy = s.power.wakeWhy ||| 0x8 ∧ u.power.wakePin = true) ∧
     (s.hostOnly = true → exec .thermalWake s = .next s) ∧
     (164 ≤ s.supply.dieT → exec .thermalWake s = .next s)) ∧
  (∀ s : State, s.power.phase = .waking →
     ((∀ t, (s.thread t).decided = true) → ∃ u, exec .wakeReady s = .next u ∧ u.ready = true ∧ u.power.cause = 3 ∧
       u.power.resumes = [] ∧ u.power.wakeWhy = s.power.wakeWhy ∧ u.power.foldThread = none ∧
       (∀ c ∈ u.cmds, c ∈ s.cmds) ∧ (∀ id ∈ s.power.resumes, u.findCmd id = none)) ∧
     ((∃ t, (s.thread t).decided = false) → exec .wakeReady s = .next s))

/-! ### The supply loop and Tally -/

/-- A BELT_PERIOD moves VCORE by at most 10 mV, never below 0.60 V nor above 0.95 V from within that range; it moves down
where the die is limited or input power exceeds the ceiling (R51, R103). DIE_TEMP_SAMPLE: at 125 degrees C LIMIT_TH
holds and 0xF031 is written at its onset; at 135 the trip begins a fold while READY is high (R108, R109); a cool
sample changes nothing but the reading. -/
def Obligations.BeltMoves : Prop :=
  (∀ (b : BeltIn) (s : State), s.live = true → 600 ≤ s.supply.vcore → s.supply.vcore ≤ 950 →
     ∃ u, exec (.beltPeriod b) s = .next u ∧ 600 ≤ u.supply.vcore ∧ u.supply.vcore ≤ 950 ∧
       s.supply.vcore ≤ u.supply.vcore + 10 ∧ u.supply.vcore ≤ s.supply.vcore + 10 ∧ u.supply.vinMv = b.vinMv ∧
       u.supply.pinMw = b.pinMw ∧ u.supply.hold10mV = b.hold10mV ∧
       (s.beltMoves = false → u.supply.vcore = s.supply.vcore) ∧
       (s.beltMoves = true → (s.supply.limitTh = true ∨ s.supply.ceiling b.vinMv < b.pinMw) → u.supply.vcore ≤ s.supply.vcore ∧
         (600 < s.supply.vcore → u.supply.vcore + 10 = s.supply.vcore ∨ u.supply.vcore = 600))) ∧
  (∀ (dieT : Nat) (s : State), s.live = true → dieT < 256 →
     ∃ u, exec (.dieTempSample dieT) s = .next u ∧ u.supply.dieT = dieT ∧ u.supply.limitTh = decide (189 ≤ dieT) ∧
       (184 ≤ dieT → u.supply.throttled = true) ∧ (dieT < 179 → u.supply.throttled = false) ∧
       (189 < dieT → u.supply.paceLow = true) ∧ (dieT < 184 → u.supply.paceLow = false) ∧
       (189 ≤ dieT → s.supply.limitTh = false → u.supply.evt.getLsbD 9 = true) ∧
       (199 ≤ dieT → s.ready = true → s.power.foldTherm = false → u.power.phase = .folding ∧ u.power.foldTherm = true) ∧
       (dieT < 199 → u.power = s.power))

/-- HOLD is measured every 24 h while serving, once it stands at 22.0 V; the result sets HOLD_FAULT below 20 uF, above
1500 uF or short, HOLD_LOW below 150 uF, with their events (R90, R91). VIN above 18.5 V sets VIN_HIGH and writes
0xF003 once for each excursion; the excursion ends through 18.0 V (R86). REFCLK found, lost and measured: two windows
of 1 ms in one band since acquisition began take it into use, the loss that the detector of R592 finds takes Tally off
it, the oscillator is measured once in a second; the source, the sticky bits and the events; a lost reference stays
PRESENT (R591, R592, R593). Tally's count is not touched. -/
def Obligations.HoldAndSources : Prop :=
  (∀ s : State, s.supply.ride = false →
     (s.ready = true → s.supply.measuring = false → s.supply.nextMeasure ≤ s.now → ∃ u, exec .holdMeasureDue s = .next u ∧
       u.supply.nextMeasure = s.now + 86400000000 ∧
       (s.supply.charge = 2 → u.supply.measuring = true ∧ u.supply.charge = 0) ∧
       (s.supply.charge ≠ 2 → u.supply.measureDue = true ∧ u.supply.charge = s.supply.charge)) ∧
     (s.live = true → 5 ≤ s.supply.charge → ∃ u, exec .holdCharged s = .next u ∧ u.supply.hold10mV = 2200 ∧
       u.supply.measuring = (s.supply.measuring || s.supply.measureDue) ∧
       u.supply.charge = (if s.supply.measureDue then 0 else 2)) ∧
     (∀ cap short, s.live = true → s.supply.measuring = true → cap ≤ 4095 → ∃ u, exec (.holdMeasureDone cap short) s = .next u ∧
       u.supply.measuring = false ∧ u.supply.holdFault = (short || decide (cap < 20) || decide (1500 < cap)) ∧
       u.supply.holdLow = (!short && decide (cap < 150)) ∧ (short = false → u.supply.cap = cap) ∧
       (u.supply.holdFault = true → u.supply.evt.getLsbD 4 = true ∧ u.energyOk = false) ∧
       (150 ≤ cap → cap ≤ 1500 → short = false → u.log = s.log ∧ u.sleeves = s.sleeves))) ∧
  (∀ (vinMv : Nat) (s : State), s.live = true → 18500 < vinMv →
     (s.supply.vinHigh = false → exec (.vinHigh vinMv) s = .next (raise 0xF003 (modSupply (fun p => { p with
       vinMv := vinMv, vinHigh := true, evt := p.evt ||| 0x002 }) s))) ∧
     (s.supply.vinHigh = true → exec (.vinHigh vinMv) s = .next (modSupply (fun p => { p with vinMv := vinMv }) s)) ∧
     exec .vinHighEnd s = .next (modSupply (fun p => { p with vinHigh := false }) s)) ∧
  (∀ s : State, s.tally.running = true →
     (∀ (w1 w2 : Nat) (f25 : Bool), s.tally.noref = false → s.tally.ref = false → s.tally.acqAt + 2000 ≤ s.now →
       (f25 = false ∧ 9700 ≤ w1 ∧ w1 ≤ 10300 ∧ 9700 ≤ w2 ∧ w2 ≤ 10300 ∨
         f25 = true ∧ 24250 ≤ w1 ∧ w1 ≤ 25750 ∧ 24250 ≤ w2 ∧ w2 ≤ 25750) →
       exec (.refclkFound (w1, w2)) s = .next (raise 0xF080
         (modTally (fun t => { t with ref := true, f25 := f25, present := true, evt := t.evt ||| 2, oscAt := s.now }) s))) ∧
     (∀ w1 w2, (s.tally.noref = true ∨ s.now < s.tally.acqAt + 2000) → exec (.refclkFound (w1, w2)) s = .next s) ∧
     (s.tally.ref = true → exec .refclkLost s =
        .next (raise 0xF081 (modTally (fun t => { t with ref := false, evt := t.evt ||| 1, acqAt := s.now }) s))) ∧
     (∀ e, s.tally.ref = true → s.tally.oscAt + 1000000 ≤ s.now → exec (.oscMeasure e) s =
       .next (modTally (fun t => { t with oscErr := e, oscAt := s.now }) s)) ∧
     (∀ e, (s.tally.ref = false ∨ s.now < s.tally.oscAt + 1000000) → exec (.oscMeasure e) s = .next s))

/-! ### The TAP and timeouts -/

/-- BIST_REQ with GO is judged as a run's request: before READY NOT_READY, a target above 31 or a reserved bit BAD_LENGTH,
else as R345 judges requester 8, and accepted it queues the run; BIST_STAT captures the verdict and the target's
result at one instant, and the IDCODE where IDCODE is the instruction in force (R6); Test-Logic-Reset loads IDCODE and
cancels nothing (R524, R525). -/
def Obligations.TapRequests : Prop :=
  ∀ (v : Word) (s : State), s.power.phase ≠ .off →
    (s.bist.ir = 0x10 → v.getLsbD 31 = true → s.power.phase ≠ .serving → ∃ u, exec (.bistReq v) s = .next u ∧
      u.bist.verdict = stNotReady ∧ u.bist.queue = s.bist.queue) ∧
    (s.bist.ir = 0x10 → v.getLsbD 31 = true → s.power.phase = .serving → bistReqBitsOk v = true → budgetsOk v = true →
      ∀ h : field v 0 7 < 32, (s.openVerdict ⟨field v 0 7, h⟩ 8 = none → ∃ u, exec (.bistReq v) s = .next u ∧
        u.bist.verdict = stAccepted ∧ u.bist.target = ⟨field v 0 7, h⟩ ∧ u.bist.queue.length = s.bist.queue.length + 1)) ∧
    (s.bist.ir = 0x10 → v.getLsbD 31 = true → s.power.phase = .serving → (32 ≤ field v 0 7 ∨ bistReqBitsOk v = false) →
      ∃ u, exec (.bistReq v) s = .next u ∧ u.bist.verdict = stBadLength ∧ u.bist.queue = s.bist.queue) ∧
    (s.bist.ir = 0x11 → exec .bistStatCapture s = .next (modBist (fun b => { b with
      captured := b.verdict :: (b.results.get b.target).bytes }) s)) ∧
    (s.bist.ir = 0x02 → exec .bistStatCapture s = .next (modBist (fun b => { b with
      captured := wordBytes 0x2A581D2B }) s)) ∧
    (∃ u, exec .testLogicReset s = .next u ∧ u.bist = { s.bist with ir := 2 } ∧ u.power.extest = false) ∧
    (∀ code, ∃ u, exec (.updateIr code) s = .next u ∧ u.bist = { s.bist with ir := code } ∧
      u.power.extest = (decide (code = 0) && s.power.rstLow))

/-- COMMAND_TIMEOUT at its deadline withdraws the command, answers it once, TIMEOUT, or NOT_COMMITTED while its commit
waits for the writer, and counts it; a service core that held its request without acknowledging takes a transient
fault (2.1.1); a command whose commit has been granted, and one before its deadline, stay as they are (R308 to R310). -/
def Obligations.CommandsTimeOut : Prop :=
  ∀ (c : Cmd) (s : State), s.findCmd c.id = some c →
    (c.granted = false → c.deadline ≤ s.now → ∃ u, exec (.commandTimeout c.id none) s = .next u ∧ u.findCmd c.id = none ∧
      (u.sleeve c.sl).tmoCnt = min 255 ((s.sleeve c.sl).tmoCnt + 1) ∧
      (s.fabric.ops = [] → s.lining.waiting = [] → s.bist.active = [] → s.bist.readmits = [] →
        (∀ k, (s.ctx c.sl k).cmd = none ∧ (s.ctx c.sl k).waitq = []) →
        ∃ r, (u.sleeve c.sl).replies = (s.sleeve c.sl).replies ++ [r] ∧ r.status = stTimeout ∧ r.tag = c.tag ∧ r.seq = c.seq)) ∧
    (c.granted = false → c.deadline ≤ s.now → ∀ k : Fin 2, (s.digest.cores.get (svcSha k)).inSvc = true →
      ∃ u, exec (.commandTimeout c.id (some (.service k))) s = .next u ∧ u.findCmd c.id = none ∧
        (u.digest.cores.get (svcSha k)).st ≠ .inService) ∧
    (c.granted = true → ∀ held, exec (.commandTimeout c.id held) s = .next s) ∧
    (s.now < c.deadline → ∀ held, exec (.commandTimeout c.id held) s = .next s)

/-! ### Threads -/

/-- One sample of a thread under no test or capture, with no window full: it is held back for its window and counted in
each test, and nothing else changes, unless it brings a run to its cutoff, 61 or 39, or the window's count to 813 or
684: those trip the thread (R151, R154, R155). The ends of windows and blocks: a closed window of a delivering thread
is released as whole bytes, first bit high (R152); a drift figure at its cutoff, 196 or 184, and a block estimate
below 0.25 or 0.40 trip the thread (R156, R161); the servo takes at most one step (R122); a thread silent for 10 us
trips (R162). -/
def Obligations.SamplesTested : Prop :=
  (∀ (t : Thread) (code : BitVec 4) (s : State), s.samples t = true → s.captured t = false →
     let x := s.thread t
     let b := code.getLsbD 0
     let run := if x.rctCount = 0 then 1 else if x.rctLast = b then x.rctCount + 1 else 1
     let same := if x.aptPos = 0 then 1 else if b = x.aptRef then x.aptCount + 1 else x.aptCount
     x.health.bist = false → x.test = .none → x.aptPos < 1024 → x.driftPos < 4096 → x.estPos < 65536 → x.servoPos < 65536 →
     (run ≠ (if t.val < 12 then 61 else 39) → same ≠ (if t.val < 12 then 813 else 684) →
       ∃ u, exec (.threadSample t code) s = .next u ∧ u = modThread t (fun _ => u.thread t) s ∧
         let y := u.thread t
         y.heldBack = b :: x.heldBack ∧
         y.rctCount = run ∧ y.rctLast = b ∧ y.aptCount = same ∧ y.aptPos = x.aptPos + 1 ∧ y.driftPos = x.driftPos + 1 ∧
         y.estPos = x.estPos + 1 ∧ y.estOnes = x.estOnes + bit b ∧ y.health = x.health ∧ y.release = x.release ∧
         y.servoPos = x.servoPos + (if t.val < 12 then 0 else 1)) ∧
     (run = (if t.val < 12 then 61 else 39) → ∃ u, exec (.threadSample t code) s = .next u ∧
       u.floor.trips = min 65535 (s.floor.trips + 1) ∧ u.floor.lastThread = t.val ∧ u.floor.lastKind = 0 ∧
       (u.thread t).heldBack = [] ∧ (x.health.st = .inService → (u.thread t).health.st ≠ .inService)) ∧
     (run ≠ (if t.val < 12 then 61 else 39) → same = (if t.val < 12 then 813 else 684) →
       ∃ u, exec (.threadSample t code) s = .next u ∧ u.floor.trips = min 65535 (s.floor.trips + 1) ∧ u.floor.lastKind = 1 ∧
       (u.thread t).heldBack = [] ∧ (x.health.st = .inService → (u.thread t).health.st ≠ .inService))) ∧
  (∀ (t : Thread) (s : State), s.captured t = false →
     let x := s.thread t
     (x.test = .none → x.aptPos = 1024 → s.delivers t = true → let r := takeBytes 200 (x.bits ++ x.heldBack.reverse)
       exec (.aptWindowClose t) s = .next (modThread t (fun x => { x with
         release := (x.release ++ r.1).take (max x.release.length Config.releaseBytes), bits := r.2
         aptPos := 0, aptCount := 0, heldBack := [] }) s)) ∧
     (x.driftPos = 4096 → driftFigure x < (if t.val < 12 then 196 else 184) → exec (.driftWindowEnd t) s =
       .next (modThread t (fun y => { y with driftPos := 0, driftOnes := 0, driftPairs := 0 }) s)) ∧
     (x.driftPos = 4096 → (if t.val < 12 then 196 else 184) ≤ driftFigure x → ∃ u, exec (.driftWindowEnd t) s = .next u ∧
       u.floor.lastKind = 2 ∧ u.floor.trips = min 65535 (s.floor.trips + 1) ∧
       (x.health.st = .inService → (u.thread t).health.st ≠ .inService)) ∧
     (x.estPos = 65536 → ∃ u, exec (.estimateBlockEnd t) s = .next u ∧ (u.thread t).estPos = 0 ∧
       (u.thread t).ests = (blockEstimate x.estOnes x.estPairs.toList :: x.ests).take 4 ∧
       (blockEstimate x.estOnes x.estPairs.toList < (if t.val < 12 then 250 else 400) → u.floor.lastKind = 3 ∧
         u.floor.trips = min 65535 (s.floor.trips + 1) ∧ (x.health.st = .inService → (u.thread t).health.st ≠ .inService)) ∧
       ((if t.val < 12 then 250 else 400) ≤ blockEstimate x.estOnes x.estPairs.toList →
         (u.thread t).health = x.health ∧ u.floor.trips = s.floor.trips)) ∧
     (isM t = false → x.servoPos = 65536 → x.servoEnd < 15 → x.servo ≤ 127 → ∃ u, exec (.servoBlockEnd t) s = .next u ∧
       (u.thread t).servo = (if 33792 < x.servoOnes then min 127 (x.servo + 1) else if x.servoOnes < 31744 then x.servo - 1
         else x.servo) ∧ (u.thread t).servoPos = 0 ∧ (u.thread t).health = x.health ∧ u.floor = s.floor) ∧
     (s.samples t = true → x.health.bist = false → x.health.st = .inService → (x.test = .full → x.settleAt ≤ s.now) → ∃ u,
       exec (.threadStall t) s = .next u ∧
       u.floor.lastKind = 5 ∧ u.floor.trips = min 65535 (s.floor.trips + 1) ∧ (u.thread t).health.st ≠ .inService ∧
       (u.thread t).passed = false))

/-- The ends of tests: a quarantined thread that passes its 1024-sample test returns to service, one that fails, or that
faulted meanwhile, is retired (R162, R167); a thread in service that passes is credited, one that fails is a start-up
failure (R147, R150); a readmission's passed test asks for its commit. A capture ends with its last sample (R140).
FLOOR_RATIO_UPDATE after 20 us takes the samples that every thread that is not held has produced in the period, shows
the ratio, and enters the below-floor condition at once where the credit is below the floor while READY is high; it
leaves it 10 ms after the ratio recovered (R172, R173, R176). -/
def Obligations.TestsEnd : Prop :=
  (∀ (t : Thread) (s : State), let x := s.thread t
     (x.test = .short → x.testOver = true → x.custHold = false → (x.health.st = .quarantined → x.testBad = false →
         s.recovers (.thread t) = true → ∃ u, exec (.threadRetestEnd t) s = .next u ∧ (u.thread t).health.st = .inService ∧ (u.thread t).passed = true ∧
           u.log = (placeEv (mkEv s 0x5030 15 [BitVec.ofNat 8 t.val]) s.log).1) ∧
       (x.health.st = .quarantined → (x.testBad = true ∨ s.recovers (.thread t) = false) →
         ∃ u, exec (.threadRetestEnd t) s = .next u ∧ (u.thread t).health.st = .retired) ∧
       (x.health.st = .inService → x.testBad = false → ∃ u, exec (.threadRetestEnd t) s = .next u ∧
         (u.thread t).passed = true ∧ (u.thread t).test = .none ∧ (u.thread t).health = x.health) ∧
       (x.health.st = .inService → x.testBad = true → s.captured t = false → ∃ u, exec (.threadRetestEnd t) s = .next u ∧
         (u.thread t).health.st ≠ .inService ∧ u.floor.lastKind = 4)) ∧
     (x.test = .full → x.testOver = true → (x.readmit = false → x.health.st = .inService → x.testBad = false →
         ∃ u, exec (.startupTestEnd t ()) s = .next u ∧ (u.thread t).passed = true ∧ (u.thread t).test = .none) ∧
       (x.readmit = false → x.health.st = .inService → x.testBad = true → ∃ u, exec (.startupTestEnd t ()) s = .next u ∧
         (u.thread t).health.st ≠ .inService ∧ (u.thread t).passed = false ∧ u.floor.lastKind = 4) ∧
       (x.readmit = true → x.testBad = false → ∃ u, exec (.startupTestEnd t ()) s = .next u ∧
         u.lining.waiting = s.lining.waiting ++ [⟨.threads, .empty, false, .readmit (.thread t), s.readmitCmd t⟩] ∧
         (u.thread t).health = x.health)) ∧
     (s.capture.active = true → s.capture.taken = s.capture.total → ∃ u, exec .captureEnd s = .next u ∧
       u.capture.active = false ∧ u.capture.done = true ∧ u.capture.part = [] ∧ u.capture.thread = s.capture.thread) ∧
     (s.capture.taken ≠ s.capture.total → exec .captureEnd s = .next s)) ∧
  (∀ s : State,
     (s.running = true → s.floor.periodAt + 20 ≤ s.now → ∃ u, exec (.floorRatioUpdate ()) s = .next u ∧
       let v : State := { s with threads := u.threads }
       (∀ t, let x := s.thread t
         (u.thread t).count = 0 ∧
         ((x.railHold = true ∨ x.rideHold = true ∨ x.foldOff = true) → (u.thread t).rate = x.rate) ∧
         (x.railHold = false → x.rideHold = false → x.foldOff = false →
           (u.thread t).rate = 20 * x.count / (s.now - s.floor.periodAt))) ∧
       u.floor.ratio = v.ratioOf v.creditSum ∧ u.floor.periodAt = s.now ∧
       (s.ready = true → v.isBelow v.creditSum = true → u.floor.below = true ∧ u.floor.okSince = none) ∧
       (v.isBelow v.creditSum = false → u.floor.below = s.floor.below ∧ u.log = s.log) ∧
       (s.ready = false → u.floor.below = s.floor.below)) ∧
     (s.now < s.floor.periodAt + 20 → exec (.floorRatioUpdate ()) s = .next s) ∧
     (∀ at_, s.floor.okSince = some at_ → s.ready = true → s.floor.below = true → at_ + 10000 ≤ s.now →
       ∃ u, exec .floorRestored s = .next u ∧ u.floor.below = false) ∧
     (∀ at_, s.floor.okSince = some at_ → s.now < at_ + 10000 → exec .floorRestored s = .next s))

/-! ### Yoke, the fabric and the pool -/

/-- Yoke takes one byte of the next thread of its round into the open block and closes the block at 576,000 milli-bits
(R182, R186, R188); a closed block goes to a free core (R190); its hash is staged, and released to the reservoir in
order by a passed known-answer test, discarded with its core by a failed one (R191, R192, R194). A grant gives a
drawer the oldest units (R197). -/
def Obligations.EntropyFlows : Prop :=
  ∀ (s : State) (k : Fin 4),
    (∀ t b r, let v := dropLowCredit s; v.yokeOpen = true → v.nextGiver = some t → (v.thread t).release = b :: r →
      ∃ u, exec .yokeTakeByte s = .next u ∧ (u.thread t).release = r ∧ u.yoke.lastThread = t ∧ u.yoke.reservoir = s.yoke.reservoir ∧
        (s.yoke.openCredit + 8 * v.creditBit t < 576000 → u.yoke.openBytes = s.yoke.openBytes ++ [b] ∧
          u.yoke.openCredit = s.yoke.openCredit + 8 * v.creditBit t ∧ u.yoke.waiting = s.yoke.waiting) ∧
        (576000 ≤ s.yoke.openCredit + 8 * v.creditBit t → u.yoke.openBytes = [] ∧ u.yoke.openCredit = 0 ∧
          u.yoke.waiting = s.yoke.waiting ++ [natBytes 4 s.yoke.blockCount ++
            natBytes 2 (s.yoke.openMask ||| BitVec.twoPow 16 t.val).toNat ++ natBytes 2 (s.yoke.openBytes.length + 1) ++
            s.yoke.openBytes ++ [b]] ∧ u.yoke.blockCount = (s.yoke.blockCount + 1) % 2 ^ 32)) ∧
    (∀ b r ks, s.yoke.waiting = b :: r → s.condTakers = k :: ks → ∃ u, exec .blockToCore s = .next u ∧ u.yoke.waiting = r ∧
      (u.yoke.cores.get k).block = some b ∧ u.yoke.reservoir = s.yoke.reservoir) ∧
    (∀ b, (s.yoke.cores.get k).block = some b → ∃ u, exec (.conditioningDone k) s = .next u ∧
      (u.yoke.cores.get k).block = none ∧
      (u.yoke.cores.get k).staged = (s.yoke.cores.get k).staged ++ [BitVec.ofNat 512 (bytesNat (sha 2 b))] ∧
      u.yoke.idleOrder.getLast? = some k ∧ u.yoke.reservoir = s.yoke.reservoir) ∧
    ((s.yoke.cores.get k).staged ≠ [] → (s.yoke.cores.get k).since + 50 ≤ s.now → exec (.stagingTimeout k) s =
      .next (modCond k (fun x => { x with kat := true }) s)) ∧
    ((s.digest.cores.get (condSha k)).st = .inService → (s.yoke.cores.get k).kat = true →
      (∃ u, exec (.condKatEnd k true) s = .next u ∧ (u.yoke.cores.get k).staged = [] ∧ (u.yoke.cores.get k).kat = false ∧
        u.yoke.reservoir = s.yoke.reservoir ++ (s.yoke.cores.get k).staged.flatMap unitsOf ∧
        u.yoke.blkCount = min (2 ^ 32 - 1) (s.yoke.blkCount + (s.yoke.cores.get k).staged.length) ∧ u.digest = s.digest) ∧
      (∃ u, exec (.condKatEnd k false) s = .next u ∧ (u.yoke.cores.get k).staged = [] ∧
        u.yoke.reservoir = s.yoke.reservoir ∧ (u.digest.cores.get (condSha k)).st ≠ .inService ∧
        u.yoke.discCount = min 65535 (s.yoke.discCount + (s.yoke.cores.get k).staged.length))) ∧
    (∀ n id o, s.running = true → s.floor.below = false → s.fabric.drawers[n]? = some id → s.findOp id = some o →
      o.kind ≠ .getSeed → 3 ≤ s.yoke.reservoir.length → ∃ u q, exec (.reservoirGrant n) s = .next u ∧
        u.yoke.reservoir = s.yoke.reservoir.drop 3 ∧ u.findOp id = some q ∧ q.phase = .updSeed ∧
        q.seed = (s.yoke.reservoir.take 3).flatMap (fun w => natBytes 16 w.toNat) ∧
        u.yoke.drawCount = min (2 ^ 32 - 1) (s.yoke.drawCount + 3))

/-- A pocket grant at an admitted boundary of a free counter lane claims the lowest free pocket for the operation that
goes before every other (R228, R239), unless two Updates wait (R208); behind waiting claims its own waits for the next
round (R56, R241). Its blocks are those of CTR_DRBG from the instance's key and V (R213). An Update grant puts the
first waiting Update on the lane; a booking that is allowed lets its operation go on (R245). -/
def Obligations.FabricGrants : Prop :=
  ∀ (s : State) (k : Fin 4), s.running = true →
    (∀ o p, let v := finishCounter k s
      v.counterFree k = true → v.supply.share = 16 → v.waitingUpdates.length < 2 → v.pick v.competing = some o →
      (v.fabric.claims = [] → v.pool.lowestFree = some p → ∃ u, exec (.pocketGrant k) s = .next u ∧
        (u.fabric.cores.get k).counter = .pocket o.id p ∧ u.pool.free = clearPBit v.pool.free p ∧ u.fabric.claims = [] ∧
        u.fabric.lastSleeve = o.sl ∧ (∀ x, u.pocket p = some x → x.owner = o.sl)) ∧
      (v.fabric.claims ≠ [] → o.isStream = false → ∃ u, exec (.pocketGrant k) s = .next u ∧
        u.fabric.claims = v.fabric.claims ++ [⟨o.id, some k, [], true⟩] ∧ u.pool = v.pool ∧ u.fabric.lastSleeve = o.sl)) ∧
    (∀ o p x, o.isStream = false → s.pocket p = some x →
      (finishPocket o p s).pocket p = some { x with
        bytes := ((drbgBlocks (s.inst o.sl o.inst).key ((o.pocketBytes + 15) / 16) (s.inst o.sl o.inst).v).1).take o.pocketBytes
        filled := true } ∧
      ((finishPocket o p s).inst o.sl o.inst).v =
        (drbgBlocks (s.inst o.sl o.inst).key ((o.pocketBytes + 15) / 16) (s.inst o.sl o.inst).v).2) ∧
    (∀ o, let v := finishUpdateLane k s
      (v.fabric.cores.get k).health.inSvc = true → v.pick v.waitingUpdates = some o →
      ∃ u, exec (.updateLaneGrant k false) s = .next u ∧ (u.fabric.cores.get k).update = .update o.id ∧
        (u.fabric.cores.get k).counter = (v.fabric.cores.get k).counter ∧ u.pool = v.pool) ∧
    (∀ n o, s.waitingBookings[n]? = some o → (s.pool.mayBook o.sl o.needs = true →
        exec (.bookingAllowed n) s = .next (settleFabric (startHead o s))) ∧
      (s.pool.mayBook o.sl o.needs = false → exec (.bookingAllowed n) s = .next s))

/-- The pool: a stalled claim of the present round takes the lowest free pocket (R56, R239, R241); a cleared pocket is
freed (R240); a torn pocket leaves the store for good and is counted (R253); the taken packet's place is freed and a
held push commits (R73, R74); the first built record whose seal can be made gets it (R413, R475). -/
def Obligations.PocketsMove : Prop :=
  ∀ s : State,
    (∀ n c, let v := s.fabric.claimRound
      v.claims[n]? = some c →
      (c.late = true → exec (.pocketClaim n) s = .next (modFabric Fabric.claimRound s)) ∧
      (∀ o p, c.late = false → s.findOp c.op = some o → s.pool.lowestFree = some p →
        ∃ u, exec (.pocketClaim n) s = .next u ∧ u.pool.free = clearPBit s.pool.free p ∧
          (∀ k, c.core = some k → u.fabric.claims = v.claims.eraseIdx n ∧ (u.fabric.cores.get k).counter.op = some o.id ∧
            (o.isStream = false → (u.fabric.cores.get k).counter = .pocket o.id p)) ∧
          (c.core = none → ∃ x, u.pocket p = some x ∧ x.bytes = c.data ∧ x.filled = true))) ∧
    (∀ (p : Fin 4096) (i : Sleeve), s.pool.clearing.find? (fun x => x.1 == p.val) = some (p.val, i) →
      (s.pool.banks.get (bankOf p.val)).masked = false → ∃ u, exec (.pocketFree p) s = .next u ∧
        u.pool.free = setPBit s.pool.free p.val ∧ u.pool.clearing = s.pool.clearing.filter (fun x => x.1 != p.val) ∧
        (u.pool.per.get i).usedCnt = (s.pool.per.get i).usedCnt - 1 ∧ u.pool.claimed = s.pool.claimed) ∧
    (∀ p : Fin 4096, s.pool.torn.getLsbD p.val = false → ∃ u, exec (.pocketTorn p .inside) s = .next u ∧
      u.pool.torn.getLsbD p.val = true ∧ u.pool.lastTorn = p.val ∧ u.pool.uncorr = min 65535 (s.pool.uncorr + 1) ∧
      u.pool.evt.getLsbD 0 = true) ∧
    (∀ (p : Fin 4096) r, s.pool.torn.getLsbD p.val = true → exec (.pocketTorn p r) s = .next s) ∧
    (∀ i, (s.sleeve i).removing = true → exec (.queueRemoval i) s = .next (modSleeve i (fun x => { x with
      removing := false, cmdq := x.cmdq ++ x.heldPush.map (·.1), heldPush := [] }) s)) ∧
    (∀ i n q key, let x := (s.sleeve i).streams.get n
      x.numbered.find? (fun r => (x.sealNow r).isSome) = some q → x.sealNow q = some key → s.svcUp = true →
      ∃ u, exec (.streamSealDone i n) s = .next u ∧
        ((u.sleeve i).streams.get n).sealTag q.1 = some ((hmacWith 0 key.1 key.2 (wordBytes s.lining.boot ++
          wordBytes (s.sleeve i).epoch ++ [BitVec.ofNat 8 i.val, BitVec.ofNat 8 n.val] ++ wordBytes x.run ++
          natBytes 8 q.1.toNat ++ s.pocketBytes i (q.2.map (·.pocket)))).take 16) ∧
        ((u.sleeve i).streams.get n).chain = x.chain ∧ u.pool = s.pool)

/-- Corrected errors of a bank are counted; sixteen within 1 s fault the bank and mask it; a drained bank's scrub decides
between service and retirement; 100 ms after its drain began the pockets still in use are lost (R255). -/
def Obligations.BanksRecover : Prop :=
  ∀ (b : Fin 16) (s : State), let x := s.pool.banks.get b
    (∀ n, let recent := x.errors.filter (fun t => decide (s.now - t < 1000000))
      (n + recent.length < 16 → exec (.bankEccStorm b n) s = .next (modBank b (fun y => { y with
        errors := List.replicate n s.now ++ recent }) (modPool (fun q => { q with corr := min 65535 (q.corr + n) }) s))) ∧
      (16 ≤ n + recent.length → x.health.st = .inService → x.health.bist = false → ∃ u, exec (.bankEccStorm b n) s = .next u ∧
        (u.pool.banks.get b).health.st ≠ .inService ∧ (u.pool.banks.get b).masked = true ∧
        u.pool.corr = min 65535 (s.pool.corr + n) ∧ u.pool.torn = s.pool.torn)) ∧
    (x.health.st = .quarantined → x.health.retest = true → x.health.bist = false → s.pool.bankIdle b = true →
      (s.recovers (.bank b) = true → ∃ u, exec (.bankScrub b true) s = .next u ∧ (u.pool.banks.get b).health.st = .inService ∧
        (u.pool.banks.get b).masked = false ∧ u.pool.torn = s.pool.torn) ∧
      (∃ u, exec (.bankScrub b false) s = .next u ∧ (u.pool.banks.get b).health.st = .retired)) ∧
    (x.masked = true → s.pool.bankIdle b = false → x.since + 100000 ≤ s.now →
      exec (.bankDrainTimeout b) s = .next (settleFabric (forceDrain b s))) ∧
    (s.now < x.since + 100000 → exec (.bankDrainTimeout b) s = .next s)

/-! ### Lanes, push windows and port F -/

/-- A burst takes its lane out of service and untrains the port (R377). Push windows: PUSH_WINDOW_START opens the first
window whose span begins no earlier than the last one's end and has not itself ended, once that span has begun, or
skips it (R434, R435, R443); the port it holds queues its probe while probe and record can still end in the span
(R426, R438). A probe comes every 10 us, and two consecutive high samples serve the window (R437 to R439); a transfer
delivers the head record of its stream in one select period or one for each word (R426 to R428); a slave select low at
the claim point keeps the port (R423). A window missed widens the guard, and the fourth in a row marks the entry LOST
(R441, R442); the actions that waited for the window's end apply with it (R356); a second master ends every open
window of the port (R431). Port F: a line that verifies from F0 enters the buffer; one that only F1 holds is marked
and counted; an address outside the patch, or a line that neither holds, turns the patch off and is counted (R448 to
R451). In fold port F is off, and every line that the buffer lacks is such a fault (R363). -/
def Obligations.PushWindows : Prop :=
  (∀ (port : Port) (lane : Fin 8) (s : State), let p := portIx port
     (p = 2 → lane.val < 4) → (s.ports.ports.get p).on = true → (s.health (.lane (laneFin p lane))).st = .inService →
     ∃ u, exec (.crcBurst port lane) s = .next u ∧ (u.ports.ports.get p).trained = false ∧
       (u.health (.lane (laneFin p lane))).st ≠ .inService ∧ u.sleeves.map (fun x => x.streams) = s.sleeves.map (fun x => x.streams)) ∧
  (∀ (i : Sleeve) (e : Fin 4) (s : State),
     let x := s.entry (i, e)
     let w := (s.sleeve i).pushWords e
     let epoch := (s.sleeve i).pushEpoch e w
     let span := spanOf w epoch x.doublings
     (∀ k, peEnabled w = true → x.opened = false → s.ready = true → x.after ≤ (span k).1 →
       (∀ j, j < k → (span j).1 < x.after ∨ (span j).2 ≤ s.now) → (span k).1 ≤ s.now → s.now < (span k).2 →
       (s.pushResolves i w = true → s.portMasters (pePort w) = true → x.suspended = false → x.lost = false →
         exec (.pushWindowStart i e) s = .next (pushEngine (pePort w) (modPush i e (fun y => { y with
           opened := true, words := w, spanStart := (span k).1, spanEnd := (span k).2, acked := false, sent := 0
           nextProbe := s.now }) s))) ∧
       ((s.pushResolves i w = false ∨ s.portMasters (pePort w) = false ∨ x.suspended = true ∨ x.lost = true) →
         exec (.pushWindowStart i e) s = .next (modPush i e (fun y => { y with after := (span k).2 }) s))) ∧
     (let p := pePort x.words
      let c := pePartner x.words
      let cfg := s.partnerCfg c
      let port := s.ports.ports.get p
      let len := ((s.sleeve i).streams.get (peStream x.words)).recordLen
      s.holder p = some (i, e) → x.acked = false → x.nextProbe ≤ s.now → s.portMasters p = true → port.queue.length < 8 →
      port.queue.all (fun m => !(m.probe && m.sl == i && m.entry == e)) = true →
      s.endsBy (2 * claimThirds + probeThirds cfg.1 + gapThirds + entryThirds cfg.1 cfg.2 port.width len) x.spanEnd = true →
       ((pushEngine p s).ports.ports.get p).queue = port.queue ++ [⟨i, e, true, c, peStream x.words, x.spanEnd, cfg.1, cfg.2⟩]) ∧
     (let p := pePort x.words
      let v := pushEngine p s
      ∀ m r lane0, s.portMasters p = true → (v.ports.ports.get p).queue = m :: r → m.probe = true → m.sl = i → m.entry = e →
      x.opened = true → x.acked = false → s.endsBy (claimThirds + probeThirds m.rate) m.deadline = true →
       exec (.pushProbe i e ⟨true, lane0⟩) s = .next v ∧
       ∃ u, exec (.pushProbe i e ⟨false, lane0⟩) s = .next u ∧ (u.entry (i, e)).nextProbe = s.now + 10 ∧
         (u.entry (i, e)).sent = x.sent ∧ (u.sel m.partner).out = ⟨[], [], [0]⟩ ∧
         ((u.entry (i, e)).acked = true ↔ ∃ k, k < 31 ∧ lane0.getLsbD k = true ∧ lane0.getLsbD (k + 1) = true) ∧
         ((u.entry (i, e)).acked = true → (u.entry (i, e)).lastMissed = false ∧
           (u.entry (i, e)).served = (x.served + 1) % 2 ^ 32)) ∧
     (∀ (port : Port) lane0, let p := portIx port
       let v := pushEngine p s
       s.portMasters p = true →
       exec (.masterTransfer port ⟨true, lane0⟩) s = .next v ∧
       ∀ m r, (v.ports.ports.get p).queue = m :: r → m.probe = false → v.transferable p m = true →
         let y := (v.sleeve m.sl).streams.get m.stream
         let body := v.streamBody m.sl m.stream (y.frames.headD [])
         let rec_ := recordBytes body stOk 0 (y.record.toNat % 65536)
         ∃ u more, exec (.masterTransfer port ⟨false, lane0⟩) s = .next u ∧ (u.ports.ports.get p).queue = r ++ more ∧
           (u.entry (m.sl, m.entry)).sent = (s.entry (m.sl, m.entry)).sent + 1 ∧
           (u.sel m.partner).out = ⟨rec_.1, rec_.2, entryPeriods m.cont (body.length + 8)⟩) ∧
     (x.opened = true → x.spanEnd ≤ s.now →
       ((x.acked = true ∨ s.portMasters (pePort x.words) = false) → ∃ u, exec (.pushSpanEnd i e) s = .next u ∧
         u.entry (i, e) = { x.acts.foldl PushAct.apply { x with opened := false, after := x.spanEnd } with acts := [] } ∧
         u.log = s.log) ∧
       (x.acked = false → s.portMasters (pePort x.words) = true → x.acts = [] → ∃ u,
         exec (.pushSpanEnd i e) s = .next u ∧ (u.entry (i, e)).opened = false ∧ (u.entry (i, e)).after = x.spanEnd ∧
         (u.entry (i, e)).missed = (x.missed + 1) % 2 ^ 32 ∧
         (x.doublings < 3 → (u.entry (i, e)).doublings = x.doublings + 1 ∧ (u.entry (i, e)).lost = x.lost) ∧
         (3 ≤ x.doublings → (u.entry (i, e)).doublings = x.doublings ∧ (u.entry (i, e)).lost = true))) ∧
     (∀ (port : Port) (inTransfer : Bool), let p := portIx port
       s.portMasters p = true → (∃ c, selPort c = p ∧ (s.route c).role = 2) → ∃ u,
         exec (.multiMaster (port, inTransfer)) s = .next u ∧
         (u.ports.ports.get p).mmf = true ∧ (u.ports.ports.get p).queue = [] ∧
         (∀ q : Sleeve × Fin 4, pePort (s.entry q).words = p → (u.entry q).opened = false))) ∧
  (∀ (addr : Word) (f0 f1 : List Byte) (s : State), s.ports.xip.off = false → s.ports.xip.version ≠ 0 →
     let x := s.ports.xip
     let base := codeBase x.offset
     let n := (addr.toNat - base) / 64
     (base ≤ addr.toNat → addr.toNat < base + x.codeLen → addr.toNat < 0x02000000 → (∀ b ∈ x.buffer, b.1 ≠ n) →
       (s.svcUp = true → s.power.phase ≠ .fold →
         (n ∉ x.f1only → s.lineOk (base + 64 * n) n f0 = true → exec (.xipFetch addr f0 f1) s =
           .next (modXip (touchLine n f0) (readFlash false (base + 64 * n - 0x01000000) s))) ∧
         (n ∉ x.f1only → s.lineOk (base + 64 * n) n f1 = true → ∃ u, exec (.xipFetch addr f0 f1) s = .next u ∧
           u.ports.xip.off = false ∧ u.cmds = s.cmds ∧ (s.lineOk (base + 64 * n) n f0 = false →
             n ∈ u.ports.xip.f1only ∧ u.ports.xip.f0fail = min 65535 (x.f0fail + 1) ∧
             u.ports.xip.buffer.head? = some (n, f1)))) ∧
       ((s.power.phase = .fold ∨ (s.lineOk (base + 64 * n) n f0 = false ∧ s.lineOk (base + 64 * n) n f1 = false)) → ∃ u,
         exec (.xipFetch addr f0 f1) s = .next u ∧ u.ports.xip.off = true ∧ u.ports.xip.version = 0 ∧
         u.ports.xip.fault = min 65535 (x.fault + 1))) ∧
     ((addr.toNat < base ∨ base + x.codeLen ≤ addr.toNat) → ∃ u, exec (.xipFetch addr f0 f1) s = .next u ∧
       u.ports.xip.off = true ∧ u.ports.xip.version = 0 ∧ u.ports.xip.fault = min 65535 (x.fault + 1) ∧
       (s.cmds = [] → u.sleeves = s.sleeves)))

/-! ### The journal -/

/-- A commit whose energy check passes enters the writer, and its command cannot time out; one whose check fails is
POWER_DENIED (R93, R309), and one whose route or quota table would break its rule by now is refused (R322, R323). At
the marker the copy has the next generation at the inactive location, the record is in force and its effect is made
(R487); a failed read-back leaves the record in force as it was and counts, and the third freezes it (R488). Records
of the module's own retry from the head of their queue (R94). A failed check reloads the entry from its copy (R483). -/
def Obligations.JournalCommits : Prop :=
  ∀ s : State,
    (∀ n c, s.lining.waiting[n]? = some c → s.writerFree = true → s.frozenRec c.record = false →
      (s.commitOk c = false → ∃ u, exec (.journalCommitGrant n) s = .next u ∧ u.lining.writer = none ∧
        u.lining.waiting = s.lining.waiting.eraseIdx n ∧ u.lining.mram = s.lining.mram ∧
        (∀ id, c.cmd = some id → u.findCmd id = none)) ∧
      (s.commitOk c = true → s.lining.bootDone = true → s.energyOk = true → ∃ u x, exec (.journalCommitGrant n) s = .next u ∧
        u.lining.waiting = s.lining.waiting.eraseIdx n ∧ u.lining.writer = some x ∧ x.record = c.record ∧ x.why = c.why ∧
        x.cmd = c.cmd ∧ u.lining.mram = s.lining.mram ∧ (∀ k ∈ u.cmds, c.cmd = some k.id → k.granted = true)) ∧
      (s.energyOk = false → c.why = .power → ∃ u, exec (.journalCommitGrant n) s = .next u ∧
        u.lining.waiting = s.lining.waiting.eraseIdx n ∧ u.lining.writer = none ∧ u.lining.mram = s.lining.mram ∧
        u.supply.policy = s.supply.policy ∧ u.supply.denied = min 65535 (s.supply.denied + 1) ∧
        (∀ id, c.cmd = some id → u.findCmd id = none))) ∧
    (∀ c, s.lining.writer = some c → s.copies c = [c] → ∃ u new, exec .journalCommitMarker s = .next u ∧
      u.lining.writer = none ∧ (u.pair c.record).inForce = some (s.pair c.record).inactive ∧ new = s.newCopy c ∧
      (if (s.pair c.record).inactive = 0 then
        (u.pair c.record).loc0 = some new ∧ (u.pair c.record).loc1 = (s.pair c.record).loc1
       else (u.pair c.record).loc1 = some new ∧ (u.pair c.record).loc0 = (s.pair c.record).loc0) ∧
      (∀ w, c.why = .power → c.body = .power w → u.supply.policy = w) ∧
      (∀ rs, c.why = .route → c.body = .route rs → ∀ k : Sel, u.route k = rs.getD k.val ⟨0, 0⟩) ∧
      (∀ k hash inner outer, c.why = .keyLoad k → c.body = .slot hash inner outer → s.lining.zeroPend = false →
        c.record = .slot k → u.slot k = { s.slot k with
          hash := hash, inner := inner, outer := outer, owned := true, gen := (u.pair (.slot k)).newestGen }) ∧
      (∀ o ow key v, c.why = .instantiate o.id → c.body = .inst ow key v → s.lining.zeroPend = false → s.fabric.ops = [o] →
        (u.inst o.sl o.inst).owned = true ∧ (u.inst o.sl o.inst).key = key ∧ (u.inst o.sl o.inst).v = v ∧
        u.fabric.ops = [])) ∧
    (∀ c, s.lining.writer = some c → c.why = .power → ∃ u, exec .journalReadbackFail s = .next u ∧ u.lining.writer = none ∧
      u.supply.policy = s.supply.policy ∧ (u.pair c.record).inForce = (s.pair c.record).inForce ∧
      (u.pair c.record).fails = (s.pair c.record).fails + 1 ∧
      (u.pair c.record).frozen = ((s.pair c.record).frozen || decide (2 ≤ (s.pair c.record).fails)) ∧
      u.lining.wrFail = min 255 (s.lining.wrFail + 1) ∧ u.lining.evt.getLsbD 4 = true) ∧
    (∀ c r, s.lining.pending = c :: r → s.writerFree = true → s.lining.bootDone = true →
      (s.frozenRec c.record = false → s.energyOk = true → ∃ u x, exec .pendingRetry s = .next u ∧
        u.lining.writer = some x ∧ x.record = c.record ∧ x.why = c.why ∧ u.lining.pending = s.lining.pending ∧
        u.lining.mram = s.lining.mram) ∧
      (s.frozenRec c.record = true → exec .pendingRetry s = .next (modLining (fun l => { l with pending := r }) s)) ∧
      (s.frozenRec c.record = false → s.energyOk = false → exec .pendingRetry s = .next s)) ∧
    (s.lined = true → ∃ u, exec (.liningCheckFail .power) s = .next u ∧ u.lining.evt.getLsbD 2 = true ∧
      (∀ w, (s.restorePair (s.pair .power)).body = some (.power w) → u.supply.policy = w) ∧
      u.log = (placeEv (mkEv s 0x4010 15 []) s.log).1)

/-! ### Units, the service path, BIST and containment -/

/-- Faults of cores, instances and slots: a mismatch and a failed known-answer compression take their core out of service
and are counted (R209, R456, R457); a re-test decides between service and retirement (R210, R458); an instance or slot
whose check fails is quarantined, and with the tick that ends its reload it returns from its copy, an owned instance
reseed-required, or is retired without a good one or with a further fault (R219, R462, R528). -/
def Obligations.UnitsRecover : Prop :=
  ∀ (s : State) (k : Fin 4) (c : Fin 2) (e : Fin 16) (i : Sleeve) (slot : Fin 32),
    ((s.fabric.cores.get k).health.st = .inService → (s.fabric.cores.get k).health.bist = false →
      ∀ reader, ∃ u, exec (.aesMismatch ⟨k, reader⟩) s = .next u ∧ (u.fabric.cores.get k).health.st ≠ .inService ∧
        u.fabric.mismatch = min 65535 (s.fabric.mismatch + 1) ∧ u.fabric.evt.getLsbD 0 = true) ∧
    ((s.fabric.cores.get k).health.st = .quarantined → (s.fabric.cores.get k).health.retest = true →
      (s.fabric.cores.get k).health.bist = false →
      (s.recovers (.aes k) = true → ∃ u, exec (.aesRetestEnd k true) s = .next u ∧ (u.fabric.cores.get k).health.st = .inService ∧
        u.fabric.ops = s.fabric.ops ∧ u.fabric.insts = s.fabric.insts) ∧
      (∃ u, exec (.aesRetestEnd k false) s = .next u ∧ (u.fabric.cores.get k).health.st = .retired ∧
        u.fabric.ops = s.fabric.ops ∧ u.fabric.insts = s.fabric.insts)) ∧
    (s.svcOn (engineCore e) = true →
      (∃ u, exec (.svcKat e true) s = .next u ∧ (u.digest.engines.get e).since = 0 ∧ (u.digest.engines.get e).suspects = [] ∧
        (u.digest.engines.get e).katAt = s.now ∧ (u.digest.engines.get e).alt = !(s.digest.engines.get e).alt ∧
        u.digest.contexts = s.digest.contexts ∧ u.digest.cores = s.digest.cores ∧ u.log = s.log) ∧
      (∃ u, exec (.svcKat e false) s = .next u ∧ (u.digest.cores.get (svcSha (engineCore e))).st ≠ .inService ∧
        u.digest.katFail = min 65535 (s.digest.katFail + 1) ∧ u.digest.evt.getLsbD 0 = true ∧
        (u.digest.engines.get e).suspects = [])) ∧
    ((s.digest.cores.get (svcSha c)).inSvc = true → ∃ u, exec (.svcCoreFault c) s = .next u ∧
      (u.digest.cores.get (svcSha c)).st ≠ .inService ∧
      (∀ i k x, x ∈ enginesOf c → (i, k) ∈ (s.digest.engines.get x).suspects → u.ctx i k = Context.reset ∨ u.ctx i k = s.ctx i k)) ∧
    ((s.digest.cores.get (svcSha c)).st = .quarantined → (s.digest.cores.get (svcSha c)).retest = true →
      (s.digest.cores.get (svcSha c)).bist = false →
      (s.recovers (.sha (svcSha c)) = true → ∃ u, exec (.svcRetestEnd c true) s = .next u ∧ (u.digest.cores.get (svcSha c)).st = .inService ∧
        u.digest.contexts = s.digest.contexts) ∧
      (∃ u, exec (.svcRetestEnd c false) s = .next u ∧ (u.digest.cores.get (svcSha c)).st = .retired ∧
        u.digest.contexts = s.digest.contexts)) ∧
    ((s.inst i k).health.st = .inService → (s.inst i k).owned = true → ∀ good, ∃ u, exec (.instLiningFault i k good) s = .next u ∧
      (u.inst i k).health.st ≠ .inService ∧ ((u.inst i k).health.st = .quarantined → (u.inst i k).copyOk = good) ∧ u.fabric.evt.getLsbD 2 = true) ∧
    ((s.slot slot).health.st = .inService → ∀ good, ∃ u, exec (.slotLiningFault slot good) s = .next u ∧
      (u.slot slot).health.st ≠ .inService ∧ ((u.slot slot).health.st = .quarantined → (u.slot slot).copyOk = good) ∧ u.digest.evt.getLsbD 4 = true) ∧
    (s.pending = [] → s.tally.running = true → ∃ u, step s = .next u ∧
      ((s.inst i k).health.st = .quarantined → (s.inst i k).health.retest = true →
        ((s.inst i k).copyOk = true → s.recovers (.inst i k) = true →
          (u.inst i k).health.st = .inService ∧ ((u.inst i k).owned = true → (u.inst i k).reseedReq = true)) ∧
        (((s.inst i k).copyOk = false ∨ s.recovers (.inst i k) = false) →
          (u.inst i k).health.st = .retired ∧ (u.inst i k).key = 0)) ∧
      ((s.slot slot).health.st = .quarantined → (s.slot slot).health.retest = true →
        ((s.slot slot).copyOk = true → s.recovers (.slot slot) = true → (u.slot slot).health.st = .inService) ∧
        (((s.slot slot).copyOk = false ∨ s.recovers (.slot slot) = false) →
          (u.slot slot).health.st = .retired ∧ (u.slot slot).hash = 0 ∧ (u.slot slot).inner = [] ∧ (u.slot slot).outer = [])))

/-- The service path's work: a granted engine compresses one block of the next context of the rounds (R455); with a log
verification waiting, that is done first and answered, and none while seals and the entry in hand need every engine
(R29); a bus error begins a clearing (R477); a clearing resets every context and answers every digest command on them
BAD_OPCODE (R478, R479). -/
def Obligations.ServiceWorks : Prop :=
  ∀ (s : State) (e : Fin 16),
    (s.digest.clearing = false →
      (s.digest.engines.get e).katDue s.now = false → s.svcOn (engineCore e) = true → s.rankedAbove < s.enginesUp →
      (∀ i k, s.log.verify = none → s.nextContext = some (i, k) → 2 * blockLen (s.ctx i k).alg ≤ (s.ctx i k).buffer.length →
        ∃ u, exec (.serviceEngineGrant e) s = .next u ∧ u.ctx i k = s.stepCtx (s.ctx i k) ∧
          (u.digest.engines.get e).since = (s.digest.engines.get e).since + 1 ∧ u.digest.lastSleeve = i ∧
          (i, k) ∈ (u.digest.engines.get e).suspects ∧ u.sleeves = s.sleeves ∧ u.cmds = s.cmds) ∧
      (s.log.verify = none → s.nextContext = none → exec (.serviceEngineGrant e) s = .next s) ∧
      (∀ id first count c, s.log.verify = some (id, first, count) → s.findCmd id = some c → c.sealed = false → c.echo = false →
        ∃ u r, exec (.serviceEngineGrant e) s = .next u ∧ u.log.verify = none ∧
          (u.sleeve c.sl).replies = (s.sleeve c.sl).replies ++ [r] ∧ r.status = stOk ∧ r.tag = c.tag ∧
          r.payload = natBytes 4 (verifyRange 0 (s.log.range first count)).1 ++
            wordBytes (verifyRange 0 (s.log.range first count)).2)) ∧
    ((s.digest.clearing = true ∨ s.enginesUp ≤ s.rankedAbove) → exec (.serviceEngineGrant e) s = .next s) ∧
    (∃ u, exec (.serviceBusError none) s = .next u ∧ u.digest = { s.digest with
      clrCount := min 255 (s.digest.clrCount + 1), clrLast := 1, clearing := true } ∧ u.sleeves = s.sleeves ∧
      u.log.alarm = s.log.alarm) ∧
    ((s.digest.cores.get (svcSha (engineCore e))).inSvc = true → ∃ u, exec (.serviceBusError (some e)) s = .next u ∧
      u.digest.clearing = true ∧ (u.digest.cores.get (svcSha (engineCore e))).st ≠ .inService) ∧
    (s.digest.clearing = true → ∃ u, exec .serviceCleared s = .next u ∧ u.digest.clearing = false ∧
      u.digest.evt.getLsbD 3 = true ∧ (∀ i k, u.ctx i k = Context.reset) ∧ (∀ i, (u.sleeve i).dgtErr.getLsbD 2 = true) ∧
      (∀ i k id, id ∈ (s.ctx i k).commands → u.findCmd id = none)) ∧
    (s.digest.clearing = false → exec .serviceCleared s = .next s)

/-- A BIST run: a free place under test takes the next run and its units out of service (R502, R513, R519); it is drained
before its checks; its checks give the outcome, recorded in the slice's result, which reads 1 while a second run waits
(R347, R505, R508 to R510, R516); requests that waited 1 s, and a run that met 125 degrees C, are abandoned with
outcome 5 (R514, R515). -/
def Obligations.BistRuns : Prop :=
  ∀ (s : State) (k : Fin 32),
    let reads (u : State) (n : Nat) : Nat := if u.bist.retests.any (fun x => x.slice == k) || u.bist.again.contains k then 1 else n
    (s.running = true → s.bist.active.length < 2 → s.nextPowerRun = some k → ∃ u, exec .bistSliceStart s = .next u ∧
      u.bist.active = s.bist.active ++ [powerRun k s.now] ∧ k ∉ u.bist.powerUp ∧
      (∀ x ∈ sliceUnits k, (u.health x).bist = true ∧ (u.health x).st = (s.health x).st) ∧
      (∀ p ∈ slicePorts k, (u.ports.ports.get p).on = false)) ∧
    (∀ r, s.running = true → s.bist.active.length < 2 → s.nextPowerRun = none → s.nextRun = some r → s.mayStart = true →
      ∃ u, exec .bistSliceStart s = .next u ∧ u.bist.active = s.bist.active ++ [r] ∧
        (∀ x ∈ s.runUnits r, (u.health x).bist = true ∧ (u.health x).st = (s.health x).st)) ∧
    (2 ≤ s.bist.active.length → exec .bistSliceStart s = .next s) ∧
    (∀ r, s.bist.active.find? (fun x => x.slice == k && !x.drained) = some r →
      (s.drained r = true → ∃ u, exec (.bistDrainDone k) s = .next u ∧
        u.bist.active = s.bist.active.map (fun x => if x.slice = k then { x with drained := true } else x) ∧
        u.digest.contexts = s.digest.contexts) ∧
      (s.drained r = false → exec (.bistDrainDone k) s = .next s)) ∧
    (∀ r parts, s.bist.active.find? (fun x => x.slice == k && x.drained) = some r → r.kind = .opened →
      let expected := Config.misrExpected (sliceType k) r.logic
      (parts.zeroOk = true → parts.overrun = false → parts.misr = expected → parts.secondOk = true → ∃ u,
        exec (.bistRunEnd k parts) s = .next u ∧
        u.bist.results.get k = ⟨reads u 2, r.req, s.now / 1000 % 2 ^ 32, parts.misr, expected⟩ ∧
        u.bist.active = s.bist.active.filter (fun x => x.slice != k) ∧ u.bist.runs = min 65535 (s.bist.runs + 1) ∧
        u.bist.fails = s.bist.fails ∧ (∀ x ∈ sliceUnits k, (u.health x).bist = false ∧ (u.health x).st = (s.health x).st)) ∧
      (parts.zeroOk = false → ∃ u, exec (.bistRunEnd k parts) s = .next u ∧
        u.bist.results.get k = ⟨reads u 3, r.req, s.now / 1000 % 2 ^ 32, 0, expected⟩ ∧
        u.bist.failed.getLsbD k.val = true ∧ u.bist.fails = min 65535 (s.bist.fails + 1) ∧ u.bist.evt.getLsbD 3 = true ∧
        (∀ x ∈ s.runUnits r, (u.health x).st ≠ .inService))) ∧
    (∃ u, exec .bistQueueTimeout s = .next u ∧
      u.bist.queue = s.bist.queue.filter (fun r => decide (s.now < r.since + 1000000)) ∧
      u.bist.readmits = s.bist.readmits.filter (fun r => decide (s.now < r.since + 1000000)) ∧
      (∀ r ∈ s.staleRuns, (u.bist.results.get r.slice).outcome = 5) ∧ u.bist.runs = s.bist.runs) ∧
    (∀ r, s.bist.active.find? (fun x => x.slice == k) = some r → r.kind = .opened →
      ((189 ≤ s.supply.dieT ∨ r.drained = true) → ∃ u, exec (.bistOvertempAbandon k) s = .next u ∧
        (u.bist.results.get k).outcome = reads u 5 ∧ u.bist.fails = s.bist.fails ∧ u.bist.evt.getLsbD 2 = true ∧
        u.bist.active = s.bist.active.filter (fun x => x.slice != k)) ∧
      (s.supply.dieT < 189 → r.drained = false → exec (.bistOvertempAbandon k) s = .next s))

/-- Containment: an event below rank 3 goes to the handler's hand, suspends a lower one, waits, or is lost and counted
(R533, R534); a rank 3 event also raises the alarm and begins a clearing (R531); the sweep reports what was lost
(R535); the log writer appends the event in hand under its chain (R541, R544, R546); a sleeve's fault empties its
queues and keeps its instances (R537, R538), and its re-test returns it under a new epoch or retires it (R539, R540). -/
def Obligations.FaultsContained : Prop :=
  ∀ (s : State) (i : Sleeve),
    (∀ code (source : Fin 16) data, s.live = true →
      let ev := mkEv s code source.val data
      let put (l : Log) : State := { s with log := if rankOf code = 2 then { l with loss := true } else l }
      (rankOf code < 3 → s.log.hand = none → exec (.faultEvent code source data) s =
        .next (put { s.log with hand := some ev })) ∧
      (∀ h, rankOf code < 3 → s.log.hand = some h → h.rank < rankOf code → exec (.faultEvent code source data) s =
        .next (put { s.log with hand := some ev, stack := h :: s.log.stack })) ∧
      (∀ h, rankOf code < 3 → s.log.hand = some h → rankOf code ≤ h.rank → s.log.queue.length < 8 →
        exec (.faultEvent code source data) s = .next (put { s.log with queue := s.log.queue ++ [ev] })) ∧
      (∀ h, rankOf code < 3 → s.log.hand = some h → rankOf code ≤ h.rank → 8 ≤ s.log.queue.length →
        rankOf code ≤ lowestRank s.log.queue → exec (.faultEvent code source data) s =
          .next { s with log := { s.log with lost := min 65535 (s.log.lost + 1), lostNow := s.log.lostNow + 1 } }) ∧
      (rankOf code = 3 → ∃ u, exec (.faultEvent code source data) s = .next u ∧ u.log.alarm = true ∧ u.log.last3 = code ∧
        u.digest.clearing = true ∧ u.digest.clrLast = 4)) ∧
    (s.log.queue = [] → 0 < s.log.lostNow → s.log.lostCmds = [] → (∀ x ∈ allUnits, (s.health x).st ≠ .quarantined) →
      exec .errorsLostSweep s = .next (raiseD 0x8005 (natBytes 4 s.log.lostNow) (modLog (fun l => { l with lostNow := 0 }) s))) ∧
    (s.log.lostNow = 0 → exec .errorsLostSweep s = .next s) ∧
    (∀ ev, s.lined = true → s.log.opening = [] → s.log.hand = some ev →
      (s.log.fenced = false → s.svcUp = true → s.log.keyOk = true → ∃ u x, exec (.logWrite 0) s = .next u ∧
        u.log.ring = s.log.ring.filter (fun y => y.row != x.row) ++ [x] ∧ u.log.next = s.log.next + 1 ∧ x.seq = s.log.next ∧
        x.code = ev.code ∧ x.rank = ev.rank ∧ x.src = ev.src ∧ x.chain = chainTag s.log.lastChain x) ∧
      ((s.log.fenced = true ∨ s.svcUp = false ∨ s.log.keyOk = false) → ∃ u, exec (.logWrite 0) s = .next u ∧
        u.log.ring = s.log.ring ∧ u.log.next = s.log.next + 1 ∧
        ∃ x, u.log.lr.getLast? = some (x, false) ∧ x.code = ev.code ∧ x.seq = s.log.next)) ∧
    (s.lined = true → (s.sleeve i).health.st = .inService → s.fabric.ops = [] → ∃ u, exec (.sleeveFault i) s = .next u ∧
      (u.sleeve i).health.st ≠ .inService ∧ (u.sleeve i).cmdq = [] ∧ (u.sleeve i).cache = [] ∧
      (∀ n, ((u.sleeve i).streams.get n).running = false) ∧ (u.sleeve i).live = (s.sleeve i).live ∧
      (∀ n, (u.inst i n).key = (s.inst i n).key ∧ (u.inst i n).owned = (s.inst i n).owned) ∧
      (∀ j, j ≠ i → (u.sleeve j).cmdq = (s.sleeve j).cmdq ∧ (u.sleeve j).streams = (s.sleeve j).streams)) ∧
    ((s.sleeve i).health.st = .retired → exec (.sleeveFault i) s = .next s) ∧
    ((s.sleeve i).health.retest = true → (s.sleeve i).health.st = .quarantined →
      (s.recovers (.sleeve i) = true → ∃ u, exec (.sleeveRetestEnd i true) s = .next u ∧ (u.sleeve i).health.st = .inService ∧
        (u.sleeve i).epoch = (s.sleeve i).epoch + 1 ∧ (u.sleeve i).seqHi = 0 ∧ (u.sleeve i).consumed = [] ∧ (u.sleeve i).runs = 0 ∧
        (∀ n, (u.inst i n).reseedReq = ((s.inst i n).reseedReq || (s.inst i n).owned) ∧
          (u.inst i n).key = (s.inst i n).key)) ∧
      (s.recovers (.sleeve i) = false → ∃ u, exec (.sleeveRetestEnd i true) s = .next u ∧ (u.sleeve i).health.st = .retired) ∧
      (∃ u, exec (.sleeveRetestEnd i false) s = .next u ∧ (u.sleeve i).health.st = .retired)) ∧
    ((s.sleeve i).health.retest = true → (s.sleeve i).health.st = .retired → i ≠ 0 →
      (∃ u, exec (.sleeveRetestEnd i true) s = .next u ∧ u.lining.waiting = s.lining.waiting ++
        [⟨.sleeves, .empty, false, .readmit (.sleeve i), s.resetCmdOf i⟩] ∧ (u.sleeve i).health.st = .retired) ∧
      (∃ u, exec (.sleeveRetestEnd i false) s = .next u ∧ (u.sleeve i).health.st = .retired ∧
        (u.sleeve i).health.retest = false ∧ u.lining.waiting = s.lining.waiting))
end

