-- ==== Sys2Proof/Laws/Kept.lean ====
section
/-! SUPPORT. The parts of the state that few commands change: the queue, Tally, MRAM, VCORE, the log's ring, policy, routes,
credit factors, the floor, the secrets epoch and the boot epoch. One lemma per operation that leaves them as they are. -/

namespace Sys2Proof.Machine

set_option linter.unusedTactic false
set_option linter.unreachableTactic false
set_option linter.unnecessarySeqFocus false

@[simp] theorem kept_modPower (f : Power → Power) (s : State) : (modPower f s).kept = s.kept := rfl
@[simp] theorem kept_modFabric (f : Fabric → Fabric) (s : State) : (modFabric f s).kept = s.kept := rfl
@[simp] theorem kept_modPool (f : Pool → Pool) (s : State) : (modPool f s).kept = s.kept := rfl
@[simp] theorem kept_modDigest (f : Digest → Digest) (s : State) : (modDigest f s).kept = s.kept := rfl
@[simp] theorem kept_modBist (f : Bist → Bist) (s : State) : (modBist f s).kept = s.kept := rfl
@[simp] theorem kept_modCapture (f : Capture → Capture) (s : State) : (modCapture f s).kept = s.kept := rfl
@[simp] theorem kept_modXip (f : Xip → Xip) (s : State) : (modXip f s).kept = s.kept := rfl
@[simp] theorem kept_modFloor (f : Floor → Floor) (s : State) (h : (f s.floor).pct = s.floor.pct) :
    (modFloor f s).kept = s.kept := by simp [State.kept, modFloor, h]
@[simp] theorem kept_modYoke (f : Yoke → Yoke) (s : State) (h : (f s.yoke).factors = s.yoke.factors) :
    (modYoke f s).kept = s.kept := by simp [State.kept, modYoke, h]
@[simp] theorem kept_modPorts (f : Ports → Ports) (s : State) (h : (f s.ports).routes = s.ports.routes) :
    (modPorts f s).kept = s.kept := by simp [State.kept, modPorts, h]
@[simp] theorem kept_modLog (f : Log → Log) (s : State) (h : (f s.log).ring = s.log.ring) :
    (modLog f s).kept = s.kept := by simp [State.kept, modLog, h]
@[simp] theorem kept_modSupply (f : Supply → Supply) (s : State) (h : (f s.supply).vcore = s.supply.vcore)
    (h' : (f s.supply).policy = s.supply.policy) : (modSupply f s).kept = s.kept := by simp [State.kept, modSupply, h, h']
@[simp] theorem kept_modLining (f : Lining → Lining) (s : State) (h : (f s.lining).mram = s.lining.mram)
    (h' : (f s.lining).secrets = s.lining.secrets) (h'' : (f s.lining).boot = s.lining.boot) :
    (modLining f s).kept = s.kept := by simp [State.kept, modLining, h, h', h'']

@[simp] theorem kept_forAll {β : Type} (l : List β) (f : β → State → State) (s : State)
    (h : ∀ x (u : State), (f x u).kept = u.kept) : (forAll l f s).kept = s.kept := by
  unfold forAll
  induction l generalizing s with
  | nil => rfl
  | cons a r ih => simp [List.foldl_cons, ih, h]

@[simp] theorem kept_when (c : Bool) (f : State → State) (s : State) (h : ∀ u : State, (f u).kept = u.kept) :
    (when' c f s).kept = s.kept := by
  unfold when'; split <;> simp [h]

@[simp] theorem kept_useFree (s : State) : (useFree s).kept = s.kept := by
  simp only [useFree]; (repeat' split) <;> first | (simp [*]; done) | rfl | (simp [*]; rfl)
@[simp] theorem kept_modThread (t : Thread) (f : ThreadSt → ThreadSt) (s : State) : (modThread t f s).kept = s.kept := by
  simp only [modThread]; (repeat' split) <;> first | (simp [*]; done) | rfl | (simp [*]; rfl)
@[simp] theorem kept_modSleeve (i : Sleeve) (f : SleeveSt → SleeveSt) (s : State) : (modSleeve i f s).kept = s.kept := by
  simp only [modSleeve]; (repeat' split) <;> first | (simp [*]; done) | rfl | (simp [*]; rfl)
@[simp] theorem kept_modStream (i : Sleeve) (k : Fin 4) (f : Stream → Stream) (s : State) : (modStream i k f s).kept = s.kept := by
  simp only [modStream]; (repeat' split) <;> first | (simp [*]; done) | rfl | (simp [*]; rfl)
@[simp] theorem kept_modPush (i : Sleeve) (k : Fin 4) (f : PushEntry → PushEntry) (s : State) : (modPush i k f s).kept = s.kept := by
  simp only [modPush]; (repeat' split) <;> first | (simp [*]; done) | rfl | (simp [*]; rfl)
@[simp] theorem kept_modInst (i : Sleeve) (k : Fin 4) (f : Inst → Inst) (s : State) : (modInst i k f s).kept = s.kept := by
  simp only [modInst]; (repeat' split) <;> first | (simp [*]; done) | rfl | (simp [*]; rfl)
@[simp] theorem kept_modSlot (k : Fin 32) (f : Slot → Slot) (s : State) : (modSlot k f s).kept = s.kept := by
  simp only [modSlot]; (repeat' split) <;> first | (simp [*]; done) | rfl | (simp [*]; rfl)
@[simp] theorem kept_modCtx (i : Sleeve) (k : Fin 4) (f : Context → Context) (s : State) : (modCtx i k f s).kept = s.kept := by
  simp only [modCtx]; (repeat' split) <;> first | (simp [*]; done) | rfl | (simp [*]; rfl)
@[simp] theorem kept_modCore (k : Fin 4) (f : AesCore → AesCore) (s : State) : (modCore k f s).kept = s.kept := by
  simp only [modCore]; (repeat' split) <;> first | (simp [*]; done) | rfl | (simp [*]; rfl)
@[simp] theorem kept_modSha (k : Fin 6) (f : Health → Health) (s : State) : (modSha k f s).kept = s.kept := by
  simp only [modSha]; (repeat' split) <;> first | (simp [*]; done) | rfl | (simp [*]; rfl)
@[simp] theorem kept_modCond (k : Fin 4) (f : CondCore → CondCore) (s : State) : (modCond k f s).kept = s.kept := by
  simp only [modCond]; (repeat' split) <;> first | (simp [*]; done) | rfl | (simp [*]; rfl)
@[simp] theorem kept_modBank (b : Fin 16) (f : Bank → Bank) (s : State) : (modBank b f s).kept = s.kept := by
  simp only [modBank]; (repeat' split) <;> first | (simp [*]; done) | rfl | (simp [*]; rfl)
@[simp] theorem kept_modPS (i : Sleeve) (f : PoolSleeve → PoolSleeve) (s : State) : (modPS i f s).kept = s.kept := by
  simp only [modPS]; (repeat' split) <;> first | (simp [*]; done) | rfl | (simp [*]; rfl)
@[simp] theorem kept_modPort (p : Fin 3) (f : PortSt → PortSt) (s : State) : (modPort p f s).kept = s.kept := by
  simp only [modPort]; (repeat' split) <;> first | (simp [*]; done) | rfl | (simp [*]; rfl)
@[simp] theorem kept_modLane (k : Fin 20) (f : Lane → Lane) (s : State) : (modLane k f s).kept = s.kept := by
  simp only [modLane]; (repeat' split) <;> first | (simp [*]; done) | rfl | (simp [*]; rfl)
@[simp] theorem kept_modSel (i : Sel) (f : SelSt → SelSt) (s : State) : (modSel i f s).kept = s.kept := by
  simp only [modSel]; (repeat' split) <;> first | (simp [*]; done) | rfl | (simp [*]; rfl)
@[simp] theorem kept_modHealth (u : UnitRef) (f : Health → Health) (s : State) : (modHealth u f s).kept = s.kept := by
  simp only [modHealth]; (repeat' split) <;> first | (simp [*]; done) | rfl | (simp [*]; rfl)
@[simp] theorem kept_justIdle (k : Fin 4) (s : State) : (justIdle k s).kept = s.kept := by
  simp only [justIdle]; (repeat' split) <;> first | (simp [*]; done) | rfl | (simp [*]; rfl)
@[simp] theorem kept_alert (i : Sleeve) (bits : BitVec 7) (s : State) : (alert i bits s).kept = s.kept := by
  simp only [alert]; (repeat' split) <;> first | (simp [*]; done) | rfl | (simp [*]; rfl)
@[simp] theorem kept_alertLane (p : Fin 3) (s : State) : (alertLane p s).kept = s.kept := by
  simp only [alertLane]; (repeat' split) <;> first | (simp [*]; done) | rfl | (simp [*]; rfl)
@[simp] theorem kept_startFull (t : Thread) (s : State) : (startFull t s).kept = s.kept := by
  simp only [startFull]; (repeat' split) <;> first | (simp [*]; done) | rfl | (simp [*]; rfl)
@[simp] theorem kept_powerThread (t : Thread) (s : State) : (powerThread t s).kept = s.kept := by
  simp only [powerThread]; (repeat' split) <;> first | (simp [*]; done) | rfl | (simp [*]; rfl)
@[simp] theorem kept_beginWake (s : State) : (beginWake s).kept = s.kept := by
  simp only [beginWake]; (repeat' split) <;> first | (simp [*]; done) | rfl | (simp [*]; rfl)
@[simp] theorem kept_wakeSource (n : Nat) (s : State) : (wakeSource n s).kept = s.kept := by
  simp only [wakeSource]; (repeat' split) <;> first | (simp [*]; done) | rfl | (simp [*]; rfl)
@[simp] theorem kept_alarmWake (s : State) : (alarmWake s).kept = s.kept := by
  simp only [alarmWake]; (repeat' split) <;> first | (simp [*]; done) | rfl | (simp [*]; rfl)
@[simp] theorem kept_clearService (cause : Nat) (s : State) : (clearService cause s).kept = s.kept := by
  simp only [clearService]; (repeat' split) <;> first | (simp [*]; done) | rfl | (simp [*]; rfl)
@[simp] theorem kept_rank3Arrives (code : BitVec 16) (s : State) : (rank3Arrives code s).kept = s.kept := by
  simp only [rank3Arrives]; (repeat' split) <;> first | (simp [*]; done) | rfl | (simp [*]; rfl)
theorem placeEv_ring (e : Ev) (l : Log) : (placeEv e l).1.ring = l.ring := by
  simp only [placeEv, countLost]; (repeat' split) <;> rfl
@[simp] theorem kept_offer (e : Ev) (s : State) : (offer e s).1.kept = s.kept := by
  have h : (offer e s).1.kept = (if e.rank = 3 then rank3Arrives e.code s else s).kept := by
    simp only [offer]
    simp only [State.kept, Kept.mk.injEq, and_self, true_and]
    refine ⟨?_, trivial⟩
    (repeat' split) <;> exact placeEv_ring e _
  rw [h]; split <;> simp
@[simp] theorem kept_raiseD (code : BitVec 16) (data : List Byte) (s : State) : (raiseD code data s).kept = s.kept := by
  simp only [raiseD]; (repeat' split) <;> first | (simp [*]; done) | rfl | (simp [*]; rfl)
@[simp] theorem kept_raise (code : BitVec 16) (s : State) : (raise code s).kept = s.kept := by
  simp only [raise]; (repeat' split) <;> first | (simp [*]; done) | rfl | (simp [*]; rfl)
@[simp] theorem kept_raiseS (code : BitVec 16) (i : Sleeve) (data : List Byte) (s : State) : (raiseS code i data s).kept = s.kept := by
  simp only [raiseS]; (repeat' split) <;> first | (simp [*]; done) | rfl | (simp [*]; rfl)
@[simp] theorem kept_raiseA (code : BitVec 16) (data : List Byte) (act : State → State) (s : State) (hact : ∀  (u : State), (act u).kept = u.kept) : (raiseA code data act s).kept = s.kept := by
  simp only [raiseA]; (repeat' split) <;> first | (simp [*]; done) | rfl | (simp [*]; rfl)
@[simp] theorem kept_pend (c : Commit) (s : State) : (pend c s).kept = s.kept := by
  simp only [pend]; (repeat' split) <;> first | (simp [*]; done) | rfl | (simp [*]; rfl)
@[simp] theorem kept_pendRecord (r : RecId) (s : State) : (pendRecord r s).kept = s.kept := by
  simp only [pendRecord]; (repeat' split) <;> first | (simp [*]; done) | rfl | (simp [*]; rfl)
@[simp] theorem kept_startShort (t : Thread) (s : State) : (startShort t s).kept = s.kept := by
  simp only [startShort]; (repeat' split) <;> first | (simp [*]; done) | rfl | (simp [*]; rfl)
@[simp] theorem kept_startRetest (u : UnitRef) (s : State) : (startRetest u s).kept = s.kept := by
  simp only [startRetest]; (repeat' split) <;> first | (simp [*]; done) | rfl | (simp [*]; rfl)
@[simp] theorem kept_retireEvent (u : UnitRef) (s : State) : (retireEvent u s).kept = s.kept := by
  simp only [retireEvent]; (repeat' split) <;> first | (simp [*]; done) | rfl | (simp [*]; rfl)
@[simp] theorem kept_dropTest (u : UnitRef) (s : State) : (dropTest u s).kept = s.kept := by
  simp only [dropTest]; (repeat' split) <;> first | (simp [*]; done) | rfl | (simp [*]; rfl)
@[simp] theorem kept_retireUnit (u : UnitRef) (s : State) : (retireUnit u s).kept = s.kept := by
  simp only [retireUnit]; (repeat' split) <;> first | (simp [*]; done) | rfl | (simp [*]; rfl)
@[simp] theorem kept_untrain (p : Fin 3) (s : State) : (untrain p s).kept = s.kept := by
  simp only [untrain]; (repeat' split) <;> first | (simp [*]; done) | rfl | (simp [*]; rfl)
@[simp] theorem kept_checkPort (p : Fin 3) (s : State) : (checkPort p s).kept = s.kept := by
  simp only [checkPort]; (repeat' split) <;> first | (simp [*]; done) | rfl | (simp [*]; rfl)
@[simp] theorem kept_retireNow (u : UnitRef) (s : State) : (retireNow u s).kept = s.kept := by
  simp only [retireNow]; (repeat' split) <;> first | (simp [*]; done) | rfl | (simp [*]; rfl)
@[simp] theorem kept_handleUnit (u : UnitRef) (at_ : Nat) (s : State) : (handleUnit u at_ s).kept = s.kept := by
  simp only [handleUnit]; (repeat' split) <;> first | (simp [*]; done) | rfl | (simp [*]; rfl)
@[simp] theorem kept_handleHand (s : State) : (handleHand s).kept = s.kept := by
  simp only [handleHand]; (repeat' split) <;> first | (simp [*]; done) | rfl | (simp [*]; rfl)
@[simp] theorem kept_offerUnit (u : UnitRef) (code : BitVec 16) (src : Nat) (data : List Byte) (s : State) : (offerUnit u code src data s).kept = s.kept := by
  simp only [offerUnit]; (repeat' split) <;> first | (simp [*]; done) | rfl | (simp [*]; rfl)
@[simp] theorem kept_faultUnit (u : UnitRef) (code : BitVec 16) (src : Nat) (data : List Byte) (s : State) : (faultUnit u code src data s).kept = s.kept := by
  simp only [faultUnit]; (repeat' split) <;> first | (simp [*]; done) | rfl | (simp [*]; rfl)
@[simp] theorem kept_failRetest (u : UnitRef) (s : State) : (failRetest u s).kept = s.kept := by
  simp only [failRetest]; (repeat' split) <;> first | (simp [*]; done) | rfl | (simp [*]; rfl)
@[simp] theorem kept_passRetest (u : UnitRef) (s : State) : (passRetest u s).kept = s.kept := by
  simp only [passRetest]; (repeat' split) <;> first | (simp [*]; done) | rfl | (simp [*]; rfl)
@[simp] theorem kept_requestCommit (c : Commit) (s : State) : (requestCommit c s).kept = s.kept := by
  simp only [requestCommit]; (repeat' split) <;> first | (simp [*]; done) | rfl | (simp [*]; rfl)
@[simp] theorem kept_judgeSleeve (i : Sleeve) (s : State) : (judgeSleeve i s).kept = s.kept := by
  simp only [judgeSleeve]; (repeat' split) <;> simp
@[simp] theorem kept_judgeGlobal (s : State) : (judgeGlobal s).kept = s.kept := by
  simp only [judgeGlobal]; (repeat' split) <;> first | (simp [*]; done) | rfl | (simp [*]; rfl)
@[simp] theorem kept_judge (s : State) : (judge s).kept = s.kept := by
  simp only [judge]; (repeat' split) <;> first | (simp [*]; done) | rfl | (simp [*]; rfl)
@[simp] theorem kept_recut (s : State) : (recut s).kept = s.kept := by
  simp only [recut]; (repeat' split) <;> first | (simp [*]; done) | rfl | (simp [*]; rfl)
@[simp] theorem kept_addUsed (i : Sleeve) (k : Nat) (s : State) : (addUsed i k s).kept = s.kept := by
  simp only [addUsed]; (repeat' split) <;> first | (simp [*]; done) | rfl | (simp [*]; rfl)
@[simp] theorem kept_subUsed (i : Sleeve) (k : Nat) (s : State) : (subUsed i k s).kept = s.kept := by
  simp only [subUsed]; (repeat' split) <;> first | (simp [*]; done) | rfl | (simp [*]; rfl)
theorem kept_claimPocket {i : Sleeve} {s s' : State} {p : Nat} (h : claimPocket i s = some (p, s')) : s'.kept = s.kept := by
  unfold claimPocket at h
  split at h
  · cases h
  · cases h; rfl
@[simp] theorem kept_fillPocket (k : Nat) (bs : List Byte) (s : State) : (fillPocket k bs s).kept = s.kept := by
  simp only [fillPocket]; (repeat' split) <;> first | (simp [*]; done) | rfl | (simp [*]; rfl)
@[simp] theorem kept_releasePockets (ks : List Nat) (s : State) : (releasePockets ks s).kept = s.kept := by
  simp only [releasePockets]; (repeat' split) <;> first | (simp [*]; done) | rfl | (simp [*]; rfl)
@[simp] theorem kept_maskBank (b : Fin 16) (s : State) : (maskBank b s).kept = s.kept := by
  simp only [maskBank]; (repeat' split) <;> first | (simp [*]; done) | rfl | (simp [*]; rfl)
@[simp] theorem kept_unmaskBank (b : Fin 16) (s : State) : (unmaskBank b s).kept = s.kept := by
  simp only [unmaskBank]; (repeat' split) <;> first | (simp [*]; done) | rfl | (simp [*]; rfl)
@[simp] theorem kept_dropCmd (id : Nat) (s : State) : (dropCmd id s).kept = s.kept := by
  simp only [dropCmd]; (repeat' split) <;> first | (simp [*]; done) | rfl | (simp [*]; rfl)
@[simp] theorem kept_modCmd (id : Nat) (f : Cmd → Cmd) (s : State) : (modCmd id f s).kept = s.kept := by
  simp only [modCmd]; (repeat' split) <;> first | (simp [*]; done) | rfl | (simp [*]; rfl)
@[simp] theorem kept_post (i : Sleeve) (r : Reply) (s : State) : (post i r s).kept = s.kept := by
  simp only [post]; (repeat' split) <;> first | (simp [*]; done) | rfl | (simp [*]; rfl)
@[simp] theorem kept_noteStatus (i : Sleeve) (st : Byte) (s : State) : (noteStatus i st s).kept = s.kept := by
  simp only [noteStatus]; (repeat' split) <;> first | (simp [*]; done) | rfl | (simp [*]; rfl)
@[simp] theorem kept_settleCache (c : Cmd) (r : Reply) (s : State) : (settleCache c r s).kept = s.kept := by
  simp only [settleCache]; (repeat' split) <;> first | (simp [*]; done) | rfl | (simp [*]; rfl)
@[simp] theorem kept_answerWith (key : Option (List Byte × List Byte)) (id : Nat) (st : Byte) (payload : List Byte) (pockets : List Nat) (plen : Nat) (s : State) : (answerWith key id st payload pockets plen s).kept = s.kept := by
  simp only [answerWith]; (repeat' split) <;> first | (simp [*]; done) | rfl | (simp [*]; rfl)
@[simp] theorem kept_answerP (id : Nat) (st : Byte) (payload : List Byte) (pockets : List Nat) (plen : Nat) (s : State) : (answerP id st payload pockets plen s).kept = s.kept := by
  simp only [answerP]; (repeat' split) <;> first | (simp [*]; done) | rfl | (simp [*]; rfl)
@[simp] theorem kept_answer (id : Nat) (st : Byte) (payload : List Byte) (s : State) : (answer id st payload s).kept = s.kept := by
  simp only [answer]; (repeat' split) <;> first | (simp [*]; done) | rfl | (simp [*]; rfl)
@[simp] theorem kept_answerOpt (id : Option Nat) (st : Byte) (payload : List Byte) (s : State) : (answerOpt id st payload s).kept = s.kept := by
  simp only [answerOpt]; (repeat' split) <;> first | (simp [*]; done) | rfl | (simp [*]; rfl)
@[simp] theorem kept_internalReply (i : Sleeve) (cmd : Nat) (s : State) : (internalReply i cmd s).kept = s.kept := by
  simp only [internalReply]; (repeat' split) <;> first | (simp [*]; done) | rfl | (simp [*]; rfl)
@[simp] theorem kept_loseLane (ps : List Nat) (s : State) : (loseLane ps s).kept = s.kept := by
  simp only [loseLane]; (repeat' split) <;> first | (simp [*]; done) | rfl | (simp [*]; rfl)
@[simp] theorem kept_giveUpFrames (i : Sleeve) (k : Fin 4) (bad : BitVec 64 × List Place → Bool) (s : State) : (giveUpFrames i k bad s).kept = s.kept := by
  simp only [giveUpFrames]; (repeat' split) <;> first | (simp [*]; done) | rfl | (simp [*]; rfl)
@[simp] theorem kept_passDropped (i : Sleeve) (k : Fin 4) (s : State) : (passDropped i k s).kept = s.kept := by
  simp only [passDropped]; (repeat' split) <;> first | (simp [*]; done) | rfl | (simp [*]; rfl)
@[simp] theorem kept_settleChain (i : Sleeve) (k : Fin 4) (s : State) : (settleChain i k s).kept = s.kept := by
  simp only [settleChain]; (repeat' split) <;> first | (simp [*]; done) | rfl | (simp [*]; rfl)
@[simp] theorem kept_dropFrames (i : Sleeve) (k : Fin 4) (bad : Place → Bool) (s : State) : (dropFrames i k bad s).kept = s.kept := by
  simp only [dropFrames]; (repeat' split) <;> first | (simp [*]; done) | rfl | (simp [*]; rfl)
@[simp] theorem kept_noteTagBusy (s : State) : (noteTagBusy s).kept = s.kept := by
  simp only [noteTagBusy]; (repeat' split) <;> first | (simp [*]; done) | rfl | (simp [*]; rfl)
@[simp] theorem kept_takeTags (i : Sleeve) (k : Nat) (s : State) : (takeTags i k s).kept = s.kept := by
  simp only [takeTags]; (repeat' split) <;> first | (simp [*]; done) | rfl | (simp [*]; rfl)
@[simp] theorem kept_releaseTags (i : Sleeve) (k : Nat) (s : State) : (releaseTags i k s).kept = s.kept := by
  simp only [releaseTags]; (repeat' split) <;> first | (simp [*]; done) | rfl | (simp [*]; rfl)
@[simp] theorem kept_modOp (id : Nat) (f : Op → Op) (s : State) : (modOp id f s).kept = s.kept := by
  simp only [modOp]; (repeat' split) <;> first | (simp [*]; done) | rfl | (simp [*]; rfl)
@[simp] theorem kept_removeOp (id : Nat) (s : State) : (removeOp id s).kept = s.kept := by
  simp only [removeOp]; (repeat' split) <;> first | (simp [*]; done) | rfl | (simp [*]; rfl)
@[simp] theorem kept_spoilInst (i : Sleeve) (k : Fin 4) (s : State) : (spoilInst i k s).kept = s.kept := by
  simp only [spoilInst]; (repeat' split) <;> first | (simp [*]; done) | rfl | (simp [*]; rfl)
@[simp] theorem kept_newRequest (i : Sleeve) (n : Fin 4) (k : Fin 4) (s : State) : (newRequest i n k s).kept = s.kept := by
  simp only [newRequest]; (repeat' split) <;> first | (simp [*]; done) | rfl | (simp [*]; rfl)
@[simp] theorem kept_failOp (id : Nat) (s : State) : (failOp id s).kept = s.kept := by
  simp only [failOp]; (repeat' split) <;> first | (simp [*]; done) | rfl | (simp [*]; rfl)
@[simp] theorem kept_withdrawOp (id : Nat) (worked : Op → Bool) (s : State) : (withdrawOp id worked s).kept = s.kept := by
  simp only [withdrawOp]; (repeat' split) <;> first | (simp [*]; done) | rfl | (simp [*]; rfl)
@[simp] theorem kept_refuseOp (o : Op) (st : Byte) (s : State) : (refuseOp o st s).kept = s.kept := by
  simp only [refuseOp]; (repeat' split) <;> first | (simp [*]; done) | rfl | (simp [*]; rfl)
@[simp] theorem kept_noteShort (s : State) : (noteShort s).kept = s.kept := by
  simp only [noteShort]; (repeat' split) <;> first | (simp [*]; done) | rfl | (simp [*]; rfl)
@[simp] theorem kept_joinDrawers (o : Op) (units : Nat) (s : State) : (joinDrawers o units s).kept = s.kept := by
  simp only [joinDrawers]; (repeat' split) <;> first | (simp [*]; done) | rfl | (simp [*]; rfl)
@[simp] theorem kept_requeue (o : Op) (s : State) : (requeue o s).kept = s.kept := by
  simp only [requeue]; (repeat' split) <;> first | (simp [*]; done) | rfl | (simp [*]; rfl)
@[simp] theorem kept_afterBooking (o : Op) (s : State) : (afterBooking o s).kept = s.kept := by
  simp only [afterBooking]; (repeat' split) <;> first | (simp [*]; done) | rfl | (simp [*]; rfl)
@[simp] theorem kept_tryBook (o : Op) (s : State) : (tryBook o s).kept = s.kept := by
  simp only [tryBook]; (repeat' split) <;> first | (simp [*]; done) | rfl | (simp [*]; rfl)
@[simp] theorem kept_exhaust (o : Op) (s : State) : (exhaust o s).kept = s.kept := by
  simp only [exhaust]; (repeat' split) <;> first | (simp [*]; done) | rfl | (simp [*]; rfl)
@[simp] theorem kept_startHead (o : Op) (s : State) : (startHead o s).kept = s.kept := by
  simp only [startHead]; (repeat' split) <;> first | (simp [*]; done) | rfl | (simp [*]; rfl)
@[simp] theorem kept_settleHeads (y0 : Nat) (s : State) : (settleHeads y0 s).kept = s.kept := by
  induction y0 generalizing s with
  | zero => rfl
  | succ n ih => simp only [settleHeads]; (repeat' split) <;> first | (simp [*]; done) | rfl
@[simp] theorem kept_fenceWaiting (s : State) : (fenceWaiting s).kept = s.kept := kept_forAll _ _ _ (fun o u => by split <;> simp)
@[simp] theorem kept_settleFabric (s : State) : (settleFabric s).kept = s.kept := by
  simp only [settleFabric]; (repeat' split) <;> first | (simp [*]; done) | rfl | (simp [*]; rfl)
@[simp] theorem kept_enterOp (o : Op) (s : State) : (enterOp o s).kept = s.kept := by
  simp only [enterOp]; (repeat' split) <;> first | (simp [*]; done) | rfl | (simp [*]; rfl)
@[simp] theorem kept_noteGrant (o : Op) (s : State) : (noteGrant o s).kept = s.kept := by
  simp only [noteGrant]; (repeat' split) <;> first | (simp [*]; done) | rfl | (simp [*]; rfl)
@[simp] theorem kept_unbind (i : Sleeve) (n : Fin 4) (o : Op) (s : State) : (unbind i n o s).kept = s.kept := by
  simp only [unbind]; (repeat' split) <;> first | (simp [*]; done) | rfl | (simp [*]; rfl)
@[simp] theorem kept_renewRequest (i : Sleeve) (n : Fin 4) (o : Op) (s : State) : (renewRequest i n o s).kept = s.kept := by
  simp only [renewRequest]; (repeat' split) <;> first | (simp [*]; done) | rfl | (simp [*]; rfl)
@[simp] theorem kept_applyPattern (i : Sleeve) (n : Fin 4) (s : State) : (applyPattern i n s).kept = s.kept := by
  simp only [applyPattern]; (repeat' split) <;> first | (simp [*]; done) | rfl | (simp [*]; rfl)
@[simp] theorem kept_settlePattern (i : Sleeve) (n : Fin 4) (s : State) : (settlePattern i n s).kept = s.kept := by
  simp only [settlePattern]; (repeat' split) <;> first | (simp [*]; done) | rfl | (simp [*]; rfl)
@[simp] theorem kept_dropOpCommit (o : Op) (s : State) : (dropOpCommit o s).kept = s.kept := by
  simp only [dropOpCommit]; (repeat' split) <;> first | (simp [*]; done) | rfl | (simp [*]; rfl)
@[simp] theorem kept_endAllOps (s : State) : (endAllOps s).kept = s.kept := by
  unfold endAllOps
  split
  · exact kept_forAll _ _ _ (fun o u => by split <;> (try split) <;> simp)
  · rfl
@[simp] theorem kept_stopStream (i : Sleeve) (n : Fin 4) (s : State) : (stopStream i n s).kept = s.kept := by
  simp only [stopStream]; (repeat' split) <;> first | (simp [*]; done) | rfl | (simp [*]; rfl)
@[simp] theorem kept_showFloor (s : State) : (showFloor s).kept = s.kept := by
  simp only [showFloor]; (repeat' split) <;> first | (simp [*]; done) | rfl | (simp [*]; rfl)
@[simp] theorem kept_refuseDraws (s : State) : (refuseDraws s).kept = s.kept := kept_forAll _ _ _ (fun o u => by split <;> simp)
@[simp] theorem kept_judgeFloor (s : State) : (judgeFloor s).kept = s.kept := by
  simp only [judgeFloor]; (repeat' split) <;> simp
@[simp] theorem kept_noteTrip (t : Thread) (kind : Nat) (s : State) : (noteTrip t kind s).kept = s.kept := by
  simp only [noteTrip]; (repeat' split) <;> first | (simp [*]; done) | rfl | (simp [*]; rfl)
@[simp] theorem kept_tripThread (t : Thread) (kind : Nat) (s : State) : (tripThread t kind s).kept = s.kept := by
  simp only [tripThread]; (repeat' split) <;> first | (simp [*]; done) | rfl | (simp [*]; rfl)
@[simp] theorem kept_tripCaptured (t : Thread) (kind : Nat) (s : State) : (tripCaptured t kind s).kept = s.kept := by
  simp only [tripCaptured]; (repeat' split) <;> first | (simp [*]; done) | rfl | (simp [*]; rfl)
@[simp] theorem kept_trip (t : Thread) (kind : Nat) (s : State) : (trip t kind s).kept = s.kept := by
  simp only [trip]; (repeat' split) <;> first | (simp [*]; done) | rfl | (simp [*]; rfl)
@[simp] theorem kept_afterCapture (t : Thread) (s : State) : (afterCapture t s).kept = s.kept := by
  simp only [afterCapture]; (repeat' split) <;> first | (simp [*]; done) | rfl | (simp [*]; rfl)
@[simp] theorem kept_endCapture (endCode : Nat) (s : State) : (endCapture endCode s).kept = s.kept := by
  simp only [endCapture]; (repeat' split) <;> first | (simp [*]; done) | rfl | (simp [*]; rfl)
@[simp] theorem kept_dropCapture (s : State) : (dropCapture s).kept = s.kept := by
  simp only [dropCapture]; (repeat' split) <;> first | (simp [*]; done) | rfl | (simp [*]; rfl)
@[simp] theorem kept_dgtErr (i : Sleeve) (bits : BitVec 5) (s : State) : (dgtErr i bits s).kept = s.kept := by
  simp only [dgtErr]; (repeat' split) <;> first | (simp [*]; done) | rfl | (simp [*]; rfl)
@[simp] theorem kept_clearCtx (i : Sleeve) (k : Fin 4) (st : Byte) (s : State) : (clearCtx i k st s).kept = s.kept := by
  simp only [clearCtx]; (repeat' split) <;> first | (simp [*]; done) | rfl | (simp [*]; rfl)
@[simp] theorem kept_clearSlotContexts (k : Fin 32) (s : State) : (clearSlotContexts k s).kept = s.kept := by
  simp only [clearSlotContexts]; (repeat' split) <;> first | (simp [*]; done) | rfl | (simp [*]; rfl)
@[simp] theorem kept_unsuspect (i : Sleeve) (k : Fin 4) (s : State) : (unsuspect i k s).kept = s.kept := by
  simp only [unsuspect]; (repeat' split) <;> first | (simp [*]; done) | rfl | (simp [*]; rfl)
@[simp] theorem kept_clearSuspects (k : Fin 2) (s : State) : (clearSuspects k s).kept = s.kept := by
  simp only [clearSuspects]
  simp only [kept_modDigest]
  rw [kept_forAll _ _ _ (fun c u => by simp), kept_forAll _ _ _ (fun c u => by split <;> simp)]
@[simp] theorem kept_svcFault (k : Fin 2) (code : BitVec 16) (s : State) : (svcFault k code s).kept = s.kept := by
  simp only [svcFault]; (repeat' split) <;> first | (simp [*]; done) | rfl | (simp [*]; rfl)
@[simp] theorem kept_cmpGlitch (k : Fin 2) (s : State) : (cmpGlitch k s).kept = s.kept := by
  simp only [cmpGlitch]; (repeat' split) <;> first | (simp [*]; done) | rfl | (simp [*]; rfl)
@[simp] theorem kept_finishCtx (i : Sleeve) (k : Fin 4) (s : State) : (finishCtx i k s).kept = s.kept := by
  simp only [finishCtx]; (repeat' split) <;> first | (simp [*]; done) | rfl | (simp [*]; rfl)
@[simp] theorem kept_digestBegin (c : Cmd) (k : Fin 4) (s : State) : (digestBegin c k s).kept = s.kept := by
  simp only [digestBegin]; (repeat' split) <;> first | (simp [*]; done) | rfl | (simp [*]; rfl)
@[simp] theorem kept_digestUpdate (c : Cmd) (k : Fin 4) (s : State) : (digestUpdate c k s).kept = s.kept := by
  simp only [digestUpdate]; (repeat' split) <;> first | (simp [*]; done) | rfl | (simp [*]; rfl)
@[simp] theorem kept_digestFinal (c : Cmd) (k : Fin 4) (s : State) : (digestFinal c k s).kept = s.kept := by
  simp only [digestFinal]; (repeat' split) <;> first | (simp [*]; done) | rfl | (simp [*]; rfl)
@[simp] theorem kept_digestSave (c : Cmd) (k : Fin 4) (s : State) : (digestSave c k s).kept = s.kept := by
  simp only [digestSave]; (repeat' split) <;> first | (simp [*]; done) | rfl | (simp [*]; rfl)
@[simp] theorem kept_digestRestore (c : Cmd) (k : Fin 4) (s : State) : (digestRestore c k s).kept = s.kept := by
  simp only [digestRestore]; (repeat' split) <;> first | (simp [*]; done) | rfl | (simp [*]; rfl)
@[simp] theorem kept_digestCompare (c : Cmd) (k : Fin 4) (cmp : CmpOut) (core : Fin 2) (s : State) : (digestCompare c k cmp core s).kept = s.kept := by
  simp only [digestCompare]; (repeat' split) <;> first | (simp [*]; done) | rfl | (simp [*]; rfl)
@[simp] theorem kept_digestBody (c : Cmd) (k : Fin 4) (cmp : CmpOut) (core : Fin 2) (s : State) : (digestBody c k cmp core s).kept = s.kept := by
  simp only [digestBody]; (repeat' split) <;> first | (simp [*]; done) | rfl | (simp [*]; rfl)
@[simp] theorem kept_drainCtx (i : Sleeve) (k : Fin 4)(y0 : Nat) (s : State) : (drainCtx i k y0 s).kept = s.kept := by
  induction y0 generalizing s with
  | zero => rfl
  | succ n ih => simp only [drainCtx]; (repeat' split) <;> first | (simp [*]; done) | rfl
@[simp] theorem kept_digestTake (cmp : CmpOut) (core : Fin 2) (c : Cmd) (s : State) : (digestTake cmp core c s).kept = s.kept := by
  simp only [digestTake]; (repeat' split) <;> first | (simp [*]; done) | rfl | (simp [*]; rfl)
@[simp] theorem kept_retransmit (c : Cmd) (e : CacheEntry) (s : State) : (retransmit c e s).kept = s.kept := by
  simp only [retransmit]; (repeat' split) <;> first | (simp [*]; done) | rfl | (simp [*]; rfl)
@[simp] theorem kept_acceptCmd (body : Cmd → State → State) (c : Cmd) (s : State) (hbody : ∀ (z0 : Cmd) (u : State), (body z0 u).kept = u.kept) : (acceptCmd body c s).kept = s.kept := by
  simp only [acceptCmd]; (repeat' split) <;> first | (simp [*]; done) | rfl | (simp [*]; rfl)
@[simp] theorem kept_sealNewest (v : Bool) (s : State) : (sealNewest v s).kept = s.kept := rfl
@[simp] theorem kept_checkMac (t : Take) (p : Packet) (body : Cmd → State → State) (c : Cmd) (s : State) (hbody : ∀ (z0 : Cmd) (u : State), (body z0 u).kept = u.kept) : (checkMac t p body c s).kept = s.kept := by
  simp only [checkMac]; (repeat' split) <;> first | (simp [*]; done) | rfl | (simp [*]; rfl)
@[simp] theorem kept_intake (t : Take) (p : Packet) (body : Cmd → State → State) (s : State) (hbody : ∀ (z0 : Cmd) (u : State), (body z0 u).kept = u.kept) : (intake t p body s).kept = s.kept := by
  simp only [intake]; (repeat' split) <;> first | (simp [*]; done) | rfl | (simp [*]; rfl)
@[simp] theorem kept_noteTake (i : Sleeve) (s : State) : (noteTake i s).kept = s.kept := by
  simp only [noteTake]; (repeat' split) <;> first | (simp [*]; done) | rfl | (simp [*]; rfl)
@[simp] theorem kept_takeWith (t : Take) (kind : Byte → Word → Bool) (body : Cmd → State → State) (s : State) (hbody : ∀ (z0 : Cmd) (u : State), (body z0 u).kept = u.kept) : (takeWith t kind body s).kept = s.kept := by
  simp only [takeWith]; (repeat' split) <;> first | (simp [*]; done) | rfl | (simp [*]; rfl)
@[simp] theorem kept_takeOp (t : Take) (op : Byte) (body : Cmd → State → State) (s : State) (hbody : ∀ (z0 : Cmd) (u : State), (body z0 u).kept = u.kept) : (takeOp t op body s).kept = s.kept := by
  simp only [takeOp]; (repeat' split) <;> first | (simp [*]; done) | rfl | (simp [*]; rfl)
@[simp] theorem kept_denyCmd (id : Option Nat) (s : State) : (denyCmd id s).kept = s.kept := by
  simp only [denyCmd]; (repeat' split) <;> first | (simp [*]; done) | rfl | (simp [*]; rfl)
@[simp] theorem kept_drive (c : Sel) (data trailer : List Byte) (s : State) : (drive c data trailer s).kept = s.kept := by
  simp only [drive]; (repeat' split) <;> first | (simp [*]; done) | rfl | (simp [*]; rfl)
@[simp] theorem kept_endFrame (c : Sel) (data : List Byte) (st : Byte) (detail : Nat) (s : State) : (endFrame c data st detail s).kept = s.kept := by
  simp only [endFrame]; (repeat' split) <;> first | (simp [*]; done) | rfl | (simp [*]; rfl)
@[simp] theorem kept_raiseSel (code : BitVec 16) (c : Sel) (s : State) : (raiseSel code c s).kept = s.kept := by
  simp only [raiseSel]; (repeat' split) <;> first | (simp [*]; done) | rfl | (simp [*]; rfl)
@[simp] theorem kept_noteUnderrun (c : Sel) (s : State) : (noteUnderrun c s).kept = s.kept := by
  simp only [noteUnderrun]; (repeat' split) <;> first | (simp [*]; done) | rfl | (simp [*]; rfl)
@[simp] theorem kept_noteAccess (c : Sel) (s : State) : (noteAccess c s).kept = s.kept := by
  simp only [noteAccess]; (repeat' split) <;> first | (simp [*]; done) | rfl | (simp [*]; rfl)
@[simp] theorem kept_laneFault (p : Fin 3) (l : Fin 8) (s : State) : (laneFault p l s).kept = s.kept := by
  simp only [laneFault]; (repeat' split) <;> first | (simp [*]; done) | rfl | (simp [*]; rfl)
@[simp] theorem kept_charge (p : Fin 3) (l : Fin 8) (s : State) : (charge p l s).kept = s.kept := by
  simp only [charge]; (repeat' split) <;> first | (simp [*]; done) | rfl | (simp [*]; rfl)
@[simp] theorem kept_trackLanes (f : FrameIn) (s : State) : (trackLanes f s).kept = s.kept := by
  simp only [trackLanes]; (repeat' split) <;> first | (simp [*]; done) | rfl | (simp [*]; rfl)
@[simp] theorem kept_crcFailed (f : FrameIn) (push : Bool) (s : State) : (crcFailed f push s).kept = s.kept := by
  simp only [crcFailed]; (repeat' split) <;> first | (simp [*]; done) | rfl | (simp [*]; rfl)
@[simp] theorem kept_readAnswer (c : Sel) (data : List Byte) (st : Byte) (detail : Nat) (sh : Shift) (s : State) : (readAnswer c data st detail sh s).kept = s.kept := by
  simp only [readAnswer]; (repeat' split) <;> first | (simp [*]; done) | rfl | (simp [*]; rfl)
@[simp] theorem kept_sampleWord (c : Sel) (addr : Nat) (first : Bool) (s : State) : (sampleWord c addr first s).kept = s.kept := by
  simp only [sampleWord]; (repeat' split) <;> first | (simp [*]; done) | rfl | (simp [*]; rfl)
@[simp] theorem kept_clearWakeWhy (seen during : BitVec 5) (s : State) : (clearWakeWhy seen during s).kept = s.kept := by
  simp only [clearWakeWhy]; (repeat' split) <;> first | (simp [*]; done) | rfl | (simp [*]; rfl)
@[simp] theorem kept_readWords (c : Sel) (base : Nat) (gone : List Nat) (outWords : Nat) (during : BitVec 5) (n k : Nat) (win : Bool)
    (s : State) : (readWords c base gone outWords during n k win s).2.kept = s.kept := by
  induction n generalizing k win s with
  | zero => rfl
  | succ n ih => simp only [readWords]; (repeat' split) <;> simp [ih]
@[simp] theorem kept_readFrame (f : ReadFrame) (s : State) : (readFrame f s).kept = s.kept := by
  simp only [readFrame]; (repeat' split) <;> first | (simp [*]; done) | rfl | (simp [*]; rfl)
@[simp] theorem kept_driveRecord (c : Sel) (r : List Byte × List Byte) (s : State) : (driveRecord c r s).kept = s.kept := by
  simp only [driveRecord]; (repeat' split) <;> first | (simp [*]; done) | rfl | (simp [*]; rfl)
@[simp] theorem kept_driveCut (c : Sel) (r : List Byte × List Byte) (b : Nat) (s : State) : (driveCut c r b s).kept = s.kept := by
  simp only [driveCut]; (repeat' split) <;> first | (simp [*]; done) | rfl | (simp [*]; rfl)
@[simp] theorem kept_zeroWords (c : Sel) (records : List Shift) (s : State) : (zeroWords c records s).kept = s.kept := by
  simp only [zeroWords]; (repeat' split) <;> first | (simp [*]; done) | rfl | (simp [*]; rfl)
@[simp] theorem kept_emptyRecord (c : Sel) (n : Nat) (st : Byte) (counter : Nat) (sh : Shift) (s : State) :
    (emptyRecord c n st counter sh s).1.kept = s.kept := by
  have h : ∀ u : State, (emptyRecord.noteEmpty c st u).kept = u.kept := fun u => by
    simp only [emptyRecord.noteEmpty]; (repeat' split) <;> simp
  simp only [emptyRecord]; (repeat' split) <;> simp [h]
@[simp] theorem kept_emptyFrame (c : Sel) (n : Nat) (st : Byte) (counter : Nat)(y0 : List Shift) (s : State) : (emptyFrame c n st counter y0 s).kept = s.kept := by
  simp only [emptyFrame]; (repeat' split) <;> first | rfl | (simp only [kept_zeroWords, kept_emptyRecord])
@[simp] theorem kept_claimFrame (i : Sleeve) (n : Fin 4) (f : List Place) (s : State) : (claimFrame i n f s).kept = s.kept := by
  simp only [claimFrame]; (repeat' split) <;> first | (simp [*]; done) | rfl | (simp [*]; rfl)
@[simp] theorem kept_sendRecord (c : Sel) (body : List Byte) (unheld : List Nat) (st : Byte) (counter : Nat) (sh : Shift)
    (s : State) : (sendRecord c body unheld st counter sh s).1.kept = s.kept := by
  simp only [sendRecord]; (repeat' split) <;> simp
@[simp] theorem kept_captureRecord (c : Sel) (sh : Shift) (s : State) : (captureRecord c sh s).1.kept = s.kept := by
  simp only [captureRecord]; (repeat' split) <;> simp
@[simp] theorem kept_streamRecord (c : Sel) (i : Sleeve) (n : Fin 4) (sh : Shift) (s : State) :
    (streamRecord c i n sh s).1.kept = s.kept := by
  unfold streamRecord
  dsimp only
  generalize (if patPush ((s.sleeve i).streams.get n).pat0 = true then [] else ((s.sleeve i).streams.get n).frames) = fs
  (repeat' split) <;> simp only [kept_emptyRecord, kept_sendRecord, kept_claimFrame]
@[simp] theorem kept_streamRecords (c : Sel) (i : Sleeve) (n : Fin 4)(y0 : List Shift) (s : State) : (streamRecords c i n y0 s).kept = s.kept := by
  induction y0 generalizing s with
  | nil => rfl
  | cons a r ih =>
    unfold streamRecords
    have h : (if i = 0 ∧ s.capture.holds = true then captureRecord c a s else streamRecord c i n a s).1.kept = s.kept := by
      split <;> simp only [kept_captureRecord, kept_streamRecord]
    dsimp only
    split
    · rw [ih, h]
    · exact h
    · split
      · exact h
      · rw [kept_zeroWords, h]
@[simp] theorem kept_noParams (body : Cmd → State → State) (c : Cmd) (s : State) (hbody : ∀ (z0 : Cmd) (u : State), (body z0 u).kept = u.kept) : (noParams body c s).kept = s.kept := by
  simp only [noParams]; (repeat' split) <;> first | (simp [*]; done) | rfl | (simp [*]; rfl)
@[simp] theorem kept_argOnly (mask : Word) (body : Cmd → State → State) (c : Cmd) (s : State) (hbody : ∀ (z0 : Cmd) (u : State), (body z0 u).kept = u.kept) : (argOnly mask body c s).kept = s.kept := by
  simp only [argOnly]; (repeat' split) <;> first | (simp [*]; done) | rfl | (simp [*]; rfl)
@[simp] theorem kept_pingBody (c : Cmd) (s : State) : (pingBody c s).kept = s.kept := by
  simp only [pingBody]; (repeat' split) <;> first | (simp [*]; done) | rfl | (simp [*]; rfl)
@[simp] theorem kept_setRouteBody (c : Cmd) (s : State) : (setRouteBody c s).kept = s.kept := by
  simp only [setRouteBody]; (repeat' split) <;> first | (simp [*]; done) | rfl | (simp [*]; rfl)
@[simp] theorem kept_setQuotaBody (c : Cmd) (s : State) : (setQuotaBody c s).kept = s.kept := by
  simp only [setQuotaBody]; (repeat' split) <;> first | (simp [*]; done) | rfl | (simp [*]; rfl)
@[simp] theorem kept_withdrawOps (i : Sleeve) (s : State) : (withdrawOps i s).kept = s.kept := by
  simp only [withdrawOps]; (repeat' split) <;> first | (simp [*]; done) | rfl | (simp [*]; rfl)
@[simp] theorem kept_withdrawCommits (i : Sleeve) (keep : Option Nat) (s : State) : (withdrawCommits i keep s).kept = s.kept := by
  simp only [withdrawCommits]; (repeat' split) <;> first | (simp [*]; done) | rfl | (simp [*]; rfl)
@[simp] theorem kept_clearQueues (i : Sleeve) (keep : Option Nat) (s : State) : (clearQueues i keep s).kept = s.kept := by
  simp only [clearQueues]; (repeat' split) <;> first | (simp [*]; done) | rfl | (simp [*]; rfl)
@[simp] theorem kept_dropWaits (i : Sleeve) (keep : Option Nat) (s : State) : (dropWaits i keep s).kept = s.kept := by
  simp only [dropWaits]
  rw [kept_modPower, kept_modLog _ _ (by split <;> rfl), kept_modBist, kept_modPorts _ _ rfl]
@[simp] theorem kept_clearInsts (i : Sleeve) (s : State) : (clearInsts i s).kept = s.kept := by
  simp only [clearInsts]; (repeat' split) <;> first | (simp [*]; done) | rfl | (simp [*]; rfl)
@[simp] theorem kept_resetSleeveNow (i : Sleeve) (keep : Option Nat) (s : State) : (resetSleeveNow i keep s).kept = s.kept := by
  simp only [resetSleeveNow]; (repeat' split) <;> first | (simp [*]; done) | rfl | (simp [*]; rfl)
@[simp] theorem kept_resetSleeveBody (c : Cmd) (s : State) : (resetSleeveBody c s).kept = s.kept := by
  simp only [resetSleeveBody]; (repeat' split) <;> first | (simp [*]; done) | rfl | (simp [*]; rfl)
@[simp] theorem kept_drbgBody (mask : Word) (kind : OpKind) (nbytes : Word → Nat) (c : Cmd) (s : State) : (drbgBody mask kind nbytes c s).kept = s.kept := by
  simp only [drbgBody]; (repeat' split) <;> first | (simp [*]; done) | rfl | (simp [*]; rfl)
@[simp] theorem kept_generateBody (kind : OpKind) (c : Cmd) (s : State) : (generateBody kind c s).kept = s.kept := by
  simp only [generateBody]; (repeat' split) <;> first | (simp [*]; done) | rfl | (simp [*]; rfl)
@[simp] theorem kept_getSeedBody (c : Cmd) (s : State) : (getSeedBody c s).kept = s.kept := by
  simp only [getSeedBody]; (repeat' split) <;> first | (simp [*]; done) | rfl | (simp [*]; rfl)
@[simp] theorem kept_setPriorityBody (c : Cmd) (s : State) : (setPriorityBody c s).kept = s.kept := by
  simp only [setPriorityBody]; (repeat' split) <;> first | (simp [*]; done) | rfl | (simp [*]; rfl)
@[simp] theorem kept_patternWriteBody (c : Cmd) (s : State) : (patternWriteBody c s).kept = s.kept := by
  simp only [patternWriteBody]; (repeat' split) <;> first | (simp [*]; done) | rfl | (simp [*]; rfl)
@[simp] theorem kept_patternCommitBody (c : Cmd) (s : State) : (patternCommitBody c s).kept = s.kept := by
  simp only [patternCommitBody]; (repeat' split) <;> first | (simp [*]; done) | rfl | (simp [*]; rfl)
@[simp] theorem kept_patternReadBody (c : Cmd) (s : State) : (patternReadBody c s).kept = s.kept := by
  simp only [patternReadBody]; (repeat' split) <;> first | (simp [*]; done) | rfl | (simp [*]; rfl)
@[simp] theorem kept_newEpoch (i : Sleeve) (n : Fin 4) (s : State) : (newEpoch i n s).kept = s.kept := by
  simp only [newEpoch]; (repeat' split) <;> first | (simp [*]; done) | rfl | (simp [*]; rfl)
@[simp] theorem kept_streamStartBody (c : Cmd) (s : State) : (streamStartBody c s).kept = s.kept := by
  simp only [streamStartBody]; (repeat' split) <;> first | (simp [*]; done) | rfl | (simp [*]; rfl)
@[simp] theorem kept_streamStopBody (c : Cmd) (s : State) : (streamStopBody c s).kept = s.kept := by
  simp only [streamStopBody]; (repeat' split) <;> first | (simp [*]; done) | rfl | (simp [*]; rfl)
@[simp] theorem kept_keyLoadBody (c : Cmd) (s : State) : (keyLoadBody c s).kept = s.kept := by
  simp only [keyLoadBody]; (repeat' split) <;> first | (simp [*]; done) | rfl | (simp [*]; rfl)
@[simp] theorem kept_keyEraseBody (c : Cmd) (s : State) : (keyEraseBody c s).kept = s.kept := by
  simp only [keyEraseBody]; (repeat' split) <;> first | (simp [*]; done) | rfl | (simp [*]; rfl)
@[simp] theorem kept_keyInfoBody (c : Cmd) (s : State) : (keyInfoBody c s).kept = s.kept := by
  simp only [keyInfoBody]; (repeat' split) <;> first | (simp [*]; done) | rfl | (simp [*]; rfl)
@[simp] theorem kept_sleeveKeyUpdateBody (c : Cmd) (s : State) : (sleeveKeyUpdateBody c s).kept = s.kept := by
  simp only [sleeveKeyUpdateBody]; (repeat' split) <;> first | (simp [*]; done) | rfl | (simp [*]; rfl)
@[simp] theorem kept_losePocket (p : Nat) (s : State) : (losePocket p s).kept = s.kept := by
  simp only [losePocket]; (repeat' split) <;> first | (simp [*]; done) | rfl | (simp [*]; rfl)
@[simp] theorem kept_forgetPocket (p : Nat) (s : State) : (forgetPocket p s).kept = s.kept := by
  simp only [forgetPocket]; (repeat' split) <;> first | (simp [*]; done) | rfl | (simp [*]; rfl)
@[simp] theorem kept_retireBank (b : Fin 16) (s : State) : (retireBank b s).kept = s.kept := by
  simp only [retireBank]; (repeat' split) <;> first | (simp [*]; done) | rfl | (simp [*]; rfl)
@[simp] theorem kept_tearPocket (p : Nat) (s : State) : (tearPocket p s).kept = s.kept := by
  simp only [tearPocket]; (repeat' split) <;> first | (simp [*]; done) | rfl | (simp [*]; rfl)
@[simp] theorem kept_readmitPockets (b : Fin 16) (s : State) : (readmitPockets b s).kept = s.kept := by
  simp only [readmitPockets]; (repeat' split) <;> first | (simp [*]; done) | rfl | (simp [*]; rfl)
@[simp] theorem kept_forceDrain (b : Fin 16) (s : State) : (forceDrain b s).kept = s.kept := by
  simp only [forceDrain]; (repeat' split) <;> first | (simp [*]; done) | rfl | (simp [*]; rfl)
@[simp] theorem kept_setResult (k : Fin 32) (f : BistResult → BistResult) (s : State) : (setResult k f s).kept = s.kept := by
  simp only [setResult]; (repeat' split) <;> first | (simp [*]; done) | rfl | (simp [*]; rfl)
@[simp] theorem kept_queueOpen (k : Fin 32) (req logic analog : Nat) (s : State) : (queueOpen k req logic analog s).kept = s.kept := by
  simp only [queueOpen]; (repeat' split) <;> first | (simp [*]; done) | rfl | (simp [*]; rfl)
@[simp] theorem kept_setWidth (p : Fin 3) (w : Nat) (s : State) : (setWidth p w s).kept = s.kept := by
  simp only [setWidth]; (repeat' split) <;> first | (simp [*]; done) | rfl | (simp [*]; rfl)
@[simp] theorem kept_takePorts (r : Run) (s : State) : (takePorts r s).kept = s.kept :=
  kept_forAll _ _ _ (fun p t => (kept_untrain p _).trans (by split <;> first | rfl | exact kept_setWidth _ _ _))
@[simp] theorem kept_startRun (r : Run) (s : State) : (startRun r s).kept = s.kept := by
  simp only [startRun]
  rw [kept_raiseA _ _ _ _ (fun u => kept_when _ _ u (fun v => kept_forAll _ _ v (fun i t => kept_alert _ _ t)))]
  rw [kept_takePorts]
  have h : ∀ t : State, t.kept = s.kept → (forAll (s.runUnits r) (fun u t => match u with
    | .thread k => modThread k (fun x => { ThreadSt.fresh x with passed := false, test := .none }) t
    | .bank b => maskBank b t
    | _ => t) t).kept = s.kept := fun t ht => by
    rw [kept_forAll _ _ _ (fun u t => by split <;> simp), ht]
  have h' := h _ ((kept_forAll (s.runUnits r) (fun u => modHealth u (fun h => { h with bist := true })) _
    (fun u t => kept_modHealth _ _ _)).trans (by
      rw [kept_setResult, kept_modBist] :
      (setResult r.slice (fun x => { x with outcome := 1, req := r.req })
        (modBist (fun b => { b with active := b.active ++ [r], evt := b.evt ||| 0x1 }) s)).kept = s.kept))
  split
  · exact (kept_modCond _ _ _).trans h'
  · exact h'
@[simp] theorem kept_bistFault (u : UnitRef) (s : State) : (bistFault u s).kept = s.kept := by
  simp only [bistFault]; (repeat' split) <;> first | (simp [*]; done) | rfl | (simp [*]; rfl)
@[simp] theorem kept_failUnit (kind : RunKind) (u : UnitRef) (s : State) : (failUnit kind u s).kept = s.kept := by
  simp only [failUnit]; (repeat' split) <;> first | (simp [*]; done) | rfl | (simp [*]; rfl)
@[simp] theorem kept_endReadmit (r : Run) (st : Byte) (s : State) : (endReadmit r st s).kept = s.kept := by
  simp only [endReadmit]; (repeat' split) <;> first | (simp [*]; done) | rfl | (simp [*]; rfl)
@[simp] theorem kept_restoreSlice (r : Run) (good : Bool) (s : State) : (restoreSlice r good s).kept = s.kept := by
  simp only [restoreSlice]
  rw [kept_forAll _ _ _ (fun p u => kept_untrain p u), kept_forAll _ _ _ (fun u t => by (repeat' split) <;> simp),
    kept_forAll _ _ _ (fun u t => kept_modHealth _ _ _), kept_modBist]
@[simp] theorem kept_recordRun (r : Run) (outcome : Nat) (misr : Word) (s : State) : (recordRun r outcome misr s).kept = s.kept := by
  simp only [recordRun]; (repeat' split) <;> first | (simp [*]; done) | rfl | (simp [*]; rfl)
@[simp] theorem kept_abandonWaiting (r : Run) (s : State) : (abandonWaiting r s).kept = s.kept := by
  simp only [abandonWaiting]; (repeat' split) <;> first | (simp [*]; done) | rfl | (simp [*]; rfl)
@[simp] theorem kept_requestReadmit (r : Run) (failed : List Nat) (s : State) : (requestReadmit r failed s).kept = s.kept := by
  simp only [requestReadmit]; (repeat' split) <;> first | (simp [*]; done) | rfl | (simp [*]; rfl)
@[simp] theorem kept_afterReadmitRun (r : Run) (failed : List Nat) (s : State) : (afterReadmitRun r failed s).kept = s.kept := by
  simp only [afterReadmitRun]; (repeat' split) <;> first | (simp [*]; done) | rfl | (simp [*]; rfl)
@[simp] theorem kept_queueRetest (r : Run) (s : State) : (queueRetest r s).kept = s.kept := by
  simp only [queueRetest]; (repeat' split) <;> first | (simp [*]; done) | rfl | (simp [*]; rfl)
@[simp] theorem kept_applyFail (r : Run) (logicFail : Bool) (failing : List Nat) (s : State) : (applyFail r logicFail failing s).kept = s.kept := by
  simp only [applyFail]; (repeat' split) <;> first | (simp [*]; done) | rfl | (simp [*]; rfl)
@[simp] theorem kept_passRun (r : Run) (s : State) : (passRun r s).kept = s.kept := by
  simp only [passRun]; (repeat' split) <;> first | (simp [*]; done) | rfl | (simp [*]; rfl)
@[simp] theorem kept_failRun (r : Run) (logicFail : Bool) (failing : List Nat) (s : State) : (failRun r logicFail failing s).kept = s.kept := by
  simp only [failRun]; (repeat' split) <;> first | (simp [*]; done) | rfl | (simp [*]; rfl)
@[simp] theorem kept_showQueued (k : Fin 32) (s : State) : (showQueued k s).kept = s.kept := by
  simp only [showQueued]; (repeat' split) <;> first | (simp [*]; done) | rfl | (simp [*]; rfl)
@[simp] theorem kept_endRun (r : Run) (outcome : Nat) (misr : Word) (logicFail : Bool) (failing : List Nat) (s : State) : (endRun r outcome misr logicFail failing s).kept = s.kept := by
  simp only [endRun]; (repeat' split) <;> first | (simp [*]; done) | rfl | (simp [*]; rfl)
@[simp] theorem kept_holdThread (t : Thread) (s : State) : (holdThread t s).kept = s.kept := by
  simp only [holdThread]; (repeat' split) <;> first | (simp [*]; done) | rfl | (simp [*]; rfl)
@[simp] theorem kept_threadQuarantineBody (c : Cmd) (s : State) : (threadQuarantineBody c s).kept = s.kept := by
  simp only [threadQuarantineBody]; (repeat' split) <;> first | (simp [*]; done) | rfl | (simp [*]; rfl)
@[simp] theorem kept_queueReadmit (k : Fin 32) (req logic analog : Nat) (cmd : Option Nat) (s : State) : (queueReadmit k req logic analog cmd s).kept = s.kept := by
  simp only [queueReadmit]; (repeat' split) <;> first | (simp [*]; done) | rfl | (simp [*]; rfl)
@[simp] theorem kept_threadReadmitBody (c : Cmd) (s : State) : (threadReadmitBody c s).kept = s.kept := by
  simp only [threadReadmitBody]; (repeat' split) <;> first | (simp [*]; done) | rfl | (simp [*]; rfl)
@[simp] theorem kept_setCreditBody (c : Cmd) (s : State) : (setCreditBody c s).kept = s.kept := by
  simp only [setCreditBody]; (repeat' split) <;> first | (simp [*]; done) | rfl | (simp [*]; rfl)
@[simp] theorem kept_claimMany (n : Nat) (s : State) : (claimMany n s).2.kept = s.kept := by
  induction n generalizing s with
  | zero => rfl
  | succ n ih =>
    simp only [claimMany]
    generalize hc : claimPocket 0 s = c
    cases c with
    | none => rfl
    | some r => exact (ih r.2).trans (kept_claimPocket (p := r.1) hc)
@[simp] theorem kept_startCapture (t : Thread) (mode samples restarts n : Nat) (s : State) : (startCapture t mode samples restarts n s).kept = s.kept := by
  simp only [startCapture]; (repeat' split) <;> first | (simp [*]; done) | rfl | (simp [*]; rfl)
@[simp] theorem kept_rawCaptureBody (c : Cmd) (s : State) : (rawCaptureBody c s).kept = s.kept := by
  simp only [rawCaptureBody]; (repeat' split) <;> first | (simp [*]; done) | rfl | (simp [*]; rfl)
@[simp] theorem kept_bistRunBody (c : Cmd) (s : State) : (bistRunBody c s).kept = s.kept := by
  simp only [bistRunBody]; (repeat' split) <;> first | (simp [*]; done) | rfl | (simp [*]; rfl)
@[simp] theorem kept_readmitStored (u : UnitRef) (c : Cmd) (s : State) : (readmitStored u c s).kept = s.kept := by
  simp only [readmitStored]; (repeat' split) <;> first | (simp [*]; done) | rfl | (simp [*]; rfl)
@[simp] theorem kept_bistReadmitBody (c : Cmd) (s : State) : (bistReadmitBody c s).kept = s.kept := by
  simp only [bistReadmitBody]; (repeat' split) <;> first | (simp [*]; done) | rfl | (simp [*]; rfl)
@[simp] theorem kept_bistResultBody (c : Cmd) (s : State) : (bistResultBody c s).kept = s.kept := by
  simp only [bistResultBody]; (repeat' split) <;> first | (simp [*]; done) | rfl | (simp [*]; rfl)
@[simp] theorem kept_setPowerPolicyBody (c : Cmd) (s : State) : (setPowerPolicyBody c s).kept = s.kept := by
  simp only [setPowerPolicyBody]; (repeat' split) <;> first | (simp [*]; done) | rfl | (simp [*]; rfl)
@[simp] theorem kept_foldReplyNow (s : State) : (foldReplyNow s).kept = s.kept := by
  simp only [foldReplyNow]; (repeat' split) <;> first | (simp [*]; done) | rfl | (simp [*]; rfl)
@[simp] theorem kept_foldBody (c : Cmd) (s : State) : (foldBody c s).kept = s.kept := by
  simp only [foldBody]; (repeat' split) <;> first | (simp [*]; done) | rfl | (simp [*]; rfl)
@[simp] theorem kept_resumeBody (c : Cmd) (s : State) : (resumeBody c s).kept = s.kept := by
  simp only [resumeBody]; (repeat' split) <;> first | (simp [*]; done) | rfl | (simp [*]; rfl)
@[simp] theorem kept_getPowerBody (c : Cmd) (s : State) : (getPowerBody c s).kept = s.kept := by
  simp only [getPowerBody]; (repeat' split) <;> first | (simp [*]; done) | rfl | (simp [*]; rfl)
@[simp] theorem kept_fenceLog (s : State) : (fenceLog s).kept = s.kept := by
  simp only [fenceLog]; (repeat' split) <;> first | (simp [*]; done) | rfl | (simp [*]; rfl)
@[simp] theorem kept_nextInHand (s : State) : (nextInHand s).kept = s.kept := by
  simp only [nextInHand]
  rw [kept_handleHand, kept_modLog]
  unfold Log.takeNext; (repeat' split) <;> rfl
@[simp] theorem kept_answerMark (e : Ev) (seq : Word) (s : State) : (answerMark e seq s).kept = s.kept := by
  simp only [answerMark]; (repeat' split) <;> first | (simp [*]; done) | rfl | (simp [*]; rfl)
@[simp] theorem kept_finishVerify (s : State) : (finishVerify s).kept = s.kept := by
  simp only [finishVerify]; (repeat' split) <;> first | (simp [*]; done) | rfl | (simp [*]; rfl)
@[simp] theorem kept_logReadBody (c : Cmd) (s : State) : (logReadBody c s).kept = s.kept := by
  simp only [logReadBody]; (repeat' split) <;> first | (simp [*]; done) | rfl | (simp [*]; rfl)
@[simp] theorem kept_argParams (mask : Word) (body : Cmd → State → State) (c : Cmd) (s : State) (hbody : ∀ (z0 : Cmd) (u : State), (body z0 u).kept = u.kept) : (argParams mask body c s).kept = s.kept := by
  simp only [argParams]; (repeat' split) <;> first | (simp [*]; done) | rfl | (simp [*]; rfl)
@[simp] theorem kept_logReadLrBody (c : Cmd) (s : State) : (logReadLrBody c s).kept = s.kept := by
  simp only [logReadLrBody]; (repeat' split) <;> first | (simp [*]; done) | rfl | (simp [*]; rfl)
@[simp] theorem kept_logMarkBody (c : Cmd) (s : State) : (logMarkBody c s).kept = s.kept := by
  simp only [logMarkBody]; (repeat' split) <;> first | (simp [*]; done) | rfl | (simp [*]; rfl)
@[simp] theorem kept_logVerifyBody (c : Cmd) (s : State) : (logVerifyBody c s).kept = s.kept := by
  simp only [logVerifyBody]; (repeat' split) <;> first | (simp [*]; done) | rfl | (simp [*]; rfl)
@[simp] theorem kept_answerWaiters (p : Fin 3) (st : Byte) (s : State) : (answerWaiters p st s).kept = s.kept := by
  simp only [answerWaiters]; (repeat' split) <;> first | (simp [*]; done) | rfl | (simp [*]; rfl)
@[simp] theorem kept_centreLane (p : Fin 3) (l : Fin 8) (phases : List (BitVec 1024)) (s : State) : (centreLane p l phases s).kept = s.kept := by
  simp only [centreLane]; (repeat' split) <;> first | (simp [*]; done) | rfl | (simp [*]; rfl)
@[simp] theorem kept_judgeLane (p : Fin 3) (seen : List (List (BitVec 1024))) (l : Fin 8) (s : State) : (judgeLane p seen l s).kept = s.kept := by
  simp only [judgeLane]; (repeat' split) <;> first | (simp [*]; done) | rfl | (simp [*]; rfl)
@[simp] theorem kept_judgeTrain (p : Fin 3) (seen : List (List (BitVec 1024))) (s : State) : (judgeTrain p seen s).kept = s.kept := by
  simp only [judgeTrain]; (repeat' split) <;> first | (simp [*]; done) | rfl | (simp [*]; rfl)
@[simp] theorem kept_readFlash (f1 : Bool) (offset : Nat) (s : State) : (readFlash f1 offset s).kept = s.kept := by
  simp only [readFlash]; (repeat' split) <;> first | (simp [*]; done) | rfl | (simp [*]; rfl)
@[simp] theorem kept_readImage (again : Bool) (offset len : Nat) (s : State) : (readImage again offset len s).kept = s.kept := by
  simp only [readImage]; (repeat' split) <;> first | (simp [*]; done) | rfl | (simp [*]; rfl)
@[simp] theorem kept_pushScheduleBody (f : Nat → PushAct) (c : Cmd) (s : State) : (pushScheduleBody f c s).kept = s.kept := by
  simp only [pushScheduleBody]; (repeat' split) <;> first | (simp [*]; done) | rfl | (simp [*]; rfl)
@[simp] theorem kept_pushStatusBody (c : Cmd) (s : State) : (pushStatusBody c s).kept = s.kept := by
  simp only [pushStatusBody]; (repeat' split) <;> first | (simp [*]; done) | rfl | (simp [*]; rfl)
@[simp] theorem kept_retrain (id : Nat) (p : Fin 3) (s : State) : (retrain id p s).kept = s.kept := by
  simp only [retrain]; (repeat' split) <;> first | (simp [*]; done) | rfl | (simp [*]; rfl)
@[simp] theorem kept_laneConfigBody (c : Cmd) (s : State) : (laneConfigBody c s).kept = s.kept := by
  simp only [laneConfigBody]; (repeat' split) <;> first | (simp [*]; done) | rfl | (simp [*]; rfl)
@[simp] theorem kept_linkTrainBody (c : Cmd) (s : State) : (linkTrainBody c s).kept = s.kept := by
  simp only [linkTrainBody]; (repeat' split) <;> first | (simp [*]; done) | rfl | (simp [*]; rfl)
@[simp] theorem kept_patchAccept (c : Cmd) (offset len : Nat) (img : List Byte) (fromF1 : Bool) (s : State) : (patchAccept c offset len img fromF1 s).kept = s.kept := by
  simp only [patchAccept]; (repeat' split) <;> first | (simp [*]; done) | rfl | (simp [*]; rfl)
@[simp] theorem kept_patchLoadBody (f0 f1 : List Byte) (c : Cmd) (s : State) : (patchLoadBody f0 f1 c s).kept = s.kept := by
  simp only [patchLoadBody]; (repeat' split) <;> first | (simp [*]; done) | rfl | (simp [*]; rfl)
@[simp] theorem kept_readmitUnit (u : UnitRef) (s : State) : (readmitUnit u s).kept = s.kept := by
  simp only [readmitUnit]; (repeat' split) <;> first | (simp [*]; done) | rfl | (simp [*]; rfl)
@[simp] theorem kept_readmitStates (w : Why) (s : State) : (readmitStates w s).kept = s.kept := by
  simp only [readmitStates]; (repeat' split) <;> first | (simp [*]; done) | rfl | (simp [*]; rfl)
@[simp] theorem kept_readmitEvent (u : UnitRef) (s : State) : (readmitEvent u s).kept = s.kept := by
  simp only [readmitEvent]; (repeat' split) <;> first | (simp [*]; done) | rfl | (simp [*]; rfl)
@[simp] theorem kept_readmitRest (u : UnitRef) (s : State) : (readmitRest u s).kept = s.kept := by
  simp only [readmitRest]; (repeat' split) <;> first | (simp [*]; done) | rfl | (simp [*]; rfl)
@[simp] theorem kept_loadSlot (k : Fin 32) (hash : Nat) (inner outer : List Byte) (owned : Bool) (s : State) : (loadSlot k hash inner outer owned s).kept = s.kept := by
  simp only [loadSlot]; (repeat' split) <;> first | (simp [*]; done) | rfl | (simp [*]; rfl)
@[simp] theorem kept_dropCommitOp (w : Why) (s : State) : (dropCommitOp w s).kept = s.kept := by
  simp only [dropCommitOp]; (repeat' split) <;> first | (simp [*]; done) | rfl | (simp [*]; rfl)
@[simp] theorem kept_markerAnswer (c : Commit) (payload : List Byte) (s : State) : (markerAnswer c payload s).kept = s.kept := by
  simp only [markerAnswer]; (repeat' split) <;> first | (simp [*]; done) | rfl | (simp [*]; rfl)
@[simp] theorem kept_applyQuotas (q pmax res : List Nat) (hems : List Word) (ghem : Nat) (s : State) : (applyQuotas q pmax res hems ghem s).kept = s.kept := by
  simp only [applyQuotas]; (repeat' split) <;> first | (simp [*]; done) | rfl | (simp [*]; rfl)
@[simp] theorem kept_finishReset (i : Sleeve) (s : State) : (finishReset i s).kept = s.kept := by
  simp only [finishReset]; (repeat' split) <;> first | (simp [*]; done) | rfl | (simp [*]; rfl)
@[simp] theorem kept_beginReset (i : Sleeve) (cmd : Option Nat) (s : State) : (beginReset i cmd s).kept = s.kept := by
  simp only [beginReset]; (repeat' split) <;> first | (simp [*]; done) | rfl | (simp [*]; rfl)
@[simp] theorem kept_setGranted (id : Option Nat) (s : State) : (setGranted id s).kept = s.kept := by
  simp only [setGranted]; (repeat' split) <;> first | (simp [*]; done) | rfl | (simp [*]; rfl)
@[simp] theorem kept_grantWriter (c : Commit) (s : State) : (grantWriter c s).kept = s.kept := by
  simp only [grantWriter]; (repeat' split) <;> first | (simp [*]; done) | rfl | (simp [*]; rfl)
@[simp] theorem kept_takeWaiting (n : Nat) (s : State) : (takeWaiting n s).kept = s.kept := by
  simp only [takeWaiting]; (repeat' split) <;> first | (simp [*]; done) | rfl | (simp [*]; rfl)
@[simp] theorem kept_journalGrant (n : Nat) (s : State) : (journalGrant n s).kept = s.kept := by
  simp only [journalGrant]; (repeat' split) <;> first | (simp [*]; done) | rfl | (simp [*]; rfl)
@[simp] theorem kept_restoreUnit (u : UnitRef) (x : UnitState × Nat) (s : State) : (restoreUnit u x s).kept = s.kept := by
  simp only [restoreUnit]; (repeat' split) <;> first | (simp [*]; done) | rfl | (simp [*]; rfl)
@[simp] theorem kept_restoreUnits (us : List UnitRef) (xs : List (UnitState × Nat)) (s : State) : (restoreUnits us xs s).kept = s.kept := by
  simp only [restoreUnits]; (repeat' split) <;> first | (simp [*]; done) | rfl | (simp [*]; rfl)
@[simp] theorem kept_loadInst (i : Sleeve) (k : Fin 4) (x : Restored) (s : State) : (loadInst i k x s).kept = s.kept := by
  simp only [loadInst]; (repeat' split) <;> first | (simp [*]; done) | rfl | (simp [*]; rfl)
@[simp] theorem kept_loadSlotRec (k : Fin 32) (x : Restored) (s : State) : (loadSlotRec k x s).kept = s.kept := by
  simp only [loadSlotRec]; (repeat' split) <;> first | (simp [*]; done) | rfl | (simp [*]; rfl)
@[simp] theorem kept_loadCmdKey (i : Sleeve) (x : Restored) (s : State) : (loadCmdKey i x s).kept = s.kept := by
  simp only [loadCmdKey]; (repeat' split) <;> first | (simp [*]; done) | rfl | (simp [*]; rfl)
@[simp] theorem kept_loadUnits (us : List UnitRef) (b : Option Body) (s : State) : (loadUnits us b s).kept = s.kept := by
  simp only [loadUnits]; (repeat' split) <;> first | (simp [*]; done) | rfl | (simp [*]; rfl)
@[simp] theorem kept_loadBank (b : Fin 16) (x : Option Body) (s : State) : (loadBank b x s).kept = s.kept := by
  simp only [loadBank]; (repeat' split) <;> first | (simp [*]; done) | rfl | (simp [*]; rfl)
@[simp] theorem kept_failInProgress (s : State) : (failInProgress s).kept = s.kept := by
  simp only [failInProgress]; (repeat' split) <;> first | (simp [*]; done) | rfl | (simp [*]; rfl)
@[simp] theorem kept_clearYoke  (s : State) : (clearYoke s).kept = s.kept := by
  simp only [clearYoke]; (repeat' split) <;> first | (simp [*]; done) | rfl | (simp [*]; rfl)
@[simp] theorem kept_reloadInstRec (i : Sleeve) (k : Fin 4) (s : State) : (reloadRecord (.inst i k) s).kept = s.kept := by
  simp [reloadRecord, loadRecord]
@[simp] theorem kept_reloadSlotRec (k : Fin 32) (s : State) : (reloadRecord (.slot k) s).kept = s.kept := by
  simp [reloadRecord, loadRecord]
@[simp] theorem kept_reloadKeyRec (i : Sleeve) (s : State) : (reloadRecord (.cmdKey i) s).kept = s.kept := by
  simp [reloadRecord, loadRecord]
@[simp] theorem kept_doorVolatile (s : State) : (doorVolatile s).kept = s.kept := by
  simp only [doorVolatile]
  rw [kept_settleFabric, kept_forAll _ _ _ (fun i u => kept_reloadKeyRec i u), kept_forAll _ _ _ (fun i u => kept_reloadSlotRec i u),
    kept_forAll _ _ _ (fun i u => kept_forAll _ _ _ (fun k v => kept_reloadInstRec i k v)), kept_clearYoke, kept_failInProgress]
@[simp] theorem kept_withdrawWaiting (s : State) : (withdrawWaiting s).kept = s.kept := by
  simp only [withdrawWaiting]; (repeat' split) <;> first | (simp [*]; done) | rfl | (simp [*]; rfl)
@[simp] theorem kept_doorErase (s : State) : (doorErase s).kept = s.kept := by
  simp only [doorErase]; (repeat' split) <;> first | (simp [*]; done) | rfl | (simp [*]; rfl)
@[simp] theorem kept_doorAlarm (s : State) : (doorAlarm s).kept = s.kept := by
  simp only [doorAlarm]; (repeat' split) <;> first | (simp [*]; done) | rfl | (simp [*]; rfl)
@[simp] theorem kept_startPowerUp (t : Thread) (s : State) : (startPowerUp t s).kept = s.kept := by
  simp only [startPowerUp]; (repeat' split) <;> first | (simp [*]; done) | rfl | (simp [*]; rfl)
@[simp] theorem kept_restartTest (t : Thread) (s : State) : (restartTest t s).kept = s.kept := by
  simp only [restartTest]; (repeat' split) <;> first | (simp [*]; done) | rfl | (simp [*]; rfl)
@[simp] theorem kept_holdWindows (t : Thread) (s : State) : (holdWindows t s).kept = s.kept := by
  simp only [holdWindows]; (repeat' split) <;> first | (simp [*]; done) | rfl | (simp [*]; rfl)
@[simp] theorem kept_endHeldCapture (s : State) : (endHeldCapture s).kept = s.kept := by
  simp only [endHeldCapture]; (repeat' split) <;> first | (simp [*]; done) | rfl | (simp [*]; rfl)
@[simp] theorem kept_holdRail (s : State) : (holdRail s).kept = s.kept := by
  simp only [holdRail]; (repeat' split) <;> first | (simp [*]; done) | rfl | (simp [*]; rfl)
@[simp] theorem kept_holdRide (s : State) : (holdRide s).kept = s.kept := by
  simp only [holdRide]; (repeat' split) <;> first | (simp [*]; done) | rfl | (simp [*]; rfl)
@[simp] theorem kept_releaseRide (s : State) : (releaseRide s).kept = s.kept := by
  simp only [releaseRide]; (repeat' split) <;> first | (simp [*]; done) | rfl | (simp [*]; rfl)
@[simp] theorem kept_startTests (s : State) : (startTests s).kept = s.kept := by
  simp only [startTests]; (repeat' split) <;> first | (simp [*]; done) | rfl | (simp [*]; rfl)
@[simp] theorem kept_setVin (mv : Nat) (s : State) : (setVin mv s).kept = s.kept := by
  simp only [setVin]; (repeat' split) <;> first | (simp [*]; done) | rfl | (simp [*]; rfl)
@[simp] theorem kept_noteVinHigh (s : State) : (noteVinHigh s).kept = s.kept := by
  simp only [noteVinHigh]; (repeat' split) <;> first | (simp [*]; done) | rfl | (simp [*]; rfl)
@[simp] theorem kept_noteHold (bits : BitVec 11) (code : BitVec 16) (s : State) : (noteHold bits code s).kept = s.kept := by
  simp only [noteHold]; (repeat' split) <;> first | (simp [*]; done) | rfl | (simp [*]; rfl)
@[simp] theorem kept_gateAdmission (m : BeltMove) (s : State) : (gateAdmission m s).kept = s.kept := by
  simp only [gateAdmission]; (repeat' split) <;> first | (simp [*]; done) | rfl | (simp [*]; rfl)
@[simp] theorem kept_beltFlags (m : BeltMove) (b : BeltIn) (s : State) : (beltFlags m b s).kept = s.kept := by
  simp only [beltFlags]; (repeat' split) <;> first | (simp [*]; done) | rfl | (simp [*]; rfl)
@[simp] theorem kept_samplePace (dieT : Nat) (s : State) : (samplePace dieT s).kept = s.kept := by
  simp only [samplePace]
  generalize (if 189 < dieT then true else if dieT < 184 then false else s.supply.paceLow) = b
  split
  · rfl
  · rw [kept_raise, kept_when _ _ _ (fun u => kept_modCapture _ u), kept_modSupply _ _ rfl rfl]
@[simp] theorem kept_beginTripFold (s : State) : (beginTripFold s).kept = s.kept := by
  simp only [beginTripFold]; (repeat' split) <;> first | (simp [*]; done) | rfl | (simp [*]; rfl)
@[simp] theorem kept_takeRun (r : Run) (s : State) : (takeRun r s).kept = s.kept := by
  simp only [takeRun]; (repeat' split) <;> first | (simp [*]; done) | rfl | (simp [*]; rfl)
@[simp] theorem kept_seamOn (v : Bool) (k : Fin 32) (s : State) : (seamOn v k s).kept = s.kept := by
  simp only [seamOn]; (repeat' split) <;> first | (simp [*]; done) | rfl | (simp [*]; rfl)
@[simp] theorem kept_clearSlice (k : Fin 32) (s : State) : (clearSlice k s).kept = s.kept := by
  simp only [clearSlice]; (repeat' split) <;> first | (simp [*]; done) | rfl | (simp [*]; rfl)
@[simp] theorem kept_afterRun (r : Run) (s : State) : (afterRun r s).kept = s.kept := by
  simp only [afterRun]; (repeat' split) <;> first | (simp [*]; done) | rfl | (simp [*]; rfl)
@[simp] theorem kept_clearFail (r : Run) (s : State) : (clearFail r s).kept = s.kept := by
  simp only [clearFail]; (repeat' split) <;> first | (simp [*]; done) | rfl | (simp [*]; rfl)
@[simp] theorem kept_sweepUnit (u : UnitRef) (s : State) : (sweepUnit u s).kept = s.kept := by
  simp only [sweepUnit]; (repeat' split) <;> first | (simp [*]; done) | rfl | (simp [*]; rfl)
@[simp] theorem kept_answerLost (s : State) : (answerLost s).kept = s.kept := by
  simp only [answerLost]; (repeat' split) <;> first | (simp [*]; done) | rfl | (simp [*]; rfl)
@[simp] theorem kept_withdrawFenced (i : Sleeve) (s : State) : (withdrawFenced i s).kept = s.kept := by
  simp only [withdrawFenced]; (repeat' split) <;> first | (simp [*]; done) | rfl | (simp [*]; rfl)
@[simp] theorem kept_fenceSleeve (i : Sleeve) (s : State) : (fenceSleeve i s).kept = s.kept := by
  simp only [fenceSleeve]; (repeat' split) <;> first | (simp [*]; done) | rfl | (simp [*]; rfl)
@[simp] theorem kept_returnSleeve (i : Sleeve) (s : State) : (returnSleeve i s).kept = s.kept := by
  simp only [returnSleeve]; (repeat' split) <;> first | (simp [*]; done) | rfl | (simp [*]; rfl)
@[simp] theorem kept_readmitSleeve (i : Sleeve) (s : State) : (readmitSleeve i s).kept = s.kept := by
  simp only [readmitSleeve]; (repeat' split) <;> first | (simp [*]; done) | rfl | (simp [*]; rfl)
@[simp] theorem kept_refuseSleeve (i : Sleeve) (s : State) : (refuseSleeve i s).kept = s.kept := by
  simp only [refuseSleeve]; (repeat' split) <;> first | (simp [*]; done) | rfl | (simp [*]; rfl)
@[simp] theorem kept_updateInst (o : Op) (data : BitVec 384) (s : State) : (updateInst o data s).kept = s.kept := by
  simp only [updateInst]; (repeat' split) <;> first | (simp [*]; done) | rfl | (simp [*]; rfl)
@[simp] theorem kept_reseeded (o : Op) (s : State) : (reseeded o s).kept = s.kept := by
  simp only [reseeded]; (repeat' split) <;> first | (simp [*]; done) | rfl | (simp [*]; rfl)
@[simp] theorem kept_completeGenerate (o : Op) (s : State) : (completeGenerate o s).kept = s.kept := by
  simp only [completeGenerate]; (repeat' split) <;> first | (simp [*]; done) | rfl | (simp [*]; rfl)
@[simp] theorem kept_finishUpdate (o : Op) (s : State) : (finishUpdate o s).kept = s.kept := by
  simp only [finishUpdate]; (repeat' split) <;> first | (simp [*]; done) | rfl | (simp [*]; rfl)
@[simp] theorem kept_leaveOp (id : Nat) (s : State) : (leaveOp id s).kept = s.kept := by
  simp only [leaveOp]; (repeat' split) <;> first | (simp [*]; done) | rfl | (simp [*]; rfl)
@[simp] theorem kept_fillPlace (i : Sleeve) (n : Fin 4) (p : Nat) (s : State) : (fillPlace i n p s).kept = s.kept := by
  simp only [fillPlace]; (repeat' split) <;> first | (simp [*]; done) | rfl | (simp [*]; rfl)
@[simp] theorem kept_finishPocket (o : Op) (p : Nat) (s : State) : (finishPocket o p s).kept = s.kept := by
  simp only [finishPocket]; (repeat' split) <;> first | (simp [*]; done) | rfl | (simp [*]; rfl)
@[simp] theorem kept_finishWork (w : LaneWork) (s : State) : (finishWork w s).kept = s.kept := by
  simp only [finishWork]; (repeat' split) <;> first | (simp [*]; done) | rfl | (simp [*]; rfl)
@[simp] theorem kept_finishCounter (k : Fin 4) (s : State) : (finishCounter k s).kept = s.kept := by
  simp only [finishCounter]; (repeat' split) <;> first | (simp [*]; done) | rfl | (simp [*]; rfl)
@[simp] theorem kept_finishUpdateLane (k : Fin 4) (s : State) : (finishUpdateLane k s).kept = s.kept := by
  simp only [finishUpdateLane]; (repeat' split) <;> first | (simp [*]; done) | rfl | (simp [*]; rfl)
@[simp] theorem kept_ageHeads (o : Op) (s : State) : (ageHeads o s).kept = s.kept := by
  simp only [ageHeads]; (repeat' split) <;> first | (simp [*]; done) | rfl | (simp [*]; rfl)
@[simp] theorem kept_placePocket (o : Op) (k : Fin 4) (p : Nat) (s : State) : (placePocket o k p s).kept = s.kept := by
  simp only [placePocket]; (repeat' split) <;> first | (simp [*]; done) | rfl | (simp [*]; rfl)
@[simp] theorem kept_stallClaim (op : Nat) (core : Option (Fin 4)) (data : List Byte) (s : State) : (stallClaim op core data s).kept = s.kept := by
  simp only [stallClaim]; (repeat' split) <;> first | (simp [*]; done) | rfl | (simp [*]; rfl)
@[simp] theorem kept_assignPlace (o : Op) (s : State) : (assignPlace o s).kept = s.kept := by
  simp only [assignPlace]; (repeat' split) <;> first | (simp [*]; done) | rfl | (simp [*]; rfl)
@[simp] theorem kept_reachBoundary (o : Op) (s : State) : (reachBoundary o s).kept = s.kept := by
  simp only [reachBoundary]; (repeat' split) <;> first | (simp [*]; done) | rfl | (simp [*]; rfl)
theorem kept_claimNow {i : Sleeve} {s s' : State} {p : Nat} (h : claimNow i s = some (p, s')) : s'.kept = s.kept := by
  unfold claimNow at h
  split at h
  · exact kept_claimPocket h
  · cases h
@[simp] theorem kept_grantPocket (o : Op) (k : Fin 4) (s : State) : (grantPocket o k s).kept = s.kept := by
  unfold grantPocket
  dsimp only
  rw [kept_reachBoundary]
  split
  · rw [kept_placePocket, kept_claimNow ‹_›]; simp
  · simp
@[simp] theorem kept_aesFault (k : Fin 4) (s : State) : (aesFault k s).kept = s.kept := by
  simp only [aesFault]; (repeat' split) <;> first | (simp [*]; done) | rfl | (simp [*]; rfl)
@[simp] theorem kept_reloadInst (i : Sleeve) (k : Fin 4) (s : State) : (reloadInst i k s).kept = s.kept := by
  simp only [reloadInst]; (repeat' split) <;> first | (simp [*]; done) | rfl | (simp [*]; rfl)
@[simp] theorem kept_endInstReload (i : Sleeve) (k : Fin 4) (s : State) : (endInstReload i k s).kept = s.kept := by
  simp only [endInstReload]; (repeat' split) <;> first | (simp [*]; done) | rfl | (simp [*]; rfl)
@[simp] theorem kept_setLastPush (c : Sel) (v : Nat) (s : State) : (setLastPush c v s).kept = s.kept := by
  simp only [setLastPush]; (repeat' split) <;> first | (simp [*]; done) | rfl | (simp [*]; rfl)
@[simp] theorem kept_commitPush (c : Sel) (packet : List Byte) (s : State) : (commitPush c packet s).kept = s.kept := by
  simp only [commitPush]; (repeat' split) <;> first | (simp [*]; done) | rfl | (simp [*]; rfl)
@[simp] theorem kept_returnReply (i : Sleeve) (r : Reply) (s : State) : (returnReply i r s).kept = s.kept := by
  simp only [returnReply]; (repeat' split) <;> first | (simp [*]; done) | rfl | (simp [*]; rfl)
@[simp] theorem kept_finishPop (c : Sel) (sh : Shift) (i : Sleeve) (r : Reply) (bytes : List Byte) (s : State) : (finishPop c sh i r bytes s).kept = s.kept := by
  simp only [finishPop]; (repeat' split) <;> first | (simp [*]; done) | rfl | (simp [*]; rfl)
@[simp] theorem kept_popOne (c : Sel) (sh : Shift) (inner : State → State) (s : State) (hinner : ∀  (u : State), (inner u).kept = u.kept) : (popOne c sh inner s).kept = s.kept := by
  simp only [popOne]; (repeat' split) <;> first | (simp [*]; done) | rfl | (simp [*]; rfl)
@[simp] theorem kept_withdrawCmdOps (id : Nat) (s : State) : (withdrawCmdOps id s).kept = s.kept := by
  simp only [withdrawCmdOps]; (repeat' split) <;> first | (simp [*]; done) | rfl | (simp [*]; rfl)
@[simp] theorem kept_withdrawCmdCommits (id : Nat) (s : State) : (withdrawCmdCommits id s).kept = s.kept := by
  simp only [withdrawCmdCommits]; (repeat' split) <;> first | (simp [*]; done) | rfl | (simp [*]; rfl)
@[simp] theorem kept_withdrawCmdCtx (id : Nat) (i : Sleeve) (k : Fin 4) (s : State) : (withdrawCmdCtx id i k s).kept = s.kept := by
  simp only [withdrawCmdCtx]; (repeat' split) <;> first | (simp [*]; done) | rfl | (simp [*]; rfl)
@[simp] theorem kept_withdrawCmdRuns (id : Nat) (s : State) : (withdrawCmdRuns id s).kept = s.kept := by
  simp only [withdrawCmdRuns]; (repeat' split) <;> first | (simp [*]; done) | rfl | (simp [*]; rfl)
@[simp] theorem kept_withdrawCmdTests (c : Cmd) (s : State) : (withdrawCmdTests c s).kept = s.kept := by
  simp only [withdrawCmdTests]; (repeat' split) <;> first | (simp [*]; done) | rfl | (simp [*]; rfl)
@[simp] theorem kept_withdrawCmdWaits (id : Nat) (s : State) : (withdrawCmdWaits id s).kept = s.kept := by
  simp only [withdrawCmdWaits]
  rw [kept_modPower, kept_modLog _ _ (by split <;> rfl), kept_modPorts _ _ rfl]
@[simp] theorem kept_failCommand (id : Nat) (st : Byte) (s : State) : (failCommand id st s).kept = s.kept := by
  simp only [failCommand]; (repeat' split) <;> first | (simp [*]; done) | rfl | (simp [*]; rfl)
@[simp] theorem kept_timeOut (c : Cmd) (s : State) : (timeOut c s).kept = s.kept := by
  simp only [timeOut]
  rw [kept_when _ _ _ (fun u => kept_modPower _ u), kept_raiseS, kept_modSleeve, kept_failCommand]
@[simp] theorem kept_queueProbe (q : Sleeve × Fin 4) (s : State) : (queueProbe q s).kept = s.kept := by
  simp only [queueProbe]; (repeat' split) <;> first | (simp [*]; done) | rfl | (simp [*]; rfl)
@[simp] theorem kept_queueRecords (q : Sleeve × Fin 4)(y0 : Nat) (s : State) : (queueRecords q y0 s).kept = s.kept := by
  induction y0 generalizing s with
  | zero => rfl
  | succ n ih => simp only [queueRecords]; (repeat' split) <;> first | (simp [*]; done) | rfl
@[simp] theorem kept_pushEngine (p : Fin 3) (s : State) : (pushEngine p s).kept = s.kept := by
  simp only [pushEngine]; (repeat' split) <;> first | (simp [*]; done) | rfl | (simp [*]; rfl)
@[simp] theorem kept_driveMaster (c : Sel) (r : List Byte × List Byte) (periods : List Nat) (s : State) : (driveMaster c r periods s).kept = s.kept := by
  simp only [driveMaster]; (repeat' split) <;> first | (simp [*]; done) | rfl | (simp [*]; rfl)
@[simp] theorem kept_runProbe (m : MasterEntry) (lane0 : BitVec 32) (s : State) : (runProbe m lane0 s).kept = s.kept := by
  simp only [runProbe]; (repeat' split) <;> first | (simp [*]; done) | rfl | (simp [*]; rfl)
@[simp] theorem kept_runRecord (p : Fin 3) (m : MasterEntry) (s : State) : (runRecord p m s).kept = s.kept := by
  simp only [runRecord]; (repeat' split) <;> first | (simp [*]; done) | rfl | (simp [*]; rfl)
@[simp] theorem kept_runEntry (p : Fin 3) (lane0 : BitVec 32) (s : State) : (runEntry p lane0 s).kept = s.kept := by
  simp only [runEntry]; (repeat' split) <;> first | (simp [*]; done) | rfl | (simp [*]; rfl)
@[simp] theorem kept_closeWindow (q : Sleeve × Fin 4) (s : State) : (closeWindow q s).kept = s.kept := by
  simp only [closeWindow]; (repeat' split) <;> first | (simp [*]; done) | rfl | (simp [*]; rfl)
@[simp] theorem kept_missWindow (q : Sleeve × Fin 4) (s : State) : (missWindow q s).kept = s.kept := by
  simp only [missWindow]; (repeat' split) <;> first | (simp [*]; done) | rfl | (simp [*]; rfl)
@[simp] theorem kept_loseRecord (p : Fin 3) (m : MasterEntry) (s : State) : (loseRecord p m s).kept = s.kept := by
  simp only [loseRecord]; (repeat' split) <;> first | (simp [*]; done) | rfl | (simp [*]; rfl)
@[simp] theorem kept_fetchFault (code : BitVec 16) (s : State) : (fetchFault code s).kept = s.kept := by
  simp only [fetchFault]; (repeat' split) <;> first | (simp [*]; done) | rfl | (simp [*]; rfl)
@[simp] theorem kept_dropLowCredit (s : State) : (dropLowCredit s).kept = s.kept := by
  simp only [dropLowCredit]; (repeat' split) <;> first | (simp [*]; done) | rfl | (simp [*]; rfl)
@[simp] theorem kept_releaseStaged (k : Fin 4) (s : State) : (releaseStaged k s).kept = s.kept := by
  simp only [releaseStaged]; (repeat' split) <;> first | (simp [*]; done) | rfl | (simp [*]; rfl)
@[simp] theorem kept_discardStaged (k : Fin 4) (s : State) : (discardStaged k s).kept = s.kept := by
  simp only [discardStaged]; (repeat' split) <;> first | (simp [*]; done) | rfl | (simp [*]; rfl)
@[simp] theorem kept_afterCondFault (s : State) : (afterCondFault s).kept = s.kept := by
  simp only [afterCondFault]; (repeat' split) <;> first | (simp [*]; done) | rfl | (simp [*]; rfl)
@[simp] theorem kept_seedIntoPocket (o : Op) (p : Nat) (data : List Byte) (s : State) : (seedIntoPocket o p data s).kept = s.kept := by
  simp only [seedIntoPocket]; (repeat' split) <;> first | (simp [*]; done) | rfl | (simp [*]; rfl)
@[simp] theorem kept_grantUnitsTo (o : Op) (s : State) : (grantUnitsTo o s).kept = s.kept := by
  unfold grantUnitsTo
  dsimp only
  split
  · generalize hc : claimNow o.sl _ = c
    cases c with
    | none => simp
    | some r =>
      obtain ⟨p, s'⟩ := r
      have h := kept_claimNow hc
      simp at h
      dsimp only
      (repeat' split) <;> simp [h]
  · simp
@[simp] theorem kept_serveClaim (c : StalledClaim) (o : Op) (p : Nat) (s : State) : (serveClaim c o p s).kept = s.kept := by
  simp only [serveClaim]; (repeat' split) <;> first | (simp [*]; done) | rfl | (simp [*]; rfl)
@[simp] theorem kept_recordCut (c : Sel) (n : Fin 4) (k : Nat) (sh : Shift) (s : State) : (recordCut c n k sh s).kept = s.kept := by
  simp only [recordCut, kept_sendRecord, kept_claimFrame, kept_drive]
@[simp] theorem kept_recordTorn (c : Sel) (n : Fin 4) (p : Nat) (sh : Shift) (s : State) : (recordTorn c n p sh s).kept = s.kept := by
  simp only [recordTorn]; (repeat' split) <;> first | (simp [*]; done) | rfl | (simp [*]; rfl)
@[simp] theorem kept_tornInScrub (p : Nat) (s : State) : (tornInScrub p s).kept = s.kept := by
  simp only [tornInScrub]; (repeat' split) <;> first | (simp [*]; done) | rfl | (simp [*]; rfl)
@[simp] theorem kept_ownerAlarm (p : Nat) (s : State) : (ownerAlarm p s).kept = s.kept := by
  simp only [ownerAlarm]; (repeat' split) <;> first | (simp [*]; done) | rfl | (simp [*]; rfl)
@[simp] theorem kept_loseReplyPocket (i : Sleeve) (cmd p : Nat) (s : State) : (loseReplyPocket i cmd p s).kept = s.kept := by
  simp only [loseReplyPocket]; (repeat' split) <;> first | (simp [*]; done) | rfl | (simp [*]; rfl)
@[simp] theorem kept_noteSeal (r : SealRef) (s : State) : (noteSeal r s).kept = s.kept := by
  simp only [noteSeal]; (repeat' split) <;> first | (simp [*]; done) | rfl | (simp [*]; rfl)
@[simp] theorem kept_queuePowerRuns (s : State) : (queuePowerRuns s).kept = s.kept := by
  simp only [queuePowerRuns]; (repeat' split) <;> first | (simp [*]; done) | rfl | (simp [*]; rfl)
@[simp] theorem kept_maskStore (s : State) : (maskStore s).kept = s.kept := by
  simp only [maskStore]
  rw [kept_recut, kept_forAll _ _ _ (fun b u => by split <;> simp), kept_modPool]
@[simp] theorem kept_restoreWidths (s : State) : (restoreWidths s).kept = s.kept := by
  simp only [restoreWidths]; (repeat' split) <;> first | (simp [*]; done) | rfl | (simp [*]; rfl)
@[simp] theorem kept_freshFloor  (s : State) : (freshFloor s).kept = s.kept := by
  simp only [freshFloor]; (repeat' split) <;> first | (simp [*]; done) | rfl | (simp [*]; rfl)
@[simp] theorem kept_settleTap (s : State) : (settleTap s).kept = s.kept := by
  simp only [settleTap]; (repeat' split) <;> first | (simp [*]; done) | rfl | (simp [*]; rfl)
@[simp] theorem kept_foldTimeouts (s : State) : (foldTimeouts s).kept = s.kept := by
  simp only [foldTimeouts]; (repeat' split) <;> first | (simp [*]; done) | rfl | (simp [*]; rfl)
@[simp] theorem kept_stopRuns (s : State) : (stopRuns s).kept = s.kept := by
  simp only [stopRuns]; (repeat' split) <;> first | (simp [*]; done) | rfl | (simp [*]; rfl)
@[simp] theorem kept_foldThreadOff (t : Thread) (s : State) : (foldThreadOff t s).kept = s.kept := by
  simp only [foldThreadOff]; (repeat' split) <;> first | (simp [*]; done) | rfl | (simp [*]; rfl)
@[simp] theorem kept_closeAllWindows (s : State) : (closeAllWindows s).kept = s.kept := kept_forAll _ _ _ (fun q u => by split <;> simp)
@[simp] theorem kept_foldPortOff (p : Fin 3) (s : State) : (foldPortOff p s).kept = s.kept := by
  simp only [foldPortOff]; (repeat' split) <;> first | (simp [*]; done) | rfl | (simp [*]; rfl)
@[simp] theorem kept_answerResumes (s : State) : (answerResumes s).kept = s.kept := by
  simp only [answerResumes]; (repeat' split) <;> first | (simp [*]; done) | rfl | (simp [*]; rfl)
@[simp] theorem kept_bistReqTarget (v : Word) (s : State) : (bistReqTarget v s).kept = s.kept := by
  simp only [bistReqTarget]; (repeat' split) <;> first | (simp [*]; done) | rfl | (simp [*]; rfl)
@[simp] theorem kept_writeFault (v : Word) (h : WordHw) (s : State) : (writeFault v h s).kept = s.kept := by
  simp only [writeFault]; (repeat' split) <;> first | (simp [*]; done) | rfl | (simp [*]; rfl)
@[simp] theorem kept_write2 (w : Nat) (v : Word) (h : WordHw) (s : State) : (write2 w v h s).kept = s.kept := by
  simp only [write2]; (repeat' split) <;> first | (simp [*]; done) | rfl | (simp [*]; rfl)
@[simp] theorem kept_write3 (w : Nat) (v : Word) (h : WordHw) (s : State) : (write3 w v h s).kept = s.kept := by
  simp only [write3]; (repeat' split) <;> first | (simp [*]; done) | rfl | (simp [*]; rfl)
@[simp] theorem kept_write4 (w : Nat) (v : Word) (h : WordHw) (s : State) : (write4 w v h s).kept = s.kept := by
  simp only [write4]; (repeat' split) <;> first | (simp [*]; done) | rfl | (simp [*]; rfl)
@[simp] theorem kept_write5 (w : Nat) (v : Word) (h : WordHw) (s : State) : (write5 w v h s).kept = s.kept := by
  simp only [write5]; (repeat' split) <;> first | (simp [*]; done) | rfl | (simp [*]; rfl)
@[simp] theorem kept_write6 (w : Nat) (v : Word) (h : WordHw) (s : State) : (write6 w v h s).kept = s.kept := by
  simp only [write6]; (repeat' split) <;> first | (simp [*]; done) | rfl | (simp [*]; rfl)
@[simp] theorem kept_writeDoor (v : Word) (h : WordHw) (s : State) : (writeDoor v h s).kept = s.kept := by
  simp only [writeDoor]; (repeat' split) <;> first | (simp [*]; done) | rfl | (simp [*]; rfl)
@[simp] theorem kept_write7 (w : Nat) (v : Word) (h : WordHw) (s : State) : (write7 w v h s).kept = s.kept := by
  simp only [write7]; (repeat' split) <;> first | (simp [*]; done) | rfl | (simp [*]; rfl)
@[simp] theorem kept_write8 (w : Nat) (v : Word) (h : WordHw) (s : State) : (write8 w v h s).kept = s.kept := by
  simp only [write8]; (repeat' split) <;> first | (simp [*]; done) | rfl | (simp [*]; rfl)
@[simp] theorem kept_write9 (w : Nat) (v : Word) (h : WordHw) (s : State) : (write9 w v h s).kept = s.kept := by
  simp only [write9]; (repeat' split) <;> first | (simp [*]; done) | rfl | (simp [*]; rfl)
@[simp] theorem kept_write10 (w : Nat) (v : Word) (h : WordHw) (s : State) : (write10 w v h s).kept = s.kept := by
  simp only [write10]; (repeat' split) <;> first | (simp [*]; done) | rfl | (simp [*]; rfl)
@[simp] theorem kept_write11 (w : Nat) (v : Word) (h : WordHw) (s : State) : (write11 w v h s).kept = s.kept := by
  simp only [write11]; (repeat' split) <;> first | (simp [*]; done) | rfl | (simp [*]; rfl)
@[simp] theorem kept_writeSleeve (i : Sleeve) (w : Nat) (v : Word) (h : WordHw) (s : State) : (writeSleeve i w v h s).kept = s.kept := by
  simp only [writeSleeve]; (repeat' split) <;> first | (simp [*]; done) | rfl | (simp [*]; rfl)
@[simp] theorem kept_modEngine (e : Fin 16) (f : Engine → Engine) (s : State) : (modEngine e f s).kept = s.kept := by
  simp only [modEngine]; (repeat' split) <;> first | (simp [*]; done) | rfl | (simp [*]; rfl)
@[simp] theorem kept_grantBlock (e : Fin 16) (i : Sleeve) (k : Fin 4) (s : State) : (grantBlock e i k s).kept = s.kept := by
  simp only [grantBlock]; (repeat' split) <;> first | (simp [*]; done) | rfl | (simp [*]; rfl)
@[simp] theorem kept_restartSeals (s : State) : (restartSeals s).kept = s.kept := kept_forAll _ _ _ (fun q u => by simp)
@[simp] theorem kept_failSlotReader (k : Fin 32) (s : State) : (failSlotReader k s).kept = s.kept := by
  simp only [failSlotReader]; (repeat' split) <;> first | (simp [*]; done) | rfl | (simp [*]; rfl)
@[simp] theorem kept_reloadSlot (k : Fin 32) (s : State) : (reloadSlot k s).kept = s.kept := by
  simp only [reloadSlot]; (repeat' split) <;> first | (simp [*]; done) | rfl | (simp [*]; rfl)
@[simp] theorem kept_endSlotReload (k : Fin 32) (s : State) : (endSlotReload k s).kept = s.kept := by
  simp only [endSlotReload]; (repeat' split) <;> first | (simp [*]; done) | rfl | (simp [*]; rfl)
@[simp] theorem kept_endReloads (s : State) : (endReloads s).kept = s.kept := by
  simp only [endReloads]; (repeat' split) <;> first | (simp [*]; done) | rfl | (simp [*]; rfl)
@[simp] theorem kept_foldTakeover (s : State) : (foldTakeover s).kept = s.kept := by
  simp only [foldTakeover]; (repeat' split) <;> first | (simp [*]; done) | rfl | (simp [*]; rfl)
@[simp] theorem kept_tripNow (t : Thread) (kind : Nat) (s : State) : (tripNow t kind s).kept = s.kept := by
  simp only [tripNow]; (repeat' split) <;> first | (simp [*]; done) | rfl | (simp [*]; rfl)
@[simp] theorem kept_releaseWindow (t : Thread) (s : State) : (releaseWindow t s).kept = s.kept := by
  simp only [releaseWindow]; (repeat' split) <;> first | (simp [*]; done) | rfl | (simp [*]; rfl)
@[simp] theorem kept_closeApt (t : Thread) (s : State) : (closeApt t s).kept = s.kept := by
  simp only [closeApt]; (repeat' split) <;> first | (simp [*]; done) | rfl | (simp [*]; rfl)
@[simp] theorem kept_closeDrift (t : Thread) (s : State) : (closeDrift t s).kept = s.kept := by
  simp only [closeDrift]; (repeat' split) <;> first | (simp [*]; done) | rfl | (simp [*]; rfl)
@[simp] theorem kept_noteLowCredit (t : Thread) (s : State) : (noteLowCredit t s).kept = s.kept := by
  simp only [noteLowCredit]; (repeat' split) <;> first | (simp [*]; done) | rfl | (simp [*]; rfl)
@[simp] theorem kept_closeEstimate (t : Thread) (s : State) : (closeEstimate t s).kept = s.kept := by
  simp only [closeEstimate]; (repeat' split) <;> first | (simp [*]; done) | rfl | (simp [*]; rfl)
@[simp] theorem kept_closeServo (t : Thread) (s : State) : (closeServo t s).kept = s.kept := by
  simp only [closeServo]; (repeat' split) <;> first | (simp [*]; done) | rfl | (simp [*]; rfl)
@[simp] theorem kept_passThread (t : Thread) (s : State) : (passThread t s).kept = s.kept := by
  simp only [passThread]; (repeat' split) <;> first | (simp [*]; done) | rfl | (simp [*]; rfl)
@[simp] theorem kept_failQuarantined (t : Thread) (s : State) : (failQuarantined t s).kept = s.kept := by
  simp only [failQuarantined]; (repeat' split) <;> first | (simp [*]; done) | rfl | (simp [*]; rfl)
@[simp] theorem kept_passQuarantined (t : Thread) (s : State) : (passQuarantined t s).kept = s.kept := by
  simp only [passQuarantined]; (repeat' split) <;> first | (simp [*]; done) | rfl | (simp [*]; rfl)
@[simp] theorem kept_startupFail (t : Thread) (s : State) : (startupFail t s).kept = s.kept := by
  simp only [startupFail]; (repeat' split) <;> first | (simp [*]; done) | rfl | (simp [*]; rfl)
@[simp] theorem kept_failInService (t : Thread) (s : State) : (failInService t s).kept = s.kept := by
  simp only [failInService]; (repeat' split) <;> first | (simp [*]; done) | rfl | (simp [*]; rfl)
@[simp] theorem kept_failReadmission (t : Thread) (s : State) : (failReadmission t s).kept = s.kept := by
  simp only [failReadmission]; (repeat' split) <;> first | (simp [*]; done) | rfl | (simp [*]; rfl)
@[simp] theorem kept_sampleTest (t : Thread) (b : Bool) (s : State) : (sampleTest t b s).kept = s.kept := by
  simp only [sampleTest]; (repeat' split) <;> first | (simp [*]; done) | rfl | (simp [*]; rfl)
@[simp] theorem kept_sampleRun (t : Thread) (b : Bool) (s : State) : (sampleRun t b s).kept = s.kept := by
  simp only [sampleRun]; (repeat' split) <;> first | (simp [*]; done) | rfl | (simp [*]; rfl)
@[simp] theorem kept_sampleCapture (t : Thread) (code : BitVec 4) (s : State) : (sampleCapture t code s).kept = s.kept := by
  simp only [sampleCapture]; (repeat' split) <;> first | (simp [*]; done) | rfl | (simp [*]; rfl)
@[simp] theorem kept_threadSample (t : Thread) (code : BitVec 4) (s : State) : (threadSample t code s).kept = s.kept := by
  simp only [threadSample]; (repeat' split) <;> first | (simp [*]; done) | rfl | (simp [*]; rfl)
@[simp] theorem kept_unholdRail (s : State) : (unholdRail s).kept = s.kept := by
  simp only [unholdRail]; (repeat' split) <;> first | (simp [*]; done) | rfl | (simp [*]; rfl)

end Sys2Proof.Machine
end

