-- ==== Sys2Proof/Laws/PerInstr.lean ====
section
/-! SUPPORT. One lemma per command for the families of LAWS.json. `Wordless`: no word of the table spells the command, since
the table gives its row no bits (DESIGN CHOICE, assumption log 8). -/

namespace Sys2Proof.Laws.Wordless

/-- No word, however long, spells the command. -/
def Statement (i : Instr) : Prop := ∀ nbits w, decodeTableWord nbits w ≠ some i

theorem ping t : Statement (.ping t) := fun _ _ => nofun
theorem identify t : Statement (.identify t) := fun _ _ => nofun
theorem getStatus t : Statement (.getStatus t) := fun _ _ => nofun
theorem setRoute t : Statement (.setRoute t) := fun _ _ => nofun
theorem setQuota t : Statement (.setQuota t) := fun _ _ => nofun
theorem resetSleeve t : Statement (.resetSleeve t) := fun _ _ => nofun
theorem instantiate t : Statement (.instantiate t) := fun _ _ => nofun
theorem uninstantiate t : Statement (.uninstantiate t) := fun _ _ => nofun
theorem reseed t : Statement (.reseed t) := fun _ _ => nofun
theorem generate t : Statement (.generate t) := fun _ _ => nofun
theorem generatePr t : Statement (.generatePr t) := fun _ _ => nofun
theorem getSeed t : Statement (.getSeed t) := fun _ _ => nofun
theorem setPriority t : Statement (.setPriority t) := fun _ _ => nofun
theorem patternWrite t : Statement (.patternWrite t) := fun _ _ => nofun
theorem patternCommit t : Statement (.patternCommit t) := fun _ _ => nofun
theorem patternRead t : Statement (.patternRead t) := fun _ _ => nofun
theorem streamStart t : Statement (.streamStart t) := fun _ _ => nofun
theorem streamStop t : Statement (.streamStop t) := fun _ _ => nofun
theorem digestBegin t : Statement (.digestBegin t) := fun _ _ => nofun
theorem digestUpdate t : Statement (.digestUpdate t) := fun _ _ => nofun
theorem digestFinal t : Statement (.digestFinal t) := fun _ _ => nofun
theorem digestSave t : Statement (.digestSave t) := fun _ _ => nofun
theorem digestRestore t : Statement (.digestRestore t) := fun _ _ => nofun
theorem digestCompare t : Statement (.digestCompare t) := fun _ _ => nofun
theorem keyLoad t : Statement (.keyLoad t) := fun _ _ => nofun
theorem keyErase t : Statement (.keyErase t) := fun _ _ => nofun
theorem keyInfo t : Statement (.keyInfo t) := fun _ _ => nofun
theorem sleeveKeyUpdate t : Statement (.sleeveKeyUpdate t) := fun _ _ => nofun
theorem threadStatus t : Statement (.threadStatus t) := fun _ _ => nofun
theorem threadQuarantine t : Statement (.threadQuarantine t) := fun _ _ => nofun
theorem threadReadmit t : Statement (.threadReadmit t) := fun _ _ => nofun
theorem setCredit t : Statement (.setCredit t) := fun _ _ => nofun
theorem rawCapture t : Statement (.rawCapture t) := fun _ _ => nofun
theorem bistRun t : Statement (.bistRun t) := fun _ _ => nofun
theorem bistRunReadmit t : Statement (.bistRunReadmit t) := fun _ _ => nofun
theorem bistResult t : Statement (.bistResult t) := fun _ _ => nofun
theorem setPowerPolicy t : Statement (.setPowerPolicy t) := fun _ _ => nofun
theorem fold t : Statement (.fold t) := fun _ _ => nofun
theorem resume t : Statement (.resume t) := fun _ _ => nofun
theorem getPower t : Statement (.getPower t) := fun _ _ => nofun
theorem logRead t : Statement (.logRead t) := fun _ _ => nofun
theorem logReadLr t : Statement (.logReadLr t) := fun _ _ => nofun
theorem logMark t : Statement (.logMark t) := fun _ _ => nofun
theorem logVerify t : Statement (.logVerify t) := fun _ _ => nofun
theorem pushScheduleRearm t : Statement (.pushScheduleRearm t) := fun _ _ => nofun
theorem pushScheduleReepoch t : Statement (.pushScheduleReepoch t) := fun _ _ => nofun
theorem pushScheduleSuspend t : Statement (.pushScheduleSuspend t) := fun _ _ => nofun
theorem pushStatus t : Statement (.pushStatus t) := fun _ _ => nofun
theorem laneConfig t : Statement (.laneConfig t) := fun _ _ => nofun
theorem linkTrain t : Statement (.linkTrain t) := fun _ _ => nofun
theorem patchLoad t f0 f1 : Statement (.patchLoad t f0 f1) := fun _ _ => nofun
theorem writeReg f word data hw : Statement (.writeReg f word data hw) := fun _ _ => nofun
theorem pushCmd f head packet : Statement (.pushCmd f head packet) := fun _ _ => nofun
theorem popReply sel pop : Statement (.popReply sel pop) := fun _ _ => nofun
theorem streamRead sel stream records : Statement (.streamRead sel stream records) := fun _ _ => nofun
theorem status f : Statement (.status f) := fun _ _ => nofun
theorem train sel seen completed : Statement (.train sel seen completed) := fun _ _ => nofun
theorem reservedFrame sel : Statement (.reservedFrame sel) := fun _ _ => nofun
theorem pwrWakewhyRead f : Statement (.pwrWakewhyRead f) := fun _ _ => nofun
theorem tlyNowlRead f : Statement (.tlyNowlRead f) := fun _ _ => nofun
theorem gblRstWrite sel v : Statement (.gblRstWrite sel v) := fun _ _ => nofun
theorem keyDoorActWrite sel v : Statement (.keyDoorActWrite sel v) := fun _ _ => nofun
theorem keyDoorMaintWrite sel v dec : Statement (.keyDoorMaintWrite sel v dec) := fun _ _ => nofun
theorem maintMinute : Statement .maintMinute := fun _ _ => nofun
theorem gblFaultAlarmAck sel v alarm : Statement (.gblFaultAlarmAck sel v alarm) := fun _ _ => nofun
theorem mmfClear sel v again : Statement (.mmfClear sel v again) := fun _ _ => nofun
theorem tlyCfgNorefWrite sel v : Statement (.tlyCfgNorefWrite sel v) := fun _ _ => nofun
theorem vinStartQualified vinMv dnc : Statement (.vinStartQualified vinMv dnc) := fun _ _ => nofun
theorem regulatorsUp ioSelOpen hold10mV : Statement (.regulatorsUp ioSelOpen hold10mV) := fun _ _ => nofun
theorem liningRestore wrapKatOk doorHigh damage : Statement (.liningRestore wrapKatOk doorHigh damage) := fun _ _ => nofun
theorem avalancheRailUp rail10mV : Statement (.avalancheRailUp rail10mV) := fun _ _ => nofun
theorem railStartupTimeout rail10mV : Statement (.railStartupTimeout rail10mV) := fun _ _ => nofun
theorem junctionConditioningDone : Statement .junctionConditioningDone := fun _ _ => nofun
theorem patchRecheck core f0 f1 : Statement (.patchRecheck core f0 f1) := fun _ _ => nofun
theorem readyRise : Statement .readyRise := fun _ _ => nofun
theorem bootEpochCommit : Statement .bootEpochCommit := fun _ _ => nofun
theorem brownout vinMv : Statement (.brownout vinMv) := fun _ _ => nofun
theorem overvoltageDisconnect vinMv : Statement (.overvoltageDisconnect vinMv) := fun _ _ => nofun
theorem vinHigh vinMv : Statement (.vinHigh vinMv) := fun _ _ => nofun
theorem vinDip vinMv : Statement (.vinDip vinMv) := fun _ _ => nofun
theorem rideExpiry vinMv : Statement (.rideExpiry vinMv) := fun _ _ => nofun
theorem resetAssert : Statement .resetAssert := fun _ _ => nofun
theorem resetRelease : Statement .resetRelease := fun _ _ => nofun
theorem doorAlarm : Statement .doorAlarm := fun _ _ => nofun
theorem zeroization : Statement .zeroization := fun _ _ => nofun
theorem doorClosed : Statement .doorClosed := fun _ _ => nofun
theorem wakePin : Statement .wakePin := fun _ _ => nofun
theorem wakeTimer : Statement .wakeTimer := fun _ _ => nofun
theorem thermalWake : Statement .thermalWake := fun _ _ => nofun
theorem wakeReady : Statement .wakeReady := fun _ _ => nofun
theorem foldEntry : Statement .foldEntry := fun _ _ => nofun
theorem refclkFound windows : Statement (.refclkFound windows) := fun _ _ => nofun
theorem refclkLost : Statement .refclkLost := fun _ _ => nofun
theorem oscMeasure err : Statement (.oscMeasure err) := fun _ _ => nofun
theorem bistReq v : Statement (.bistReq v) := fun _ _ => nofun
theorem bistStatCapture : Statement .bistStatCapture := fun _ _ => nofun
theorem commandTimeout id held : Statement (.commandTimeout id held) := fun _ _ => nofun
theorem beltPeriod b : Statement (.beltPeriod b) := fun _ _ => nofun
theorem dieTempSample dieT : Statement (.dieTempSample dieT) := fun _ _ => nofun
theorem holdMeasureDue : Statement .holdMeasureDue := fun _ _ => nofun
theorem holdMeasureDone capUf short : Statement (.holdMeasureDone capUf short) := fun _ _ => nofun
theorem floorRatioUpdate nothing : Statement (.floorRatioUpdate nothing) := fun _ _ => nofun
theorem floorRestored : Statement .floorRestored := fun _ _ => nofun
theorem threadSample t code : Statement (.threadSample t code) := fun _ _ => nofun
theorem aptWindowClose t : Statement (.aptWindowClose t) := fun _ _ => nofun
theorem driftWindowEnd t : Statement (.driftWindowEnd t) := fun _ _ => nofun
theorem estimateBlockEnd t : Statement (.estimateBlockEnd t) := fun _ _ => nofun
theorem servoBlockEnd t : Statement (.servoBlockEnd t) := fun _ _ => nofun
theorem threadStall t : Statement (.threadStall t) := fun _ _ => nofun
theorem threadRetestEnd t : Statement (.threadRetestEnd t) := fun _ _ => nofun
theorem startupTestEnd t nothing : Statement (.startupTestEnd t nothing) := fun _ _ => nofun
theorem aRailHold rail10mV : Statement (.aRailHold rail10mV) := fun _ _ => nofun
theorem aRailOk rail10mV : Statement (.aRailOk rail10mV) := fun _ _ => nofun
theorem captureEnd : Statement .captureEnd := fun _ _ => nofun
theorem yokeTakeByte : Statement .yokeTakeByte := fun _ _ => nofun
theorem blockToCore : Statement .blockToCore := fun _ _ => nofun
theorem conditioningDone k : Statement (.conditioningDone k) := fun _ _ => nofun
theorem stagingTimeout k : Statement (.stagingTimeout k) := fun _ _ => nofun
theorem condKatEnd k pass : Statement (.condKatEnd k pass) := fun _ _ => nofun
theorem reservoirGrant drawer : Statement (.reservoirGrant drawer) := fun _ _ => nofun
theorem pocketGrant core : Statement (.pocketGrant core) := fun _ _ => nofun
theorem updateLaneGrant core counter : Statement (.updateLaneGrant core counter) := fun _ _ => nofun
theorem aesMismatch m : Statement (.aesMismatch m) := fun _ _ => nofun
theorem aesRetestEnd core pass : Statement (.aesRetestEnd core pass) := fun _ _ => nofun
theorem instLiningFault sl kk copyOk : Statement (.instLiningFault sl kk copyOk) := fun _ _ => nofun
theorem bookingAllowed op : Statement (.bookingAllowed op) := fun _ _ => nofun
theorem pocketClaim claim : Statement (.pocketClaim claim) := fun _ _ => nofun
theorem pocketFree p : Statement (.pocketFree p) := fun _ _ => nofun
theorem pocketTorn p r : Statement (.pocketTorn p r) := fun _ _ => nofun
theorem bankEccStorm b errors : Statement (.bankEccStorm b errors) := fun _ _ => nofun
theorem bankScrub b pass : Statement (.bankScrub b pass) := fun _ _ => nofun
theorem bankDrainTimeout b : Statement (.bankDrainTimeout b) := fun _ _ => nofun
theorem queueRemoval sl : Statement (.queueRemoval sl) := fun _ _ => nofun
theorem streamSealDone sl n : Statement (.streamSealDone sl n) := fun _ _ => nofun
theorem crcBurst p lane : Statement (.crcBurst p lane) := fun _ _ => nofun
theorem pushWindowStart sl e : Statement (.pushWindowStart sl e) := fun _ _ => nofun
theorem pushProbe sl e bus : Statement (.pushProbe sl e bus) := fun _ _ => nofun
theorem masterTransfer p bus : Statement (.masterTransfer p bus) := fun _ _ => nofun
theorem pushSpanEnd sl e : Statement (.pushSpanEnd sl e) := fun _ _ => nofun
theorem multiMaster m : Statement (.multiMaster m) := fun _ _ => nofun
theorem xipFetch addr f0 f1 : Statement (.xipFetch addr f0 f1) := fun _ _ => nofun
theorem journalCommitGrant waiting : Statement (.journalCommitGrant waiting) := fun _ _ => nofun
theorem journalCommitMarker : Statement .journalCommitMarker := fun _ _ => nofun
theorem journalReadbackFail : Statement .journalReadbackFail := fun _ _ => nofun
theorem pendingRetry : Statement .pendingRetry := fun _ _ => nofun
theorem liningCheckFail r : Statement (.liningCheckFail r) := fun _ _ => nofun
theorem svcKat engine pass : Statement (.svcKat engine pass) := fun _ _ => nofun
theorem svcCoreFault core : Statement (.svcCoreFault core) := fun _ _ => nofun
theorem svcRetestEnd core pass : Statement (.svcRetestEnd core pass) := fun _ _ => nofun
theorem slotLiningFault k copyOk : Statement (.slotLiningFault k copyOk) := fun _ _ => nofun
theorem serviceBusError engine : Statement (.serviceBusError engine) := fun _ _ => nofun
theorem serviceCleared : Statement .serviceCleared := fun _ _ => nofun
theorem bistSliceStart : Statement .bistSliceStart := fun _ _ => nofun
theorem bistDrainDone slice : Statement (.bistDrainDone slice) := fun _ _ => nofun
theorem bistRunEnd slice parts : Statement (.bistRunEnd slice parts) := fun _ _ => nofun
theorem bistQueueTimeout : Statement .bistQueueTimeout := fun _ _ => nofun
theorem bistOvertempAbandon slice : Statement (.bistOvertempAbandon slice) := fun _ _ => nofun
theorem faultEvent code source data : Statement (.faultEvent code source data) := fun _ _ => nofun
theorem errorsLostSweep : Statement .errorsLostSweep := fun _ _ => nofun
theorem logWrite rowFails : Statement (.logWrite rowFails) := fun _ _ => nofun
theorem sleeveFault sl : Statement (.sleeveFault sl) := fun _ _ => nofun
theorem sleeveRetestEnd sl pass : Statement (.sleeveRetestEnd sl pass) := fun _ _ => nofun
theorem serviceEngineGrant engine : Statement (.serviceEngineGrant engine) := fun _ _ => nofun
theorem resultWindowRead f : Statement (.resultWindowRead f) := fun _ _ => nofun
theorem holdCharged : Statement .holdCharged := fun _ _ => nofun
theorem vinHighEnd : Statement .vinHighEnd := fun _ _ => nofun
theorem testLogicReset : Statement .testLogicReset := fun _ _ => nofun
theorem updateIr code : Statement (.updateIr code) := fun _ _ => nofun

end Sys2Proof.Laws.Wordless
end

