-- ==== Sys2Proof/Laws/Records.lean ====
section
/-! SUPPORT. The stores of the module that last: the lining's record pairs and the log's ring. What a store reads back, what it
leaves alone, and that it keeps the canonical form. What an event given to the fault handler can change. -/

namespace Sys2Proof.Machine

/-! ### The record pairs of the lining -/

/-- The canonical form of the lining: each record once, in rising order. -/
def mramWf (m : List Pair) : Bool := decide ((m.map (fun p => recPlace p.record)).Pairwise (· < ·))

theorem recPlace_insertPair (p : Pair) (m : List Pair) (n : Nat) (h : n ∈ (insertPair p m).map (fun q => recPlace q.record)) :
    n = recPlace p.record ∨ n ∈ m.map (fun q => recPlace q.record) := by
  induction m with
  | nil => simpa [insertPair] using h
  | cons q r ih =>
    simp only [insertPair] at h
    split at h
    · simpa using h
    · split at h
      · simp only [List.map_cons, List.mem_cons] at h ⊢
        exact h.imp_right .inr
      · simp only [List.map_cons, List.mem_cons] at h ⊢
        obtain h | h := h
        · exact .inr (.inl h)
        · exact (ih h).imp_right .inr

/-- A store keeps the canonical form. -/
theorem insertPair_wf (p : Pair) (m : List Pair) (h : mramWf m = true) : mramWf (insertPair p m) = true := by
  simp only [mramWf, decide_eq_true_eq] at *
  induction m with
  | nil => simp [insertPair]
  | cons q r ih =>
    simp only [List.map_cons, List.pairwise_cons] at h
    simp only [insertPair]
    split
    · rename_i lt
      simp only [List.map_cons, List.pairwise_cons, List.mem_cons]
      exact ⟨fun n hn => hn.elim (fun e => e ▸ lt) (fun e => lt.trans (h.1 n e)), h⟩
    · split
      · rename_i _ e
        simp only [List.map_cons, List.pairwise_cons]
        exact ⟨e ▸ h.1, h.2⟩
      · rename_i nlt ne
        simp only [List.map_cons, List.pairwise_cons]
        refine ⟨fun n hn => ?_, ih h.2⟩
        obtain e | e := recPlace_insertPair p r n hn
        · omega
        · exact h.1 n e

/-- The record of a place. -/
def lookupPair (n : Nat) (m : List Pair) : Option Pair := m.find? (fun p => recPlace p.record == n)

/-- A read after a store to the same record gives what was stored. -/
theorem lookupPair_insertPair_same (p : Pair) (m : List Pair) (h : mramWf m = true) :
    lookupPair (recPlace p.record) (insertPair p m) = some p := by
  induction m with
  | nil => simp [insertPair, lookupPair]
  | cons q r ih =>
    simp only [insertPair]
    split
    · simp [lookupPair]
    · split
      · simp [lookupPair]
      · rename_i _ ne
        have hr : mramWf r = true := by
          simp only [mramWf, decide_eq_true_eq, List.map_cons, List.pairwise_cons] at *
          exact h.2
        have hq : (recPlace q.record == recPlace p.record) = false := by simpa using Ne.symm ne
        simpa [lookupPair, hq] using ih hr

/-- A store leaves every other record alone. -/
theorem lookupPair_insertPair_other (p : Pair) (n : Nat) (m : List Pair) (h : n ≠ recPlace p.record) :
    lookupPair n (insertPair p m) = lookupPair n m := by
  have hp : (recPlace p.record == n) = false := by simpa using Ne.symm h
  induction m with
  | nil => simp [insertPair, lookupPair, hp]
  | cons q r ih =>
    simp only [insertPair]
    split
    · simp [lookupPair, hp]
    · split
      · rename_i _ e
        have hq : (recPlace q.record == n) = false := by rw [← e]; exact hp
        simp [lookupPair, hp, hq]
      · simp only [lookupPair, List.find?_cons] at *
        rw [ih]

/-- The lining as shipped is in canonical form. -/
theorem reset_mramWf : mramWf State.reset.lining.mram = true := by decide

/-! ### The rows of the log -/

/-- A stored entry takes the place of the entry of its row: no two entries share a row. -/
theorem store_rows (e : LogEntry) (l : Log) (h : (l.ring.map LogEntry.row).Nodup) :
    ((l.store e).ring.map LogEntry.row).Nodup := by
  simp only [Log.store, List.map_append, List.map_cons, List.map_nil]
  rw [List.nodup_append]
  refine ⟨?_, by simp, ?_⟩
  · exact h.sublist ((List.filter_sublist).map _)
  · intro a ha b hb
    simp only [List.mem_map, List.mem_filter, bne_iff_ne, List.mem_singleton] at ha hb
    obtain ⟨x, ⟨_, hx⟩, rfl⟩ := ha
    rw [hb]; exact hx

/-- A stored entry is the newest of the ring, and entries of other rows stay. -/
theorem store_last (e : LogEntry) (l : Log) : (l.store e).ring.getLast? = some e := by simp [Log.store]

theorem store_keeps (e x : LogEntry) (l : Log) (h : x ∈ l.ring) (hr : x.row ≠ e.row) : x ∈ (l.store e).ring := by
  simp [Log.store, h, hr]

/-! ### Events -/

/-- An event below rank 3 changes nothing but the log. -/
theorem raiseD_low (code : BitVec 16) (data : List Byte) (s : State) (h : rankOf code ≠ 3) :
    raiseD code data s = { s with log := (raiseD code data s).log } := by
  simp [raiseD, offer, mkEv, h]

/-- An event of rank 0 or 1 goes where R533 and R534 put it, and nothing else happens. -/
theorem raiseD_quiet (code : BitVec 16) (data : List Byte) (s : State) (h : rankOf code < 2) :
    raiseD code data s = { s with log := (placeEv (mkEv s code 15 data) s.log).1 } := by
  have h3 : rankOf code ≠ 3 := by omega
  have h2 : ¬ 2 = rankOf code := by omega
  simp [raiseD, offer, mkEv, h3, h2]

/-- Placing an event keeps the ring, the numbering, the alarm and the last-resort register. -/
theorem placeEv_keeps (e : Ev) (l : Log) : let m := (placeEv e l).1
    m.ring = l.ring ∧ m.next = l.next ∧ m.alarm = l.alarm ∧ m.lr = l.lr ∧ m.fenced = l.fenced ∧ m.keyOk = l.keyOk := by
  simp only [placeEv]
  split
  · simp
  · split
    · simp
    · split
      · simp
      · split <;> simp [countLost]

/-- An event with nothing in hand is taken in hand. -/
theorem placeEv_idle (e : Ev) (l : Log) (h : l.hand = none) : placeEv e l = ({ l with hand := some e }, true) := by
  simp [placeEv, h]

end Sys2Proof.Machine
end

