-- ==== Sys2Proof/Laws/Sha.lean ====
section
/-! SUPPORT. The lengths of byte strings, hashes and MACs. -/

namespace Sys2Proof.Machine

@[simp] theorem natBytes_length (n v : Nat) : (natBytes n v).length = n := by
  induction n generalizing v with
  | zero => rfl
  | succ n ih => simp [natBytes, ih]

@[simp] theorem wordBytes_length (w : Word) : (wordBytes w).length = 4 := rfl

@[simp] theorem wordsBytes_length (ws : List Word) : (wordsBytes ws).length = 4 * ws.length := by
  induction ws with
  | nil => rfl
  | cons w r ih => simp [wordsBytes] at *; omega

@[simp] theorem wordsOf_length (k w n : Nat) (bs : List Byte) : (wordsOf k w n bs).length = n := by
  induction n generalizing bs with
  | zero => rfl
  | succ n ih => simp [wordsOf, ih]

theorem shaRound_length (f : ShaForm) (st : List (BitVec f.w)) (kw : BitVec f.w) :
    (shaRound f st kw).length = st.length := by
  simp only [shaRound]
  split <;> rfl

theorem compress_length (f : ShaForm) (ks cv block : List (BitVec f.w)) : (compress f ks cv block).length = cv.length := by
  have h : ∀ (l st : List (BitVec f.w)), (l.foldl (shaRound f) st).length = st.length := by
    intro l
    induction l with
    | nil => intro st; rfl
    | cons a r ih => intro st; rw [List.foldl_cons, ih, shaRound_length]
  simp [compress, h]

theorem flatMap_natBytes_length {w : Nat} (k : Nat) (l : List (BitVec w)) :
    (l.flatMap (fun x => natBytes k x.toNat)).length = k * l.length := by
  induction l with
  | nil => rfl
  | cons a r ih => simp only [List.flatMap_cons, List.length_append, natBytes_length, ih, List.length_cons]; ring

/-- A chaining value has 8 words (Table 15-3). -/
theorem compressBytes_length (alg : Nat) (cv block : List Byte) :
    (compressBytes alg cv block).length = if alg = 0 then 32 else 64 := by
  simp only [compressBytes]
  split
  · exact (flatMap_natBytes_length 4 _).trans
      (congrArg (4 * ·) ((compress_length form256 _ _ _).trans (wordsOf_length 4 32 8 cv)))
  · exact (flatMap_natBytes_length 8 _).trans
      (congrArg (8 * ·) ((compress_length form512 _ _ _).trans (wordsOf_length 8 64 8 cv)))

theorem compressBlocks_length (alg n : Nat) (cv bs : List Byte) (h : n ≠ 0) :
    (compressBlocks alg n cv bs).length = if alg = 0 then 32 else 64 := by
  induction n generalizing cv bs with
  | zero => exact absurd rfl h
  | succ n ih =>
    by_cases hn : n = 0
    · subst hn; exact compressBytes_length alg cv _
    · exact ih _ _ hn

theorem shaPad_length (alg total : Nat) (tail : List Byte) : blockLen alg ≤ (shaPad alg total tail).length := by
  simp only [shaPad, List.length_append, List.length_replicate, natBytes_length, List.length_cons, List.length_nil, blockLen]
  by_cases ha : alg = 0 <;> simp only [ha, if_true, if_false] <;> split <;> omega

/-- A digest has its algorithm's length (Table 15-3). -/
theorem shaFinish_length (alg : Nat) (cv : List Byte) (hashed : Nat) (tail : List Byte) :
    (shaFinish alg cv hashed tail).length = digestLen alg := by
  have hb : 0 < blockLen alg := by simp only [blockLen]; split <;> omega
  have hd : digestLen alg ≤ if alg = 0 then 32 else 64 := by simp only [digestLen]; split_ifs <;> omega
  simp only [shaFinish, List.length_take]
  rw [compressBlocks_length _ _ _ _ (Nat.div_pos (shaPad_length alg _ tail) hb).ne']
  exact min_eq_left hd

theorem hmacWith_length (alg : Nat) (inner outer msg : List Byte) :
    (hmacWith alg inner outer msg).length = digestLen alg := shaFinish_length alg outer _ _

theorem hmacStates_length (alg : Nat) (key : List Byte) :
    (hmacStates alg key).1.length = (if alg = 0 then 32 else 64) ∧ (hmacStates alg key).2.length = (if alg = 0 then 32 else 64) :=
  ⟨compressBytes_length alg _ _, compressBytes_length alg _ _⟩

end Sys2Proof.Machine
end

