-- ==== Sys2Proof/Laws/State.lean ====
section
/-! SUPPORT. What each update of one part of the state leaves in every field of the state, and reading back an element of a
fixed array. -/

namespace Sys2Proof.Machine

/-! ### Fixed arrays -/

@[simp] theorem vget_vset_same {α : Type} {n : Nat} (v : Vector α n) (i : Fin n) (x : α) : (vset v i x).get i = x := by
  show (v.set i.val x i.isLt)[i.val] = x
  simp

@[simp] theorem vget_vset_ne {α : Type} {n : Nat} (v : Vector α n) (i j : Fin n) (x : α) (h : i ≠ j) :
    (vset v i x).get j = v.get j := by
  have h' : i.val ≠ j.val := fun e => h (Fin.ext e)
  show (v.set i.val x i.isLt)[j.val] = v[j.val]
  simp [h']

theorem vget_vset {α : Type} {n : Nat} (v : Vector α n) (i j : Fin n) (x : α) :
    (vset v i x).get j = if i = j then x else v.get j := by
  by_cases h : i = j
  · subst h; simp
  · simp [h]

@[simp] theorem vget_vmod_same {α : Type} {n : Nat} (v : Vector α n) (i : Fin n) (f : α → α) :
    (vmod v i f).get i = f (v.get i) := by simp [vmod]

@[simp] theorem vget_vmod_ne {α : Type} {n : Nat} (v : Vector α n) (i j : Fin n) (f : α → α) (h : i ≠ j) :
    (vmod v i f).get j = v.get j := by simp [vmod, h]

@[simp] theorem vset_vset {α : Type} {n : Nat} (v : Vector α n) (i : Fin n) (x y : α) :
    vset (vset v i x) i y = vset v i y := by
  apply Vector.ext; intro j hj; simp [vset]

/-! ### One field of the state after one update -/

@[simp] theorem modPower_power (f : Power → Power) (s : State) : (modPower f s).power = f s.power := rfl
@[simp] theorem modPower_supply (f : Power → Power) (s : State) : (modPower f s).supply = s.supply := rfl
@[simp] theorem modPower_tally (f : Power → Power) (s : State) : (modPower f s).tally = s.tally := rfl
@[simp] theorem modPower_threads (f : Power → Power) (s : State) : (modPower f s).threads = s.threads := rfl
@[simp] theorem modPower_capture (f : Power → Power) (s : State) : (modPower f s).capture = s.capture := rfl
@[simp] theorem modPower_floor (f : Power → Power) (s : State) : (modPower f s).floor = s.floor := rfl
@[simp] theorem modPower_yoke (f : Power → Power) (s : State) : (modPower f s).yoke = s.yoke := rfl
@[simp] theorem modPower_fabric (f : Power → Power) (s : State) : (modPower f s).fabric = s.fabric := rfl
@[simp] theorem modPower_pool (f : Power → Power) (s : State) : (modPower f s).pool = s.pool := rfl
@[simp] theorem modPower_sleeves (f : Power → Power) (s : State) : (modPower f s).sleeves = s.sleeves := rfl
@[simp] theorem modPower_slots (f : Power → Power) (s : State) : (modPower f s).slots = s.slots := rfl
@[simp] theorem modPower_digest (f : Power → Power) (s : State) : (modPower f s).digest = s.digest := rfl
@[simp] theorem modPower_lining (f : Power → Power) (s : State) : (modPower f s).lining = s.lining := rfl
@[simp] theorem modPower_ports (f : Power → Power) (s : State) : (modPower f s).ports = s.ports := rfl
@[simp] theorem modPower_log (f : Power → Power) (s : State) : (modPower f s).log = s.log := rfl
@[simp] theorem modPower_bist (f : Power → Power) (s : State) : (modPower f s).bist = s.bist := rfl
@[simp] theorem modPower_cmds (f : Power → Power) (s : State) : (modPower f s).cmds = s.cmds := rfl
@[simp] theorem modPower_nextCmd (f : Power → Power) (s : State) : (modPower f s).nextCmd = s.nextCmd := rfl
@[simp] theorem modPower_taken (f : Power → Power) (s : State) : (modPower f s).taken = s.taken := rfl
@[simp] theorem modPower_dropw (f : Power → Power) (s : State) : (modPower f s).dropw = s.dropw := rfl
@[simp] theorem modPower_freeUsed (f : Power → Power) (s : State) : (modPower f s).freeUsed = s.freeUsed := rfl
@[simp] theorem modPower_pending (f : Power → Power) (s : State) : (modPower f s).pending = s.pending := rfl
@[simp] theorem modSupply_power (f : Supply → Supply) (s : State) : (modSupply f s).power = s.power := rfl
@[simp] theorem modSupply_supply (f : Supply → Supply) (s : State) : (modSupply f s).supply = f s.supply := rfl
@[simp] theorem modSupply_tally (f : Supply → Supply) (s : State) : (modSupply f s).tally = s.tally := rfl
@[simp] theorem modSupply_threads (f : Supply → Supply) (s : State) : (modSupply f s).threads = s.threads := rfl
@[simp] theorem modSupply_capture (f : Supply → Supply) (s : State) : (modSupply f s).capture = s.capture := rfl
@[simp] theorem modSupply_floor (f : Supply → Supply) (s : State) : (modSupply f s).floor = s.floor := rfl
@[simp] theorem modSupply_yoke (f : Supply → Supply) (s : State) : (modSupply f s).yoke = s.yoke := rfl
@[simp] theorem modSupply_fabric (f : Supply → Supply) (s : State) : (modSupply f s).fabric = s.fabric := rfl
@[simp] theorem modSupply_pool (f : Supply → Supply) (s : State) : (modSupply f s).pool = s.pool := rfl
@[simp] theorem modSupply_sleeves (f : Supply → Supply) (s : State) : (modSupply f s).sleeves = s.sleeves := rfl
@[simp] theorem modSupply_slots (f : Supply → Supply) (s : State) : (modSupply f s).slots = s.slots := rfl
@[simp] theorem modSupply_digest (f : Supply → Supply) (s : State) : (modSupply f s).digest = s.digest := rfl
@[simp] theorem modSupply_lining (f : Supply → Supply) (s : State) : (modSupply f s).lining = s.lining := rfl
@[simp] theorem modSupply_ports (f : Supply → Supply) (s : State) : (modSupply f s).ports = s.ports := rfl
@[simp] theorem modSupply_log (f : Supply → Supply) (s : State) : (modSupply f s).log = s.log := rfl
@[simp] theorem modSupply_bist (f : Supply → Supply) (s : State) : (modSupply f s).bist = s.bist := rfl
@[simp] theorem modSupply_cmds (f : Supply → Supply) (s : State) : (modSupply f s).cmds = s.cmds := rfl
@[simp] theorem modSupply_nextCmd (f : Supply → Supply) (s : State) : (modSupply f s).nextCmd = s.nextCmd := rfl
@[simp] theorem modSupply_taken (f : Supply → Supply) (s : State) : (modSupply f s).taken = s.taken := rfl
@[simp] theorem modSupply_dropw (f : Supply → Supply) (s : State) : (modSupply f s).dropw = s.dropw := rfl
@[simp] theorem modSupply_freeUsed (f : Supply → Supply) (s : State) : (modSupply f s).freeUsed = s.freeUsed := rfl
@[simp] theorem modSupply_pending (f : Supply → Supply) (s : State) : (modSupply f s).pending = s.pending := rfl
@[simp] theorem modTally_power (f : Tally → Tally) (s : State) : (modTally f s).power = s.power := rfl
@[simp] theorem modTally_supply (f : Tally → Tally) (s : State) : (modTally f s).supply = s.supply := rfl
@[simp] theorem modTally_tally (f : Tally → Tally) (s : State) : (modTally f s).tally = f s.tally := rfl
@[simp] theorem modTally_threads (f : Tally → Tally) (s : State) : (modTally f s).threads = s.threads := rfl
@[simp] theorem modTally_capture (f : Tally → Tally) (s : State) : (modTally f s).capture = s.capture := rfl
@[simp] theorem modTally_floor (f : Tally → Tally) (s : State) : (modTally f s).floor = s.floor := rfl
@[simp] theorem modTally_yoke (f : Tally → Tally) (s : State) : (modTally f s).yoke = s.yoke := rfl
@[simp] theorem modTally_fabric (f : Tally → Tally) (s : State) : (modTally f s).fabric = s.fabric := rfl
@[simp] theorem modTally_pool (f : Tally → Tally) (s : State) : (modTally f s).pool = s.pool := rfl
@[simp] theorem modTally_sleeves (f : Tally → Tally) (s : State) : (modTally f s).sleeves = s.sleeves := rfl
@[simp] theorem modTally_slots (f : Tally → Tally) (s : State) : (modTally f s).slots = s.slots := rfl
@[simp] theorem modTally_digest (f : Tally → Tally) (s : State) : (modTally f s).digest = s.digest := rfl
@[simp] theorem modTally_lining (f : Tally → Tally) (s : State) : (modTally f s).lining = s.lining := rfl
@[simp] theorem modTally_ports (f : Tally → Tally) (s : State) : (modTally f s).ports = s.ports := rfl
@[simp] theorem modTally_log (f : Tally → Tally) (s : State) : (modTally f s).log = s.log := rfl
@[simp] theorem modTally_bist (f : Tally → Tally) (s : State) : (modTally f s).bist = s.bist := rfl
@[simp] theorem modTally_cmds (f : Tally → Tally) (s : State) : (modTally f s).cmds = s.cmds := rfl
@[simp] theorem modTally_nextCmd (f : Tally → Tally) (s : State) : (modTally f s).nextCmd = s.nextCmd := rfl
@[simp] theorem modTally_taken (f : Tally → Tally) (s : State) : (modTally f s).taken = s.taken := rfl
@[simp] theorem modTally_dropw (f : Tally → Tally) (s : State) : (modTally f s).dropw = s.dropw := rfl
@[simp] theorem modTally_freeUsed (f : Tally → Tally) (s : State) : (modTally f s).freeUsed = s.freeUsed := rfl
@[simp] theorem modTally_pending (f : Tally → Tally) (s : State) : (modTally f s).pending = s.pending := rfl
@[simp] theorem modFloor_power (f : Floor → Floor) (s : State) : (modFloor f s).power = s.power := rfl
@[simp] theorem modFloor_supply (f : Floor → Floor) (s : State) : (modFloor f s).supply = s.supply := rfl
@[simp] theorem modFloor_tally (f : Floor → Floor) (s : State) : (modFloor f s).tally = s.tally := rfl
@[simp] theorem modFloor_threads (f : Floor → Floor) (s : State) : (modFloor f s).threads = s.threads := rfl
@[simp] theorem modFloor_capture (f : Floor → Floor) (s : State) : (modFloor f s).capture = s.capture := rfl
@[simp] theorem modFloor_floor (f : Floor → Floor) (s : State) : (modFloor f s).floor = f s.floor := rfl
@[simp] theorem modFloor_yoke (f : Floor → Floor) (s : State) : (modFloor f s).yoke = s.yoke := rfl
@[simp] theorem modFloor_fabric (f : Floor → Floor) (s : State) : (modFloor f s).fabric = s.fabric := rfl
@[simp] theorem modFloor_pool (f : Floor → Floor) (s : State) : (modFloor f s).pool = s.pool := rfl
@[simp] theorem modFloor_sleeves (f : Floor → Floor) (s : State) : (modFloor f s).sleeves = s.sleeves := rfl
@[simp] theorem modFloor_slots (f : Floor → Floor) (s : State) : (modFloor f s).slots = s.slots := rfl
@[simp] theorem modFloor_digest (f : Floor → Floor) (s : State) : (modFloor f s).digest = s.digest := rfl
@[simp] theorem modFloor_lining (f : Floor → Floor) (s : State) : (modFloor f s).lining = s.lining := rfl
@[simp] theorem modFloor_ports (f : Floor → Floor) (s : State) : (modFloor f s).ports = s.ports := rfl
@[simp] theorem modFloor_log (f : Floor → Floor) (s : State) : (modFloor f s).log = s.log := rfl
@[simp] theorem modFloor_bist (f : Floor → Floor) (s : State) : (modFloor f s).bist = s.bist := rfl
@[simp] theorem modFloor_cmds (f : Floor → Floor) (s : State) : (modFloor f s).cmds = s.cmds := rfl
@[simp] theorem modFloor_nextCmd (f : Floor → Floor) (s : State) : (modFloor f s).nextCmd = s.nextCmd := rfl
@[simp] theorem modFloor_taken (f : Floor → Floor) (s : State) : (modFloor f s).taken = s.taken := rfl
@[simp] theorem modFloor_dropw (f : Floor → Floor) (s : State) : (modFloor f s).dropw = s.dropw := rfl
@[simp] theorem modFloor_freeUsed (f : Floor → Floor) (s : State) : (modFloor f s).freeUsed = s.freeUsed := rfl
@[simp] theorem modFloor_pending (f : Floor → Floor) (s : State) : (modFloor f s).pending = s.pending := rfl
@[simp] theorem modYoke_power (f : Yoke → Yoke) (s : State) : (modYoke f s).power = s.power := rfl
@[simp] theorem modYoke_supply (f : Yoke → Yoke) (s : State) : (modYoke f s).supply = s.supply := rfl
@[simp] theorem modYoke_tally (f : Yoke → Yoke) (s : State) : (modYoke f s).tally = s.tally := rfl
@[simp] theorem modYoke_threads (f : Yoke → Yoke) (s : State) : (modYoke f s).threads = s.threads := rfl
@[simp] theorem modYoke_capture (f : Yoke → Yoke) (s : State) : (modYoke f s).capture = s.capture := rfl
@[simp] theorem modYoke_floor (f : Yoke → Yoke) (s : State) : (modYoke f s).floor = s.floor := rfl
@[simp] theorem modYoke_yoke (f : Yoke → Yoke) (s : State) : (modYoke f s).yoke = f s.yoke := rfl
@[simp] theorem modYoke_fabric (f : Yoke → Yoke) (s : State) : (modYoke f s).fabric = s.fabric := rfl
@[simp] theorem modYoke_pool (f : Yoke → Yoke) (s : State) : (modYoke f s).pool = s.pool := rfl
@[simp] theorem modYoke_sleeves (f : Yoke → Yoke) (s : State) : (modYoke f s).sleeves = s.sleeves := rfl
@[simp] theorem modYoke_slots (f : Yoke → Yoke) (s : State) : (modYoke f s).slots = s.slots := rfl
@[simp] theorem modYoke_digest (f : Yoke → Yoke) (s : State) : (modYoke f s).digest = s.digest := rfl
@[simp] theorem modYoke_lining (f : Yoke → Yoke) (s : State) : (modYoke f s).lining = s.lining := rfl
@[simp] theorem modYoke_ports (f : Yoke → Yoke) (s : State) : (modYoke f s).ports = s.ports := rfl
@[simp] theorem modYoke_log (f : Yoke → Yoke) (s : State) : (modYoke f s).log = s.log := rfl
@[simp] theorem modYoke_bist (f : Yoke → Yoke) (s : State) : (modYoke f s).bist = s.bist := rfl
@[simp] theorem modYoke_cmds (f : Yoke → Yoke) (s : State) : (modYoke f s).cmds = s.cmds := rfl
@[simp] theorem modYoke_nextCmd (f : Yoke → Yoke) (s : State) : (modYoke f s).nextCmd = s.nextCmd := rfl
@[simp] theorem modYoke_taken (f : Yoke → Yoke) (s : State) : (modYoke f s).taken = s.taken := rfl
@[simp] theorem modYoke_dropw (f : Yoke → Yoke) (s : State) : (modYoke f s).dropw = s.dropw := rfl
@[simp] theorem modYoke_freeUsed (f : Yoke → Yoke) (s : State) : (modYoke f s).freeUsed = s.freeUsed := rfl
@[simp] theorem modYoke_pending (f : Yoke → Yoke) (s : State) : (modYoke f s).pending = s.pending := rfl
@[simp] theorem modFabric_power (f : Fabric → Fabric) (s : State) : (modFabric f s).power = s.power := rfl
@[simp] theorem modFabric_supply (f : Fabric → Fabric) (s : State) : (modFabric f s).supply = s.supply := rfl
@[simp] theorem modFabric_tally (f : Fabric → Fabric) (s : State) : (modFabric f s).tally = s.tally := rfl
@[simp] theorem modFabric_threads (f : Fabric → Fabric) (s : State) : (modFabric f s).threads = s.threads := rfl
@[simp] theorem modFabric_capture (f : Fabric → Fabric) (s : State) : (modFabric f s).capture = s.capture := rfl
@[simp] theorem modFabric_floor (f : Fabric → Fabric) (s : State) : (modFabric f s).floor = s.floor := rfl
@[simp] theorem modFabric_yoke (f : Fabric → Fabric) (s : State) : (modFabric f s).yoke = s.yoke := rfl
@[simp] theorem modFabric_fabric (f : Fabric → Fabric) (s : State) : (modFabric f s).fabric = f s.fabric := rfl
@[simp] theorem modFabric_pool (f : Fabric → Fabric) (s : State) : (modFabric f s).pool = s.pool := rfl
@[simp] theorem modFabric_sleeves (f : Fabric → Fabric) (s : State) : (modFabric f s).sleeves = s.sleeves := rfl
@[simp] theorem modFabric_slots (f : Fabric → Fabric) (s : State) : (modFabric f s).slots = s.slots := rfl
@[simp] theorem modFabric_digest (f : Fabric → Fabric) (s : State) : (modFabric f s).digest = s.digest := rfl
@[simp] theorem modFabric_lining (f : Fabric → Fabric) (s : State) : (modFabric f s).lining = s.lining := rfl
@[simp] theorem modFabric_ports (f : Fabric → Fabric) (s : State) : (modFabric f s).ports = s.ports := rfl
@[simp] theorem modFabric_log (f : Fabric → Fabric) (s : State) : (modFabric f s).log = s.log := rfl
@[simp] theorem modFabric_bist (f : Fabric → Fabric) (s : State) : (modFabric f s).bist = s.bist := rfl
@[simp] theorem modFabric_cmds (f : Fabric → Fabric) (s : State) : (modFabric f s).cmds = s.cmds := rfl
@[simp] theorem modFabric_nextCmd (f : Fabric → Fabric) (s : State) : (modFabric f s).nextCmd = s.nextCmd := rfl
@[simp] theorem modFabric_taken (f : Fabric → Fabric) (s : State) : (modFabric f s).taken = s.taken := rfl
@[simp] theorem modFabric_dropw (f : Fabric → Fabric) (s : State) : (modFabric f s).dropw = s.dropw := rfl
@[simp] theorem modFabric_freeUsed (f : Fabric → Fabric) (s : State) : (modFabric f s).freeUsed = s.freeUsed := rfl
@[simp] theorem modFabric_pending (f : Fabric → Fabric) (s : State) : (modFabric f s).pending = s.pending := rfl
@[simp] theorem modPool_power (f : Pool → Pool) (s : State) : (modPool f s).power = s.power := rfl
@[simp] theorem modPool_supply (f : Pool → Pool) (s : State) : (modPool f s).supply = s.supply := rfl
@[simp] theorem modPool_tally (f : Pool → Pool) (s : State) : (modPool f s).tally = s.tally := rfl
@[simp] theorem modPool_threads (f : Pool → Pool) (s : State) : (modPool f s).threads = s.threads := rfl
@[simp] theorem modPool_capture (f : Pool → Pool) (s : State) : (modPool f s).capture = s.capture := rfl
@[simp] theorem modPool_floor (f : Pool → Pool) (s : State) : (modPool f s).floor = s.floor := rfl
@[simp] theorem modPool_yoke (f : Pool → Pool) (s : State) : (modPool f s).yoke = s.yoke := rfl
@[simp] theorem modPool_fabric (f : Pool → Pool) (s : State) : (modPool f s).fabric = s.fabric := rfl
@[simp] theorem modPool_pool (f : Pool → Pool) (s : State) : (modPool f s).pool = f s.pool := rfl
@[simp] theorem modPool_sleeves (f : Pool → Pool) (s : State) : (modPool f s).sleeves = s.sleeves := rfl
@[simp] theorem modPool_slots (f : Pool → Pool) (s : State) : (modPool f s).slots = s.slots := rfl
@[simp] theorem modPool_digest (f : Pool → Pool) (s : State) : (modPool f s).digest = s.digest := rfl
@[simp] theorem modPool_lining (f : Pool → Pool) (s : State) : (modPool f s).lining = s.lining := rfl
@[simp] theorem modPool_ports (f : Pool → Pool) (s : State) : (modPool f s).ports = s.ports := rfl
@[simp] theorem modPool_log (f : Pool → Pool) (s : State) : (modPool f s).log = s.log := rfl
@[simp] theorem modPool_bist (f : Pool → Pool) (s : State) : (modPool f s).bist = s.bist := rfl
@[simp] theorem modPool_cmds (f : Pool → Pool) (s : State) : (modPool f s).cmds = s.cmds := rfl
@[simp] theorem modPool_nextCmd (f : Pool → Pool) (s : State) : (modPool f s).nextCmd = s.nextCmd := rfl
@[simp] theorem modPool_taken (f : Pool → Pool) (s : State) : (modPool f s).taken = s.taken := rfl
@[simp] theorem modPool_dropw (f : Pool → Pool) (s : State) : (modPool f s).dropw = s.dropw := rfl
@[simp] theorem modPool_freeUsed (f : Pool → Pool) (s : State) : (modPool f s).freeUsed = s.freeUsed := rfl
@[simp] theorem modPool_pending (f : Pool → Pool) (s : State) : (modPool f s).pending = s.pending := rfl
@[simp] theorem modDigest_power (f : Digest → Digest) (s : State) : (modDigest f s).power = s.power := rfl
@[simp] theorem modDigest_supply (f : Digest → Digest) (s : State) : (modDigest f s).supply = s.supply := rfl
@[simp] theorem modDigest_tally (f : Digest → Digest) (s : State) : (modDigest f s).tally = s.tally := rfl
@[simp] theorem modDigest_threads (f : Digest → Digest) (s : State) : (modDigest f s).threads = s.threads := rfl
@[simp] theorem modDigest_capture (f : Digest → Digest) (s : State) : (modDigest f s).capture = s.capture := rfl
@[simp] theorem modDigest_floor (f : Digest → Digest) (s : State) : (modDigest f s).floor = s.floor := rfl
@[simp] theorem modDigest_yoke (f : Digest → Digest) (s : State) : (modDigest f s).yoke = s.yoke := rfl
@[simp] theorem modDigest_fabric (f : Digest → Digest) (s : State) : (modDigest f s).fabric = s.fabric := rfl
@[simp] theorem modDigest_pool (f : Digest → Digest) (s : State) : (modDigest f s).pool = s.pool := rfl
@[simp] theorem modDigest_sleeves (f : Digest → Digest) (s : State) : (modDigest f s).sleeves = s.sleeves := rfl
@[simp] theorem modDigest_slots (f : Digest → Digest) (s : State) : (modDigest f s).slots = s.slots := rfl
@[simp] theorem modDigest_digest (f : Digest → Digest) (s : State) : (modDigest f s).digest = f s.digest := rfl
@[simp] theorem modDigest_lining (f : Digest → Digest) (s : State) : (modDigest f s).lining = s.lining := rfl
@[simp] theorem modDigest_ports (f : Digest → Digest) (s : State) : (modDigest f s).ports = s.ports := rfl
@[simp] theorem modDigest_log (f : Digest → Digest) (s : State) : (modDigest f s).log = s.log := rfl
@[simp] theorem modDigest_bist (f : Digest → Digest) (s : State) : (modDigest f s).bist = s.bist := rfl
@[simp] theorem modDigest_cmds (f : Digest → Digest) (s : State) : (modDigest f s).cmds = s.cmds := rfl
@[simp] theorem modDigest_nextCmd (f : Digest → Digest) (s : State) : (modDigest f s).nextCmd = s.nextCmd := rfl
@[simp] theorem modDigest_taken (f : Digest → Digest) (s : State) : (modDigest f s).taken = s.taken := rfl
@[simp] theorem modDigest_dropw (f : Digest → Digest) (s : State) : (modDigest f s).dropw = s.dropw := rfl
@[simp] theorem modDigest_freeUsed (f : Digest → Digest) (s : State) : (modDigest f s).freeUsed = s.freeUsed := rfl
@[simp] theorem modDigest_pending (f : Digest → Digest) (s : State) : (modDigest f s).pending = s.pending := rfl
@[simp] theorem modLining_power (f : Lining → Lining) (s : State) : (modLining f s).power = s.power := rfl
@[simp] theorem modLining_supply (f : Lining → Lining) (s : State) : (modLining f s).supply = s.supply := rfl
@[simp] theorem modLining_tally (f : Lining → Lining) (s : State) : (modLining f s).tally = s.tally := rfl
@[simp] theorem modLining_threads (f : Lining → Lining) (s : State) : (modLining f s).threads = s.threads := rfl
@[simp] theorem modLining_capture (f : Lining → Lining) (s : State) : (modLining f s).capture = s.capture := rfl
@[simp] theorem modLining_floor (f : Lining → Lining) (s : State) : (modLining f s).floor = s.floor := rfl
@[simp] theorem modLining_yoke (f : Lining → Lining) (s : State) : (modLining f s).yoke = s.yoke := rfl
@[simp] theorem modLining_fabric (f : Lining → Lining) (s : State) : (modLining f s).fabric = s.fabric := rfl
@[simp] theorem modLining_pool (f : Lining → Lining) (s : State) : (modLining f s).pool = s.pool := rfl
@[simp] theorem modLining_sleeves (f : Lining → Lining) (s : State) : (modLining f s).sleeves = s.sleeves := rfl
@[simp] theorem modLining_slots (f : Lining → Lining) (s : State) : (modLining f s).slots = s.slots := rfl
@[simp] theorem modLining_digest (f : Lining → Lining) (s : State) : (modLining f s).digest = s.digest := rfl
@[simp] theorem modLining_lining (f : Lining → Lining) (s : State) : (modLining f s).lining = f s.lining := rfl
@[simp] theorem modLining_ports (f : Lining → Lining) (s : State) : (modLining f s).ports = s.ports := rfl
@[simp] theorem modLining_log (f : Lining → Lining) (s : State) : (modLining f s).log = s.log := rfl
@[simp] theorem modLining_bist (f : Lining → Lining) (s : State) : (modLining f s).bist = s.bist := rfl
@[simp] theorem modLining_cmds (f : Lining → Lining) (s : State) : (modLining f s).cmds = s.cmds := rfl
@[simp] theorem modLining_nextCmd (f : Lining → Lining) (s : State) : (modLining f s).nextCmd = s.nextCmd := rfl
@[simp] theorem modLining_taken (f : Lining → Lining) (s : State) : (modLining f s).taken = s.taken := rfl
@[simp] theorem modLining_dropw (f : Lining → Lining) (s : State) : (modLining f s).dropw = s.dropw := rfl
@[simp] theorem modLining_freeUsed (f : Lining → Lining) (s : State) : (modLining f s).freeUsed = s.freeUsed := rfl
@[simp] theorem modLining_pending (f : Lining → Lining) (s : State) : (modLining f s).pending = s.pending := rfl
@[simp] theorem modPorts_power (f : Ports → Ports) (s : State) : (modPorts f s).power = s.power := rfl
@[simp] theorem modPorts_supply (f : Ports → Ports) (s : State) : (modPorts f s).supply = s.supply := rfl
@[simp] theorem modPorts_tally (f : Ports → Ports) (s : State) : (modPorts f s).tally = s.tally := rfl
@[simp] theorem modPorts_threads (f : Ports → Ports) (s : State) : (modPorts f s).threads = s.threads := rfl
@[simp] theorem modPorts_capture (f : Ports → Ports) (s : State) : (modPorts f s).capture = s.capture := rfl
@[simp] theorem modPorts_floor (f : Ports → Ports) (s : State) : (modPorts f s).floor = s.floor := rfl
@[simp] theorem modPorts_yoke (f : Ports → Ports) (s : State) : (modPorts f s).yoke = s.yoke := rfl
@[simp] theorem modPorts_fabric (f : Ports → Ports) (s : State) : (modPorts f s).fabric = s.fabric := rfl
@[simp] theorem modPorts_pool (f : Ports → Ports) (s : State) : (modPorts f s).pool = s.pool := rfl
@[simp] theorem modPorts_sleeves (f : Ports → Ports) (s : State) : (modPorts f s).sleeves = s.sleeves := rfl
@[simp] theorem modPorts_slots (f : Ports → Ports) (s : State) : (modPorts f s).slots = s.slots := rfl
@[simp] theorem modPorts_digest (f : Ports → Ports) (s : State) : (modPorts f s).digest = s.digest := rfl
@[simp] theorem modPorts_lining (f : Ports → Ports) (s : State) : (modPorts f s).lining = s.lining := rfl
@[simp] theorem modPorts_ports (f : Ports → Ports) (s : State) : (modPorts f s).ports = f s.ports := rfl
@[simp] theorem modPorts_log (f : Ports → Ports) (s : State) : (modPorts f s).log = s.log := rfl
@[simp] theorem modPorts_bist (f : Ports → Ports) (s : State) : (modPorts f s).bist = s.bist := rfl
@[simp] theorem modPorts_cmds (f : Ports → Ports) (s : State) : (modPorts f s).cmds = s.cmds := rfl
@[simp] theorem modPorts_nextCmd (f : Ports → Ports) (s : State) : (modPorts f s).nextCmd = s.nextCmd := rfl
@[simp] theorem modPorts_taken (f : Ports → Ports) (s : State) : (modPorts f s).taken = s.taken := rfl
@[simp] theorem modPorts_dropw (f : Ports → Ports) (s : State) : (modPorts f s).dropw = s.dropw := rfl
@[simp] theorem modPorts_freeUsed (f : Ports → Ports) (s : State) : (modPorts f s).freeUsed = s.freeUsed := rfl
@[simp] theorem modPorts_pending (f : Ports → Ports) (s : State) : (modPorts f s).pending = s.pending := rfl
@[simp] theorem modLog_power (f : Log → Log) (s : State) : (modLog f s).power = s.power := rfl
@[simp] theorem modLog_supply (f : Log → Log) (s : State) : (modLog f s).supply = s.supply := rfl
@[simp] theorem modLog_tally (f : Log → Log) (s : State) : (modLog f s).tally = s.tally := rfl
@[simp] theorem modLog_threads (f : Log → Log) (s : State) : (modLog f s).threads = s.threads := rfl
@[simp] theorem modLog_capture (f : Log → Log) (s : State) : (modLog f s).capture = s.capture := rfl
@[simp] theorem modLog_floor (f : Log → Log) (s : State) : (modLog f s).floor = s.floor := rfl
@[simp] theorem modLog_yoke (f : Log → Log) (s : State) : (modLog f s).yoke = s.yoke := rfl
@[simp] theorem modLog_fabric (f : Log → Log) (s : State) : (modLog f s).fabric = s.fabric := rfl
@[simp] theorem modLog_pool (f : Log → Log) (s : State) : (modLog f s).pool = s.pool := rfl
@[simp] theorem modLog_sleeves (f : Log → Log) (s : State) : (modLog f s).sleeves = s.sleeves := rfl
@[simp] theorem modLog_slots (f : Log → Log) (s : State) : (modLog f s).slots = s.slots := rfl
@[simp] theorem modLog_digest (f : Log → Log) (s : State) : (modLog f s).digest = s.digest := rfl
@[simp] theorem modLog_lining (f : Log → Log) (s : State) : (modLog f s).lining = s.lining := rfl
@[simp] theorem modLog_ports (f : Log → Log) (s : State) : (modLog f s).ports = s.ports := rfl
@[simp] theorem modLog_log (f : Log → Log) (s : State) : (modLog f s).log = f s.log := rfl
@[simp] theorem modLog_bist (f : Log → Log) (s : State) : (modLog f s).bist = s.bist := rfl
@[simp] theorem modLog_cmds (f : Log → Log) (s : State) : (modLog f s).cmds = s.cmds := rfl
@[simp] theorem modLog_nextCmd (f : Log → Log) (s : State) : (modLog f s).nextCmd = s.nextCmd := rfl
@[simp] theorem modLog_taken (f : Log → Log) (s : State) : (modLog f s).taken = s.taken := rfl
@[simp] theorem modLog_dropw (f : Log → Log) (s : State) : (modLog f s).dropw = s.dropw := rfl
@[simp] theorem modLog_freeUsed (f : Log → Log) (s : State) : (modLog f s).freeUsed = s.freeUsed := rfl
@[simp] theorem modLog_pending (f : Log → Log) (s : State) : (modLog f s).pending = s.pending := rfl
@[simp] theorem modBist_power (f : Bist → Bist) (s : State) : (modBist f s).power = s.power := rfl
@[simp] theorem modBist_supply (f : Bist → Bist) (s : State) : (modBist f s).supply = s.supply := rfl
@[simp] theorem modBist_tally (f : Bist → Bist) (s : State) : (modBist f s).tally = s.tally := rfl
@[simp] theorem modBist_threads (f : Bist → Bist) (s : State) : (modBist f s).threads = s.threads := rfl
@[simp] theorem modBist_capture (f : Bist → Bist) (s : State) : (modBist f s).capture = s.capture := rfl
@[simp] theorem modBist_floor (f : Bist → Bist) (s : State) : (modBist f s).floor = s.floor := rfl
@[simp] theorem modBist_yoke (f : Bist → Bist) (s : State) : (modBist f s).yoke = s.yoke := rfl
@[simp] theorem modBist_fabric (f : Bist → Bist) (s : State) : (modBist f s).fabric = s.fabric := rfl
@[simp] theorem modBist_pool (f : Bist → Bist) (s : State) : (modBist f s).pool = s.pool := rfl
@[simp] theorem modBist_sleeves (f : Bist → Bist) (s : State) : (modBist f s).sleeves = s.sleeves := rfl
@[simp] theorem modBist_slots (f : Bist → Bist) (s : State) : (modBist f s).slots = s.slots := rfl
@[simp] theorem modBist_digest (f : Bist → Bist) (s : State) : (modBist f s).digest = s.digest := rfl
@[simp] theorem modBist_lining (f : Bist → Bist) (s : State) : (modBist f s).lining = s.lining := rfl
@[simp] theorem modBist_ports (f : Bist → Bist) (s : State) : (modBist f s).ports = s.ports := rfl
@[simp] theorem modBist_log (f : Bist → Bist) (s : State) : (modBist f s).log = s.log := rfl
@[simp] theorem modBist_bist (f : Bist → Bist) (s : State) : (modBist f s).bist = f s.bist := rfl
@[simp] theorem modBist_cmds (f : Bist → Bist) (s : State) : (modBist f s).cmds = s.cmds := rfl
@[simp] theorem modBist_nextCmd (f : Bist → Bist) (s : State) : (modBist f s).nextCmd = s.nextCmd := rfl
@[simp] theorem modBist_taken (f : Bist → Bist) (s : State) : (modBist f s).taken = s.taken := rfl
@[simp] theorem modBist_dropw (f : Bist → Bist) (s : State) : (modBist f s).dropw = s.dropw := rfl
@[simp] theorem modBist_freeUsed (f : Bist → Bist) (s : State) : (modBist f s).freeUsed = s.freeUsed := rfl
@[simp] theorem modBist_pending (f : Bist → Bist) (s : State) : (modBist f s).pending = s.pending := rfl
@[simp] theorem modCapture_power (f : Capture → Capture) (s : State) : (modCapture f s).power = s.power := rfl
@[simp] theorem modCapture_supply (f : Capture → Capture) (s : State) : (modCapture f s).supply = s.supply := rfl
@[simp] theorem modCapture_tally (f : Capture → Capture) (s : State) : (modCapture f s).tally = s.tally := rfl
@[simp] theorem modCapture_threads (f : Capture → Capture) (s : State) : (modCapture f s).threads = s.threads := rfl
@[simp] theorem modCapture_capture (f : Capture → Capture) (s : State) : (modCapture f s).capture = f s.capture := rfl
@[simp] theorem modCapture_floor (f : Capture → Capture) (s : State) : (modCapture f s).floor = s.floor := rfl
@[simp] theorem modCapture_yoke (f : Capture → Capture) (s : State) : (modCapture f s).yoke = s.yoke := rfl
@[simp] theorem modCapture_fabric (f : Capture → Capture) (s : State) : (modCapture f s).fabric = s.fabric := rfl
@[simp] theorem modCapture_pool (f : Capture → Capture) (s : State) : (modCapture f s).pool = s.pool := rfl
@[simp] theorem modCapture_sleeves (f : Capture → Capture) (s : State) : (modCapture f s).sleeves = s.sleeves := rfl
@[simp] theorem modCapture_slots (f : Capture → Capture) (s : State) : (modCapture f s).slots = s.slots := rfl
@[simp] theorem modCapture_digest (f : Capture → Capture) (s : State) : (modCapture f s).digest = s.digest := rfl
@[simp] theorem modCapture_lining (f : Capture → Capture) (s : State) : (modCapture f s).lining = s.lining := rfl
@[simp] theorem modCapture_ports (f : Capture → Capture) (s : State) : (modCapture f s).ports = s.ports := rfl
@[simp] theorem modCapture_log (f : Capture → Capture) (s : State) : (modCapture f s).log = s.log := rfl
@[simp] theorem modCapture_bist (f : Capture → Capture) (s : State) : (modCapture f s).bist = s.bist := rfl
@[simp] theorem modCapture_cmds (f : Capture → Capture) (s : State) : (modCapture f s).cmds = s.cmds := rfl
@[simp] theorem modCapture_nextCmd (f : Capture → Capture) (s : State) : (modCapture f s).nextCmd = s.nextCmd := rfl
@[simp] theorem modCapture_taken (f : Capture → Capture) (s : State) : (modCapture f s).taken = s.taken := rfl
@[simp] theorem modCapture_dropw (f : Capture → Capture) (s : State) : (modCapture f s).dropw = s.dropw := rfl
@[simp] theorem modCapture_freeUsed (f : Capture → Capture) (s : State) : (modCapture f s).freeUsed = s.freeUsed := rfl
@[simp] theorem modCapture_pending (f : Capture → Capture) (s : State) : (modCapture f s).pending = s.pending := rfl
@[simp] theorem modThread_power (t : Thread) (f : ThreadSt → ThreadSt) (s : State) : (modThread t f s).power = s.power := rfl
@[simp] theorem modThread_supply (t : Thread) (f : ThreadSt → ThreadSt) (s : State) : (modThread t f s).supply = s.supply := rfl
@[simp] theorem modThread_tally (t : Thread) (f : ThreadSt → ThreadSt) (s : State) : (modThread t f s).tally = s.tally := rfl
@[simp] theorem modThread_threads (t : Thread) (f : ThreadSt → ThreadSt) (s : State) : (modThread t f s).threads = vmod s.threads t f := rfl
@[simp] theorem modThread_capture (t : Thread) (f : ThreadSt → ThreadSt) (s : State) : (modThread t f s).capture = s.capture := rfl
@[simp] theorem modThread_floor (t : Thread) (f : ThreadSt → ThreadSt) (s : State) : (modThread t f s).floor = s.floor := rfl
@[simp] theorem modThread_yoke (t : Thread) (f : ThreadSt → ThreadSt) (s : State) : (modThread t f s).yoke = s.yoke := rfl
@[simp] theorem modThread_fabric (t : Thread) (f : ThreadSt → ThreadSt) (s : State) : (modThread t f s).fabric = s.fabric := rfl
@[simp] theorem modThread_pool (t : Thread) (f : ThreadSt → ThreadSt) (s : State) : (modThread t f s).pool = s.pool := rfl
@[simp] theorem modThread_sleeves (t : Thread) (f : ThreadSt → ThreadSt) (s : State) : (modThread t f s).sleeves = s.sleeves := rfl
@[simp] theorem modThread_slots (t : Thread) (f : ThreadSt → ThreadSt) (s : State) : (modThread t f s).slots = s.slots := rfl
@[simp] theorem modThread_digest (t : Thread) (f : ThreadSt → ThreadSt) (s : State) : (modThread t f s).digest = s.digest := rfl
@[simp] theorem modThread_lining (t : Thread) (f : ThreadSt → ThreadSt) (s : State) : (modThread t f s).lining = s.lining := rfl
@[simp] theorem modThread_ports (t : Thread) (f : ThreadSt → ThreadSt) (s : State) : (modThread t f s).ports = s.ports := rfl
@[simp] theorem modThread_log (t : Thread) (f : ThreadSt → ThreadSt) (s : State) : (modThread t f s).log = s.log := rfl
@[simp] theorem modThread_bist (t : Thread) (f : ThreadSt → ThreadSt) (s : State) : (modThread t f s).bist = s.bist := rfl
@[simp] theorem modThread_cmds (t : Thread) (f : ThreadSt → ThreadSt) (s : State) : (modThread t f s).cmds = s.cmds := rfl
@[simp] theorem modThread_nextCmd (t : Thread) (f : ThreadSt → ThreadSt) (s : State) : (modThread t f s).nextCmd = s.nextCmd := rfl
@[simp] theorem modThread_taken (t : Thread) (f : ThreadSt → ThreadSt) (s : State) : (modThread t f s).taken = s.taken := rfl
@[simp] theorem modThread_dropw (t : Thread) (f : ThreadSt → ThreadSt) (s : State) : (modThread t f s).dropw = s.dropw := rfl
@[simp] theorem modThread_freeUsed (t : Thread) (f : ThreadSt → ThreadSt) (s : State) : (modThread t f s).freeUsed = s.freeUsed := rfl
@[simp] theorem modThread_pending (t : Thread) (f : ThreadSt → ThreadSt) (s : State) : (modThread t f s).pending = s.pending := rfl
@[simp] theorem modSleeve_power (i : Sleeve) (f : SleeveSt → SleeveSt) (s : State) : (modSleeve i f s).power = s.power := rfl
@[simp] theorem modSleeve_supply (i : Sleeve) (f : SleeveSt → SleeveSt) (s : State) : (modSleeve i f s).supply = s.supply := rfl
@[simp] theorem modSleeve_tally (i : Sleeve) (f : SleeveSt → SleeveSt) (s : State) : (modSleeve i f s).tally = s.tally := rfl
@[simp] theorem modSleeve_threads (i : Sleeve) (f : SleeveSt → SleeveSt) (s : State) : (modSleeve i f s).threads = s.threads := rfl
@[simp] theorem modSleeve_capture (i : Sleeve) (f : SleeveSt → SleeveSt) (s : State) : (modSleeve i f s).capture = s.capture := rfl
@[simp] theorem modSleeve_floor (i : Sleeve) (f : SleeveSt → SleeveSt) (s : State) : (modSleeve i f s).floor = s.floor := rfl
@[simp] theorem modSleeve_yoke (i : Sleeve) (f : SleeveSt → SleeveSt) (s : State) : (modSleeve i f s).yoke = s.yoke := rfl
@[simp] theorem modSleeve_fabric (i : Sleeve) (f : SleeveSt → SleeveSt) (s : State) : (modSleeve i f s).fabric = s.fabric := rfl
@[simp] theorem modSleeve_pool (i : Sleeve) (f : SleeveSt → SleeveSt) (s : State) : (modSleeve i f s).pool = s.pool := rfl
@[simp] theorem modSleeve_sleeves (i : Sleeve) (f : SleeveSt → SleeveSt) (s : State) : (modSleeve i f s).sleeves = vmod s.sleeves i f := rfl
@[simp] theorem modSleeve_slots (i : Sleeve) (f : SleeveSt → SleeveSt) (s : State) : (modSleeve i f s).slots = s.slots := rfl
@[simp] theorem modSleeve_digest (i : Sleeve) (f : SleeveSt → SleeveSt) (s : State) : (modSleeve i f s).digest = s.digest := rfl
@[simp] theorem modSleeve_lining (i : Sleeve) (f : SleeveSt → SleeveSt) (s : State) : (modSleeve i f s).lining = s.lining := rfl
@[simp] theorem modSleeve_ports (i : Sleeve) (f : SleeveSt → SleeveSt) (s : State) : (modSleeve i f s).ports = s.ports := rfl
@[simp] theorem modSleeve_log (i : Sleeve) (f : SleeveSt → SleeveSt) (s : State) : (modSleeve i f s).log = s.log := rfl
@[simp] theorem modSleeve_bist (i : Sleeve) (f : SleeveSt → SleeveSt) (s : State) : (modSleeve i f s).bist = s.bist := rfl
@[simp] theorem modSleeve_cmds (i : Sleeve) (f : SleeveSt → SleeveSt) (s : State) : (modSleeve i f s).cmds = s.cmds := rfl
@[simp] theorem modSleeve_nextCmd (i : Sleeve) (f : SleeveSt → SleeveSt) (s : State) : (modSleeve i f s).nextCmd = s.nextCmd := rfl
@[simp] theorem modSleeve_taken (i : Sleeve) (f : SleeveSt → SleeveSt) (s : State) : (modSleeve i f s).taken = s.taken := rfl
@[simp] theorem modSleeve_dropw (i : Sleeve) (f : SleeveSt → SleeveSt) (s : State) : (modSleeve i f s).dropw = s.dropw := rfl
@[simp] theorem modSleeve_freeUsed (i : Sleeve) (f : SleeveSt → SleeveSt) (s : State) : (modSleeve i f s).freeUsed = s.freeUsed := rfl
@[simp] theorem modSleeve_pending (i : Sleeve) (f : SleeveSt → SleeveSt) (s : State) : (modSleeve i f s).pending = s.pending := rfl
@[simp] theorem modSlot_power (k : Fin 32) (f : Slot → Slot) (s : State) : (modSlot k f s).power = s.power := rfl
@[simp] theorem modSlot_supply (k : Fin 32) (f : Slot → Slot) (s : State) : (modSlot k f s).supply = s.supply := rfl
@[simp] theorem modSlot_tally (k : Fin 32) (f : Slot → Slot) (s : State) : (modSlot k f s).tally = s.tally := rfl
@[simp] theorem modSlot_threads (k : Fin 32) (f : Slot → Slot) (s : State) : (modSlot k f s).threads = s.threads := rfl
@[simp] theorem modSlot_capture (k : Fin 32) (f : Slot → Slot) (s : State) : (modSlot k f s).capture = s.capture := rfl
@[simp] theorem modSlot_floor (k : Fin 32) (f : Slot → Slot) (s : State) : (modSlot k f s).floor = s.floor := rfl
@[simp] theorem modSlot_yoke (k : Fin 32) (f : Slot → Slot) (s : State) : (modSlot k f s).yoke = s.yoke := rfl
@[simp] theorem modSlot_fabric (k : Fin 32) (f : Slot → Slot) (s : State) : (modSlot k f s).fabric = s.fabric := rfl
@[simp] theorem modSlot_pool (k : Fin 32) (f : Slot → Slot) (s : State) : (modSlot k f s).pool = s.pool := rfl
@[simp] theorem modSlot_sleeves (k : Fin 32) (f : Slot → Slot) (s : State) : (modSlot k f s).sleeves = s.sleeves := rfl
@[simp] theorem modSlot_slots (k : Fin 32) (f : Slot → Slot) (s : State) : (modSlot k f s).slots = vmod s.slots k f := rfl
@[simp] theorem modSlot_digest (k : Fin 32) (f : Slot → Slot) (s : State) : (modSlot k f s).digest = s.digest := rfl
@[simp] theorem modSlot_lining (k : Fin 32) (f : Slot → Slot) (s : State) : (modSlot k f s).lining = s.lining := rfl
@[simp] theorem modSlot_ports (k : Fin 32) (f : Slot → Slot) (s : State) : (modSlot k f s).ports = s.ports := rfl
@[simp] theorem modSlot_log (k : Fin 32) (f : Slot → Slot) (s : State) : (modSlot k f s).log = s.log := rfl
@[simp] theorem modSlot_bist (k : Fin 32) (f : Slot → Slot) (s : State) : (modSlot k f s).bist = s.bist := rfl
@[simp] theorem modSlot_cmds (k : Fin 32) (f : Slot → Slot) (s : State) : (modSlot k f s).cmds = s.cmds := rfl
@[simp] theorem modSlot_nextCmd (k : Fin 32) (f : Slot → Slot) (s : State) : (modSlot k f s).nextCmd = s.nextCmd := rfl
@[simp] theorem modSlot_taken (k : Fin 32) (f : Slot → Slot) (s : State) : (modSlot k f s).taken = s.taken := rfl
@[simp] theorem modSlot_dropw (k : Fin 32) (f : Slot → Slot) (s : State) : (modSlot k f s).dropw = s.dropw := rfl
@[simp] theorem modSlot_freeUsed (k : Fin 32) (f : Slot → Slot) (s : State) : (modSlot k f s).freeUsed = s.freeUsed := rfl
@[simp] theorem modSlot_pending (k : Fin 32) (f : Slot → Slot) (s : State) : (modSlot k f s).pending = s.pending := rfl
@[simp] theorem useFree_power (s : State) : (useFree s).power = s.power := rfl
@[simp] theorem useFree_supply (s : State) : (useFree s).supply = s.supply := rfl
@[simp] theorem useFree_tally (s : State) : (useFree s).tally = s.tally := rfl
@[simp] theorem useFree_threads (s : State) : (useFree s).threads = s.threads := rfl
@[simp] theorem useFree_capture (s : State) : (useFree s).capture = s.capture := rfl
@[simp] theorem useFree_floor (s : State) : (useFree s).floor = s.floor := rfl
@[simp] theorem useFree_yoke (s : State) : (useFree s).yoke = s.yoke := rfl
@[simp] theorem useFree_fabric (s : State) : (useFree s).fabric = s.fabric := rfl
@[simp] theorem useFree_pool (s : State) : (useFree s).pool = s.pool := rfl
@[simp] theorem useFree_sleeves (s : State) : (useFree s).sleeves = s.sleeves := rfl
@[simp] theorem useFree_slots (s : State) : (useFree s).slots = s.slots := rfl
@[simp] theorem useFree_digest (s : State) : (useFree s).digest = s.digest := rfl
@[simp] theorem useFree_lining (s : State) : (useFree s).lining = s.lining := rfl
@[simp] theorem useFree_ports (s : State) : (useFree s).ports = s.ports := rfl
@[simp] theorem useFree_log (s : State) : (useFree s).log = s.log := rfl
@[simp] theorem useFree_bist (s : State) : (useFree s).bist = s.bist := rfl
@[simp] theorem useFree_cmds (s : State) : (useFree s).cmds = s.cmds := rfl
@[simp] theorem useFree_nextCmd (s : State) : (useFree s).nextCmd = s.nextCmd := rfl
@[simp] theorem useFree_taken (s : State) : (useFree s).taken = s.taken := rfl
@[simp] theorem useFree_dropw (s : State) : (useFree s).dropw = s.dropw := rfl
@[simp] theorem useFree_freeUsed (s : State) : (useFree s).freeUsed = s.freeUsed + 1 := rfl
@[simp] theorem useFree_pending (s : State) : (useFree s).pending = s.pending := rfl
@[simp] theorem modXip_power (f : Xip → Xip) (s : State) : (modXip f s).power = s.power := rfl
@[simp] theorem modXip_supply (f : Xip → Xip) (s : State) : (modXip f s).supply = s.supply := rfl
@[simp] theorem modXip_tally (f : Xip → Xip) (s : State) : (modXip f s).tally = s.tally := rfl
@[simp] theorem modXip_threads (f : Xip → Xip) (s : State) : (modXip f s).threads = s.threads := rfl
@[simp] theorem modXip_capture (f : Xip → Xip) (s : State) : (modXip f s).capture = s.capture := rfl
@[simp] theorem modXip_floor (f : Xip → Xip) (s : State) : (modXip f s).floor = s.floor := rfl
@[simp] theorem modXip_yoke (f : Xip → Xip) (s : State) : (modXip f s).yoke = s.yoke := rfl
@[simp] theorem modXip_fabric (f : Xip → Xip) (s : State) : (modXip f s).fabric = s.fabric := rfl
@[simp] theorem modXip_pool (f : Xip → Xip) (s : State) : (modXip f s).pool = s.pool := rfl
@[simp] theorem modXip_sleeves (f : Xip → Xip) (s : State) : (modXip f s).sleeves = s.sleeves := rfl
@[simp] theorem modXip_slots (f : Xip → Xip) (s : State) : (modXip f s).slots = s.slots := rfl
@[simp] theorem modXip_digest (f : Xip → Xip) (s : State) : (modXip f s).digest = s.digest := rfl
@[simp] theorem modXip_lining (f : Xip → Xip) (s : State) : (modXip f s).lining = s.lining := rfl
@[simp] theorem modXip_ports (f : Xip → Xip) (s : State) : (modXip f s).ports = { s.ports with xip := f s.ports.xip } := rfl
@[simp] theorem modXip_log (f : Xip → Xip) (s : State) : (modXip f s).log = s.log := rfl
@[simp] theorem modXip_bist (f : Xip → Xip) (s : State) : (modXip f s).bist = s.bist := rfl
@[simp] theorem modXip_cmds (f : Xip → Xip) (s : State) : (modXip f s).cmds = s.cmds := rfl
@[simp] theorem modXip_nextCmd (f : Xip → Xip) (s : State) : (modXip f s).nextCmd = s.nextCmd := rfl
@[simp] theorem modXip_taken (f : Xip → Xip) (s : State) : (modXip f s).taken = s.taken := rfl
@[simp] theorem modXip_dropw (f : Xip → Xip) (s : State) : (modXip f s).dropw = s.dropw := rfl
@[simp] theorem modXip_freeUsed (f : Xip → Xip) (s : State) : (modXip f s).freeUsed = s.freeUsed := rfl
@[simp] theorem modXip_pending (f : Xip → Xip) (s : State) : (modXip f s).pending = s.pending := rfl
@[simp] theorem modStream_power (i : Sleeve) (k : Fin 4) (f : Stream → Stream) (s : State) :
    (modStream i k f s).power = s.power := rfl
@[simp] theorem modStream_supply (i : Sleeve) (k : Fin 4) (f : Stream → Stream) (s : State) :
    (modStream i k f s).supply = s.supply := rfl
@[simp] theorem modStream_tally (i : Sleeve) (k : Fin 4) (f : Stream → Stream) (s : State) :
    (modStream i k f s).tally = s.tally := rfl
@[simp] theorem modStream_threads (i : Sleeve) (k : Fin 4) (f : Stream → Stream) (s : State) :
    (modStream i k f s).threads = s.threads := rfl
@[simp] theorem modStream_capture (i : Sleeve) (k : Fin 4) (f : Stream → Stream) (s : State) :
    (modStream i k f s).capture = s.capture := rfl
@[simp] theorem modStream_floor (i : Sleeve) (k : Fin 4) (f : Stream → Stream) (s : State) :
    (modStream i k f s).floor = s.floor := rfl
@[simp] theorem modStream_yoke (i : Sleeve) (k : Fin 4) (f : Stream → Stream) (s : State) :
    (modStream i k f s).yoke = s.yoke := rfl
@[simp] theorem modStream_fabric (i : Sleeve) (k : Fin 4) (f : Stream → Stream) (s : State) :
    (modStream i k f s).fabric = s.fabric := rfl
@[simp] theorem modStream_pool (i : Sleeve) (k : Fin 4) (f : Stream → Stream) (s : State) :
    (modStream i k f s).pool = s.pool := rfl
@[simp] theorem modStream_sleeves (i : Sleeve) (k : Fin 4) (f : Stream → Stream) (s : State) :
    (modStream i k f s).sleeves = vmod s.sleeves i (fun x => { x with streams := vmod x.streams k f }) := rfl
@[simp] theorem modStream_slots (i : Sleeve) (k : Fin 4) (f : Stream → Stream) (s : State) :
    (modStream i k f s).slots = s.slots := rfl
@[simp] theorem modStream_digest (i : Sleeve) (k : Fin 4) (f : Stream → Stream) (s : State) :
    (modStream i k f s).digest = s.digest := rfl
@[simp] theorem modStream_lining (i : Sleeve) (k : Fin 4) (f : Stream → Stream) (s : State) :
    (modStream i k f s).lining = s.lining := rfl
@[simp] theorem modStream_ports (i : Sleeve) (k : Fin 4) (f : Stream → Stream) (s : State) :
    (modStream i k f s).ports = s.ports := rfl
@[simp] theorem modStream_log (i : Sleeve) (k : Fin 4) (f : Stream → Stream) (s : State) : (modStream i k f s).log = s.log := rfl
@[simp] theorem modStream_bist (i : Sleeve) (k : Fin 4) (f : Stream → Stream) (s : State) :
    (modStream i k f s).bist = s.bist := rfl
@[simp] theorem modStream_cmds (i : Sleeve) (k : Fin 4) (f : Stream → Stream) (s : State) :
    (modStream i k f s).cmds = s.cmds := rfl
@[simp] theorem modStream_nextCmd (i : Sleeve) (k : Fin 4) (f : Stream → Stream) (s : State) :
    (modStream i k f s).nextCmd = s.nextCmd := rfl
@[simp] theorem modStream_taken (i : Sleeve) (k : Fin 4) (f : Stream → Stream) (s : State) :
    (modStream i k f s).taken = s.taken := rfl
@[simp] theorem modStream_dropw (i : Sleeve) (k : Fin 4) (f : Stream → Stream) (s : State) :
    (modStream i k f s).dropw = s.dropw := rfl
@[simp] theorem modStream_freeUsed (i : Sleeve) (k : Fin 4) (f : Stream → Stream) (s : State) :
    (modStream i k f s).freeUsed = s.freeUsed := rfl
@[simp] theorem modStream_pending (i : Sleeve) (k : Fin 4) (f : Stream → Stream) (s : State) :
    (modStream i k f s).pending = s.pending := rfl
@[simp] theorem modPush_power (i : Sleeve) (k : Fin 4) (f : PushEntry → PushEntry) (s : State) :
    (modPush i k f s).power = s.power := rfl
@[simp] theorem modPush_supply (i : Sleeve) (k : Fin 4) (f : PushEntry → PushEntry) (s : State) :
    (modPush i k f s).supply = s.supply := rfl
@[simp] theorem modPush_tally (i : Sleeve) (k : Fin 4) (f : PushEntry → PushEntry) (s : State) :
    (modPush i k f s).tally = s.tally := rfl
@[simp] theorem modPush_threads (i : Sleeve) (k : Fin 4) (f : PushEntry → PushEntry) (s : State) :
    (modPush i k f s).threads = s.threads := rfl
@[simp] theorem modPush_capture (i : Sleeve) (k : Fin 4) (f : PushEntry → PushEntry) (s : State) :
    (modPush i k f s).capture = s.capture := rfl
@[simp] theorem modPush_floor (i : Sleeve) (k : Fin 4) (f : PushEntry → PushEntry) (s : State) :
    (modPush i k f s).floor = s.floor := rfl
@[simp] theorem modPush_yoke (i : Sleeve) (k : Fin 4) (f : PushEntry → PushEntry) (s : State) :
    (modPush i k f s).yoke = s.yoke := rfl
@[simp] theorem modPush_fabric (i : Sleeve) (k : Fin 4) (f : PushEntry → PushEntry) (s : State) :
    (modPush i k f s).fabric = s.fabric := rfl
@[simp] theorem modPush_pool (i : Sleeve) (k : Fin 4) (f : PushEntry → PushEntry) (s : State) :
    (modPush i k f s).pool = s.pool := rfl
@[simp] theorem modPush_sleeves (i : Sleeve) (k : Fin 4) (f : PushEntry → PushEntry) (s : State) :
    (modPush i k f s).sleeves = vmod s.sleeves i (fun x => { x with pushes := vmod x.pushes k f }) := rfl
@[simp] theorem modPush_slots (i : Sleeve) (k : Fin 4) (f : PushEntry → PushEntry) (s : State) :
    (modPush i k f s).slots = s.slots := rfl
@[simp] theorem modPush_digest (i : Sleeve) (k : Fin 4) (f : PushEntry → PushEntry) (s : State) :
    (modPush i k f s).digest = s.digest := rfl
@[simp] theorem modPush_lining (i : Sleeve) (k : Fin 4) (f : PushEntry → PushEntry) (s : State) :
    (modPush i k f s).lining = s.lining := rfl
@[simp] theorem modPush_ports (i : Sleeve) (k : Fin 4) (f : PushEntry → PushEntry) (s : State) :
    (modPush i k f s).ports = s.ports := rfl
@[simp] theorem modPush_log (i : Sleeve) (k : Fin 4) (f : PushEntry → PushEntry) (s : State) :
    (modPush i k f s).log = s.log := rfl
@[simp] theorem modPush_bist (i : Sleeve) (k : Fin 4) (f : PushEntry → PushEntry) (s : State) :
    (modPush i k f s).bist = s.bist := rfl
@[simp] theorem modPush_cmds (i : Sleeve) (k : Fin 4) (f : PushEntry → PushEntry) (s : State) :
    (modPush i k f s).cmds = s.cmds := rfl
@[simp] theorem modPush_nextCmd (i : Sleeve) (k : Fin 4) (f : PushEntry → PushEntry) (s : State) :
    (modPush i k f s).nextCmd = s.nextCmd := rfl
@[simp] theorem modPush_taken (i : Sleeve) (k : Fin 4) (f : PushEntry → PushEntry) (s : State) :
    (modPush i k f s).taken = s.taken := rfl
@[simp] theorem modPush_dropw (i : Sleeve) (k : Fin 4) (f : PushEntry → PushEntry) (s : State) :
    (modPush i k f s).dropw = s.dropw := rfl
@[simp] theorem modPush_freeUsed (i : Sleeve) (k : Fin 4) (f : PushEntry → PushEntry) (s : State) :
    (modPush i k f s).freeUsed = s.freeUsed := rfl
@[simp] theorem modPush_pending (i : Sleeve) (k : Fin 4) (f : PushEntry → PushEntry) (s : State) :
    (modPush i k f s).pending = s.pending := rfl
@[simp] theorem modInst_power (i : Sleeve) (k : Fin 4) (f : Inst → Inst) (s : State) : (modInst i k f s).power = s.power := rfl
@[simp] theorem modInst_supply (i : Sleeve) (k : Fin 4) (f : Inst → Inst) (s : State) : (modInst i k f s).supply = s.supply := rfl
@[simp] theorem modInst_tally (i : Sleeve) (k : Fin 4) (f : Inst → Inst) (s : State) : (modInst i k f s).tally = s.tally := rfl
@[simp] theorem modInst_threads (i : Sleeve) (k : Fin 4) (f : Inst → Inst) (s : State) :
    (modInst i k f s).threads = s.threads := rfl
@[simp] theorem modInst_capture (i : Sleeve) (k : Fin 4) (f : Inst → Inst) (s : State) :
    (modInst i k f s).capture = s.capture := rfl
@[simp] theorem modInst_floor (i : Sleeve) (k : Fin 4) (f : Inst → Inst) (s : State) : (modInst i k f s).floor = s.floor := rfl
@[simp] theorem modInst_yoke (i : Sleeve) (k : Fin 4) (f : Inst → Inst) (s : State) : (modInst i k f s).yoke = s.yoke := rfl
@[simp] theorem modInst_fabric (i : Sleeve) (k : Fin 4) (f : Inst → Inst) (s : State) :
    (modInst i k f s).fabric = { s.fabric with insts := vmod s.fabric.insts i (fun v => vmod v k f) } := rfl
@[simp] theorem modInst_pool (i : Sleeve) (k : Fin 4) (f : Inst → Inst) (s : State) : (modInst i k f s).pool = s.pool := rfl
@[simp] theorem modInst_sleeves (i : Sleeve) (k : Fin 4) (f : Inst → Inst) (s : State) :
    (modInst i k f s).sleeves = s.sleeves := rfl
@[simp] theorem modInst_slots (i : Sleeve) (k : Fin 4) (f : Inst → Inst) (s : State) : (modInst i k f s).slots = s.slots := rfl
@[simp] theorem modInst_digest (i : Sleeve) (k : Fin 4) (f : Inst → Inst) (s : State) : (modInst i k f s).digest = s.digest := rfl
@[simp] theorem modInst_lining (i : Sleeve) (k : Fin 4) (f : Inst → Inst) (s : State) : (modInst i k f s).lining = s.lining := rfl
@[simp] theorem modInst_ports (i : Sleeve) (k : Fin 4) (f : Inst → Inst) (s : State) : (modInst i k f s).ports = s.ports := rfl
@[simp] theorem modInst_log (i : Sleeve) (k : Fin 4) (f : Inst → Inst) (s : State) : (modInst i k f s).log = s.log := rfl
@[simp] theorem modInst_bist (i : Sleeve) (k : Fin 4) (f : Inst → Inst) (s : State) : (modInst i k f s).bist = s.bist := rfl
@[simp] theorem modInst_cmds (i : Sleeve) (k : Fin 4) (f : Inst → Inst) (s : State) : (modInst i k f s).cmds = s.cmds := rfl
@[simp] theorem modInst_nextCmd (i : Sleeve) (k : Fin 4) (f : Inst → Inst) (s : State) :
    (modInst i k f s).nextCmd = s.nextCmd := rfl
@[simp] theorem modInst_taken (i : Sleeve) (k : Fin 4) (f : Inst → Inst) (s : State) : (modInst i k f s).taken = s.taken := rfl
@[simp] theorem modInst_dropw (i : Sleeve) (k : Fin 4) (f : Inst → Inst) (s : State) : (modInst i k f s).dropw = s.dropw := rfl
@[simp] theorem modInst_freeUsed (i : Sleeve) (k : Fin 4) (f : Inst → Inst) (s : State) :
    (modInst i k f s).freeUsed = s.freeUsed := rfl
@[simp] theorem modInst_pending (i : Sleeve) (k : Fin 4) (f : Inst → Inst) (s : State) :
    (modInst i k f s).pending = s.pending := rfl
@[simp] theorem modCtx_power (i : Sleeve) (k : Fin 4) (f : Context → Context) (s : State) :
    (modCtx i k f s).power = s.power := rfl
@[simp] theorem modCtx_supply (i : Sleeve) (k : Fin 4) (f : Context → Context) (s : State) :
    (modCtx i k f s).supply = s.supply := rfl
@[simp] theorem modCtx_tally (i : Sleeve) (k : Fin 4) (f : Context → Context) (s : State) :
    (modCtx i k f s).tally = s.tally := rfl
@[simp] theorem modCtx_threads (i : Sleeve) (k : Fin 4) (f : Context → Context) (s : State) :
    (modCtx i k f s).threads = s.threads := rfl
@[simp] theorem modCtx_capture (i : Sleeve) (k : Fin 4) (f : Context → Context) (s : State) :
    (modCtx i k f s).capture = s.capture := rfl
@[simp] theorem modCtx_floor (i : Sleeve) (k : Fin 4) (f : Context → Context) (s : State) :
    (modCtx i k f s).floor = s.floor := rfl
@[simp] theorem modCtx_yoke (i : Sleeve) (k : Fin 4) (f : Context → Context) (s : State) : (modCtx i k f s).yoke = s.yoke := rfl
@[simp] theorem modCtx_fabric (i : Sleeve) (k : Fin 4) (f : Context → Context) (s : State) :
    (modCtx i k f s).fabric = s.fabric := rfl
@[simp] theorem modCtx_pool (i : Sleeve) (k : Fin 4) (f : Context → Context) (s : State) : (modCtx i k f s).pool = s.pool := rfl
@[simp] theorem modCtx_sleeves (i : Sleeve) (k : Fin 4) (f : Context → Context) (s : State) :
    (modCtx i k f s).sleeves = s.sleeves := rfl
@[simp] theorem modCtx_slots (i : Sleeve) (k : Fin 4) (f : Context → Context) (s : State) :
    (modCtx i k f s).slots = s.slots := rfl
@[simp] theorem modCtx_digest (i : Sleeve) (k : Fin 4) (f : Context → Context) (s : State) :
    (modCtx i k f s).digest = { s.digest with contexts := vmod s.digest.contexts i (fun v => vmod v k f) } := rfl
@[simp] theorem modCtx_lining (i : Sleeve) (k : Fin 4) (f : Context → Context) (s : State) :
    (modCtx i k f s).lining = s.lining := rfl
@[simp] theorem modCtx_ports (i : Sleeve) (k : Fin 4) (f : Context → Context) (s : State) :
    (modCtx i k f s).ports = s.ports := rfl
@[simp] theorem modCtx_log (i : Sleeve) (k : Fin 4) (f : Context → Context) (s : State) : (modCtx i k f s).log = s.log := rfl
@[simp] theorem modCtx_bist (i : Sleeve) (k : Fin 4) (f : Context → Context) (s : State) : (modCtx i k f s).bist = s.bist := rfl
@[simp] theorem modCtx_cmds (i : Sleeve) (k : Fin 4) (f : Context → Context) (s : State) : (modCtx i k f s).cmds = s.cmds := rfl
@[simp] theorem modCtx_nextCmd (i : Sleeve) (k : Fin 4) (f : Context → Context) (s : State) :
    (modCtx i k f s).nextCmd = s.nextCmd := rfl
@[simp] theorem modCtx_taken (i : Sleeve) (k : Fin 4) (f : Context → Context) (s : State) :
    (modCtx i k f s).taken = s.taken := rfl
@[simp] theorem modCtx_dropw (i : Sleeve) (k : Fin 4) (f : Context → Context) (s : State) :
    (modCtx i k f s).dropw = s.dropw := rfl
@[simp] theorem modCtx_freeUsed (i : Sleeve) (k : Fin 4) (f : Context → Context) (s : State) :
    (modCtx i k f s).freeUsed = s.freeUsed := rfl
@[simp] theorem modCtx_pending (i : Sleeve) (k : Fin 4) (f : Context → Context) (s : State) :
    (modCtx i k f s).pending = s.pending := rfl
@[simp] theorem modCore_power (k : Fin 4) (f : AesCore → AesCore) (s : State) : (modCore k f s).power = s.power := rfl
@[simp] theorem modCore_supply (k : Fin 4) (f : AesCore → AesCore) (s : State) : (modCore k f s).supply = s.supply := rfl
@[simp] theorem modCore_tally (k : Fin 4) (f : AesCore → AesCore) (s : State) : (modCore k f s).tally = s.tally := rfl
@[simp] theorem modCore_threads (k : Fin 4) (f : AesCore → AesCore) (s : State) : (modCore k f s).threads = s.threads := rfl
@[simp] theorem modCore_capture (k : Fin 4) (f : AesCore → AesCore) (s : State) : (modCore k f s).capture = s.capture := rfl
@[simp] theorem modCore_floor (k : Fin 4) (f : AesCore → AesCore) (s : State) : (modCore k f s).floor = s.floor := rfl
@[simp] theorem modCore_yoke (k : Fin 4) (f : AesCore → AesCore) (s : State) : (modCore k f s).yoke = s.yoke := rfl
@[simp] theorem modCore_fabric (k : Fin 4) (f : AesCore → AesCore) (s : State) :
    (modCore k f s).fabric = { s.fabric with cores := vmod s.fabric.cores k f } := rfl
@[simp] theorem modCore_pool (k : Fin 4) (f : AesCore → AesCore) (s : State) : (modCore k f s).pool = s.pool := rfl
@[simp] theorem modCore_sleeves (k : Fin 4) (f : AesCore → AesCore) (s : State) : (modCore k f s).sleeves = s.sleeves := rfl
@[simp] theorem modCore_slots (k : Fin 4) (f : AesCore → AesCore) (s : State) : (modCore k f s).slots = s.slots := rfl
@[simp] theorem modCore_digest (k : Fin 4) (f : AesCore → AesCore) (s : State) : (modCore k f s).digest = s.digest := rfl
@[simp] theorem modCore_lining (k : Fin 4) (f : AesCore → AesCore) (s : State) : (modCore k f s).lining = s.lining := rfl
@[simp] theorem modCore_ports (k : Fin 4) (f : AesCore → AesCore) (s : State) : (modCore k f s).ports = s.ports := rfl
@[simp] theorem modCore_log (k : Fin 4) (f : AesCore → AesCore) (s : State) : (modCore k f s).log = s.log := rfl
@[simp] theorem modCore_bist (k : Fin 4) (f : AesCore → AesCore) (s : State) : (modCore k f s).bist = s.bist := rfl
@[simp] theorem modCore_cmds (k : Fin 4) (f : AesCore → AesCore) (s : State) : (modCore k f s).cmds = s.cmds := rfl
@[simp] theorem modCore_nextCmd (k : Fin 4) (f : AesCore → AesCore) (s : State) : (modCore k f s).nextCmd = s.nextCmd := rfl
@[simp] theorem modCore_taken (k : Fin 4) (f : AesCore → AesCore) (s : State) : (modCore k f s).taken = s.taken := rfl
@[simp] theorem modCore_dropw (k : Fin 4) (f : AesCore → AesCore) (s : State) : (modCore k f s).dropw = s.dropw := rfl
@[simp] theorem modCore_freeUsed (k : Fin 4) (f : AesCore → AesCore) (s : State) : (modCore k f s).freeUsed = s.freeUsed := rfl
@[simp] theorem modCore_pending (k : Fin 4) (f : AesCore → AesCore) (s : State) : (modCore k f s).pending = s.pending := rfl
@[simp] theorem modSha_power (k : Fin 6) (f : Health → Health) (s : State) : (modSha k f s).power = s.power := rfl
@[simp] theorem modSha_supply (k : Fin 6) (f : Health → Health) (s : State) : (modSha k f s).supply = s.supply := rfl
@[simp] theorem modSha_tally (k : Fin 6) (f : Health → Health) (s : State) : (modSha k f s).tally = s.tally := rfl
@[simp] theorem modSha_threads (k : Fin 6) (f : Health → Health) (s : State) : (modSha k f s).threads = s.threads := rfl
@[simp] theorem modSha_capture (k : Fin 6) (f : Health → Health) (s : State) : (modSha k f s).capture = s.capture := rfl
@[simp] theorem modSha_floor (k : Fin 6) (f : Health → Health) (s : State) : (modSha k f s).floor = s.floor := rfl
@[simp] theorem modSha_yoke (k : Fin 6) (f : Health → Health) (s : State) : (modSha k f s).yoke = s.yoke := rfl
@[simp] theorem modSha_fabric (k : Fin 6) (f : Health → Health) (s : State) : (modSha k f s).fabric = s.fabric := rfl
@[simp] theorem modSha_pool (k : Fin 6) (f : Health → Health) (s : State) : (modSha k f s).pool = s.pool := rfl
@[simp] theorem modSha_sleeves (k : Fin 6) (f : Health → Health) (s : State) : (modSha k f s).sleeves = s.sleeves := rfl
@[simp] theorem modSha_slots (k : Fin 6) (f : Health → Health) (s : State) : (modSha k f s).slots = s.slots := rfl
@[simp] theorem modSha_digest (k : Fin 6) (f : Health → Health) (s : State) :
    (modSha k f s).digest = { s.digest with cores := vmod s.digest.cores k f } := rfl
@[simp] theorem modSha_lining (k : Fin 6) (f : Health → Health) (s : State) : (modSha k f s).lining = s.lining := rfl
@[simp] theorem modSha_ports (k : Fin 6) (f : Health → Health) (s : State) : (modSha k f s).ports = s.ports := rfl
@[simp] theorem modSha_log (k : Fin 6) (f : Health → Health) (s : State) : (modSha k f s).log = s.log := rfl
@[simp] theorem modSha_bist (k : Fin 6) (f : Health → Health) (s : State) : (modSha k f s).bist = s.bist := rfl
@[simp] theorem modSha_cmds (k : Fin 6) (f : Health → Health) (s : State) : (modSha k f s).cmds = s.cmds := rfl
@[simp] theorem modSha_nextCmd (k : Fin 6) (f : Health → Health) (s : State) : (modSha k f s).nextCmd = s.nextCmd := rfl
@[simp] theorem modSha_taken (k : Fin 6) (f : Health → Health) (s : State) : (modSha k f s).taken = s.taken := rfl
@[simp] theorem modSha_dropw (k : Fin 6) (f : Health → Health) (s : State) : (modSha k f s).dropw = s.dropw := rfl
@[simp] theorem modSha_freeUsed (k : Fin 6) (f : Health → Health) (s : State) : (modSha k f s).freeUsed = s.freeUsed := rfl
@[simp] theorem modSha_pending (k : Fin 6) (f : Health → Health) (s : State) : (modSha k f s).pending = s.pending := rfl
@[simp] theorem modCond_power (k : Fin 4) (f : CondCore → CondCore) (s : State) : (modCond k f s).power = s.power := rfl
@[simp] theorem modCond_supply (k : Fin 4) (f : CondCore → CondCore) (s : State) : (modCond k f s).supply = s.supply := rfl
@[simp] theorem modCond_tally (k : Fin 4) (f : CondCore → CondCore) (s : State) : (modCond k f s).tally = s.tally := rfl
@[simp] theorem modCond_threads (k : Fin 4) (f : CondCore → CondCore) (s : State) : (modCond k f s).threads = s.threads := rfl
@[simp] theorem modCond_capture (k : Fin 4) (f : CondCore → CondCore) (s : State) : (modCond k f s).capture = s.capture := rfl
@[simp] theorem modCond_floor (k : Fin 4) (f : CondCore → CondCore) (s : State) : (modCond k f s).floor = s.floor := rfl
@[simp] theorem modCond_yoke (k : Fin 4) (f : CondCore → CondCore) (s : State) :
    (modCond k f s).yoke = { s.yoke with cores := vmod s.yoke.cores k f } := rfl
@[simp] theorem modCond_fabric (k : Fin 4) (f : CondCore → CondCore) (s : State) : (modCond k f s).fabric = s.fabric := rfl
@[simp] theorem modCond_pool (k : Fin 4) (f : CondCore → CondCore) (s : State) : (modCond k f s).pool = s.pool := rfl
@[simp] theorem modCond_sleeves (k : Fin 4) (f : CondCore → CondCore) (s : State) : (modCond k f s).sleeves = s.sleeves := rfl
@[simp] theorem modCond_slots (k : Fin 4) (f : CondCore → CondCore) (s : State) : (modCond k f s).slots = s.slots := rfl
@[simp] theorem modCond_digest (k : Fin 4) (f : CondCore → CondCore) (s : State) : (modCond k f s).digest = s.digest := rfl
@[simp] theorem modCond_lining (k : Fin 4) (f : CondCore → CondCore) (s : State) : (modCond k f s).lining = s.lining := rfl
@[simp] theorem modCond_ports (k : Fin 4) (f : CondCore → CondCore) (s : State) : (modCond k f s).ports = s.ports := rfl
@[simp] theorem modCond_log (k : Fin 4) (f : CondCore → CondCore) (s : State) : (modCond k f s).log = s.log := rfl
@[simp] theorem modCond_bist (k : Fin 4) (f : CondCore → CondCore) (s : State) : (modCond k f s).bist = s.bist := rfl
@[simp] theorem modCond_cmds (k : Fin 4) (f : CondCore → CondCore) (s : State) : (modCond k f s).cmds = s.cmds := rfl
@[simp] theorem modCond_nextCmd (k : Fin 4) (f : CondCore → CondCore) (s : State) : (modCond k f s).nextCmd = s.nextCmd := rfl
@[simp] theorem modCond_taken (k : Fin 4) (f : CondCore → CondCore) (s : State) : (modCond k f s).taken = s.taken := rfl
@[simp] theorem modCond_dropw (k : Fin 4) (f : CondCore → CondCore) (s : State) : (modCond k f s).dropw = s.dropw := rfl
@[simp] theorem modCond_freeUsed (k : Fin 4) (f : CondCore → CondCore) (s : State) : (modCond k f s).freeUsed = s.freeUsed := rfl
@[simp] theorem modCond_pending (k : Fin 4) (f : CondCore → CondCore) (s : State) : (modCond k f s).pending = s.pending := rfl
@[simp] theorem modBank_power (b : Fin 16) (f : Bank → Bank) (s : State) : (modBank b f s).power = s.power := rfl
@[simp] theorem modBank_supply (b : Fin 16) (f : Bank → Bank) (s : State) : (modBank b f s).supply = s.supply := rfl
@[simp] theorem modBank_tally (b : Fin 16) (f : Bank → Bank) (s : State) : (modBank b f s).tally = s.tally := rfl
@[simp] theorem modBank_threads (b : Fin 16) (f : Bank → Bank) (s : State) : (modBank b f s).threads = s.threads := rfl
@[simp] theorem modBank_capture (b : Fin 16) (f : Bank → Bank) (s : State) : (modBank b f s).capture = s.capture := rfl
@[simp] theorem modBank_floor (b : Fin 16) (f : Bank → Bank) (s : State) : (modBank b f s).floor = s.floor := rfl
@[simp] theorem modBank_yoke (b : Fin 16) (f : Bank → Bank) (s : State) : (modBank b f s).yoke = s.yoke := rfl
@[simp] theorem modBank_fabric (b : Fin 16) (f : Bank → Bank) (s : State) : (modBank b f s).fabric = s.fabric := rfl
@[simp] theorem modBank_pool (b : Fin 16) (f : Bank → Bank) (s : State) :
    (modBank b f s).pool = { s.pool with banks := vmod s.pool.banks b f } := rfl
@[simp] theorem modBank_sleeves (b : Fin 16) (f : Bank → Bank) (s : State) : (modBank b f s).sleeves = s.sleeves := rfl
@[simp] theorem modBank_slots (b : Fin 16) (f : Bank → Bank) (s : State) : (modBank b f s).slots = s.slots := rfl
@[simp] theorem modBank_digest (b : Fin 16) (f : Bank → Bank) (s : State) : (modBank b f s).digest = s.digest := rfl
@[simp] theorem modBank_lining (b : Fin 16) (f : Bank → Bank) (s : State) : (modBank b f s).lining = s.lining := rfl
@[simp] theorem modBank_ports (b : Fin 16) (f : Bank → Bank) (s : State) : (modBank b f s).ports = s.ports := rfl
@[simp] theorem modBank_log (b : Fin 16) (f : Bank → Bank) (s : State) : (modBank b f s).log = s.log := rfl
@[simp] theorem modBank_bist (b : Fin 16) (f : Bank → Bank) (s : State) : (modBank b f s).bist = s.bist := rfl
@[simp] theorem modBank_cmds (b : Fin 16) (f : Bank → Bank) (s : State) : (modBank b f s).cmds = s.cmds := rfl
@[simp] theorem modBank_nextCmd (b : Fin 16) (f : Bank → Bank) (s : State) : (modBank b f s).nextCmd = s.nextCmd := rfl
@[simp] theorem modBank_taken (b : Fin 16) (f : Bank → Bank) (s : State) : (modBank b f s).taken = s.taken := rfl
@[simp] theorem modBank_dropw (b : Fin 16) (f : Bank → Bank) (s : State) : (modBank b f s).dropw = s.dropw := rfl
@[simp] theorem modBank_freeUsed (b : Fin 16) (f : Bank → Bank) (s : State) : (modBank b f s).freeUsed = s.freeUsed := rfl
@[simp] theorem modBank_pending (b : Fin 16) (f : Bank → Bank) (s : State) : (modBank b f s).pending = s.pending := rfl
@[simp] theorem modPS_power (i : Sleeve) (f : PoolSleeve → PoolSleeve) (s : State) : (modPS i f s).power = s.power := rfl
@[simp] theorem modPS_supply (i : Sleeve) (f : PoolSleeve → PoolSleeve) (s : State) : (modPS i f s).supply = s.supply := rfl
@[simp] theorem modPS_tally (i : Sleeve) (f : PoolSleeve → PoolSleeve) (s : State) : (modPS i f s).tally = s.tally := rfl
@[simp] theorem modPS_threads (i : Sleeve) (f : PoolSleeve → PoolSleeve) (s : State) : (modPS i f s).threads = s.threads := rfl
@[simp] theorem modPS_capture (i : Sleeve) (f : PoolSleeve → PoolSleeve) (s : State) : (modPS i f s).capture = s.capture := rfl
@[simp] theorem modPS_floor (i : Sleeve) (f : PoolSleeve → PoolSleeve) (s : State) : (modPS i f s).floor = s.floor := rfl
@[simp] theorem modPS_yoke (i : Sleeve) (f : PoolSleeve → PoolSleeve) (s : State) : (modPS i f s).yoke = s.yoke := rfl
@[simp] theorem modPS_fabric (i : Sleeve) (f : PoolSleeve → PoolSleeve) (s : State) : (modPS i f s).fabric = s.fabric := rfl
@[simp] theorem modPS_pool (i : Sleeve) (f : PoolSleeve → PoolSleeve) (s : State) :
    (modPS i f s).pool = { s.pool with per := vmod s.pool.per i f } := rfl
@[simp] theorem modPS_sleeves (i : Sleeve) (f : PoolSleeve → PoolSleeve) (s : State) : (modPS i f s).sleeves = s.sleeves := rfl
@[simp] theorem modPS_slots (i : Sleeve) (f : PoolSleeve → PoolSleeve) (s : State) : (modPS i f s).slots = s.slots := rfl
@[simp] theorem modPS_digest (i : Sleeve) (f : PoolSleeve → PoolSleeve) (s : State) : (modPS i f s).digest = s.digest := rfl
@[simp] theorem modPS_lining (i : Sleeve) (f : PoolSleeve → PoolSleeve) (s : State) : (modPS i f s).lining = s.lining := rfl
@[simp] theorem modPS_ports (i : Sleeve) (f : PoolSleeve → PoolSleeve) (s : State) : (modPS i f s).ports = s.ports := rfl
@[simp] theorem modPS_log (i : Sleeve) (f : PoolSleeve → PoolSleeve) (s : State) : (modPS i f s).log = s.log := rfl
@[simp] theorem modPS_bist (i : Sleeve) (f : PoolSleeve → PoolSleeve) (s : State) : (modPS i f s).bist = s.bist := rfl
@[simp] theorem modPS_cmds (i : Sleeve) (f : PoolSleeve → PoolSleeve) (s : State) : (modPS i f s).cmds = s.cmds := rfl
@[simp] theorem modPS_nextCmd (i : Sleeve) (f : PoolSleeve → PoolSleeve) (s : State) : (modPS i f s).nextCmd = s.nextCmd := rfl
@[simp] theorem modPS_taken (i : Sleeve) (f : PoolSleeve → PoolSleeve) (s : State) : (modPS i f s).taken = s.taken := rfl
@[simp] theorem modPS_dropw (i : Sleeve) (f : PoolSleeve → PoolSleeve) (s : State) : (modPS i f s).dropw = s.dropw := rfl
@[simp] theorem modPS_freeUsed (i : Sleeve) (f : PoolSleeve → PoolSleeve) (s : State) : (modPS i f s).freeUsed = s.freeUsed := rfl
@[simp] theorem modPS_pending (i : Sleeve) (f : PoolSleeve → PoolSleeve) (s : State) : (modPS i f s).pending = s.pending := rfl
@[simp] theorem modPort_power (p : Fin 3) (f : PortSt → PortSt) (s : State) : (modPort p f s).power = s.power := rfl
@[simp] theorem modPort_supply (p : Fin 3) (f : PortSt → PortSt) (s : State) : (modPort p f s).supply = s.supply := rfl
@[simp] theorem modPort_tally (p : Fin 3) (f : PortSt → PortSt) (s : State) : (modPort p f s).tally = s.tally := rfl
@[simp] theorem modPort_threads (p : Fin 3) (f : PortSt → PortSt) (s : State) : (modPort p f s).threads = s.threads := rfl
@[simp] theorem modPort_capture (p : Fin 3) (f : PortSt → PortSt) (s : State) : (modPort p f s).capture = s.capture := rfl
@[simp] theorem modPort_floor (p : Fin 3) (f : PortSt → PortSt) (s : State) : (modPort p f s).floor = s.floor := rfl
@[simp] theorem modPort_yoke (p : Fin 3) (f : PortSt → PortSt) (s : State) : (modPort p f s).yoke = s.yoke := rfl
@[simp] theorem modPort_fabric (p : Fin 3) (f : PortSt → PortSt) (s : State) : (modPort p f s).fabric = s.fabric := rfl
@[simp] theorem modPort_pool (p : Fin 3) (f : PortSt → PortSt) (s : State) : (modPort p f s).pool = s.pool := rfl
@[simp] theorem modPort_sleeves (p : Fin 3) (f : PortSt → PortSt) (s : State) : (modPort p f s).sleeves = s.sleeves := rfl
@[simp] theorem modPort_slots (p : Fin 3) (f : PortSt → PortSt) (s : State) : (modPort p f s).slots = s.slots := rfl
@[simp] theorem modPort_digest (p : Fin 3) (f : PortSt → PortSt) (s : State) : (modPort p f s).digest = s.digest := rfl
@[simp] theorem modPort_lining (p : Fin 3) (f : PortSt → PortSt) (s : State) : (modPort p f s).lining = s.lining := rfl
@[simp] theorem modPort_ports (p : Fin 3) (f : PortSt → PortSt) (s : State) :
    (modPort p f s).ports = { s.ports with ports := vmod s.ports.ports p f } := rfl
@[simp] theorem modPort_log (p : Fin 3) (f : PortSt → PortSt) (s : State) : (modPort p f s).log = s.log := rfl
@[simp] theorem modPort_bist (p : Fin 3) (f : PortSt → PortSt) (s : State) : (modPort p f s).bist = s.bist := rfl
@[simp] theorem modPort_cmds (p : Fin 3) (f : PortSt → PortSt) (s : State) : (modPort p f s).cmds = s.cmds := rfl
@[simp] theorem modPort_nextCmd (p : Fin 3) (f : PortSt → PortSt) (s : State) : (modPort p f s).nextCmd = s.nextCmd := rfl
@[simp] theorem modPort_taken (p : Fin 3) (f : PortSt → PortSt) (s : State) : (modPort p f s).taken = s.taken := rfl
@[simp] theorem modPort_dropw (p : Fin 3) (f : PortSt → PortSt) (s : State) : (modPort p f s).dropw = s.dropw := rfl
@[simp] theorem modPort_freeUsed (p : Fin 3) (f : PortSt → PortSt) (s : State) : (modPort p f s).freeUsed = s.freeUsed := rfl
@[simp] theorem modPort_pending (p : Fin 3) (f : PortSt → PortSt) (s : State) : (modPort p f s).pending = s.pending := rfl
@[simp] theorem modLane_power (k : Fin 20) (f : Lane → Lane) (s : State) : (modLane k f s).power = s.power := rfl
@[simp] theorem modLane_supply (k : Fin 20) (f : Lane → Lane) (s : State) : (modLane k f s).supply = s.supply := rfl
@[simp] theorem modLane_tally (k : Fin 20) (f : Lane → Lane) (s : State) : (modLane k f s).tally = s.tally := rfl
@[simp] theorem modLane_threads (k : Fin 20) (f : Lane → Lane) (s : State) : (modLane k f s).threads = s.threads := rfl
@[simp] theorem modLane_capture (k : Fin 20) (f : Lane → Lane) (s : State) : (modLane k f s).capture = s.capture := rfl
@[simp] theorem modLane_floor (k : Fin 20) (f : Lane → Lane) (s : State) : (modLane k f s).floor = s.floor := rfl
@[simp] theorem modLane_yoke (k : Fin 20) (f : Lane → Lane) (s : State) : (modLane k f s).yoke = s.yoke := rfl
@[simp] theorem modLane_fabric (k : Fin 20) (f : Lane → Lane) (s : State) : (modLane k f s).fabric = s.fabric := rfl
@[simp] theorem modLane_pool (k : Fin 20) (f : Lane → Lane) (s : State) : (modLane k f s).pool = s.pool := rfl
@[simp] theorem modLane_sleeves (k : Fin 20) (f : Lane → Lane) (s : State) : (modLane k f s).sleeves = s.sleeves := rfl
@[simp] theorem modLane_slots (k : Fin 20) (f : Lane → Lane) (s : State) : (modLane k f s).slots = s.slots := rfl
@[simp] theorem modLane_digest (k : Fin 20) (f : Lane → Lane) (s : State) : (modLane k f s).digest = s.digest := rfl
@[simp] theorem modLane_lining (k : Fin 20) (f : Lane → Lane) (s : State) : (modLane k f s).lining = s.lining := rfl
@[simp] theorem modLane_ports (k : Fin 20) (f : Lane → Lane) (s : State) :
    (modLane k f s).ports = { s.ports with lanes := vmod s.ports.lanes k f } := rfl
@[simp] theorem modLane_log (k : Fin 20) (f : Lane → Lane) (s : State) : (modLane k f s).log = s.log := rfl
@[simp] theorem modLane_bist (k : Fin 20) (f : Lane → Lane) (s : State) : (modLane k f s).bist = s.bist := rfl
@[simp] theorem modLane_cmds (k : Fin 20) (f : Lane → Lane) (s : State) : (modLane k f s).cmds = s.cmds := rfl
@[simp] theorem modLane_nextCmd (k : Fin 20) (f : Lane → Lane) (s : State) : (modLane k f s).nextCmd = s.nextCmd := rfl
@[simp] theorem modLane_taken (k : Fin 20) (f : Lane → Lane) (s : State) : (modLane k f s).taken = s.taken := rfl
@[simp] theorem modLane_dropw (k : Fin 20) (f : Lane → Lane) (s : State) : (modLane k f s).dropw = s.dropw := rfl
@[simp] theorem modLane_freeUsed (k : Fin 20) (f : Lane → Lane) (s : State) : (modLane k f s).freeUsed = s.freeUsed := rfl
@[simp] theorem modLane_pending (k : Fin 20) (f : Lane → Lane) (s : State) : (modLane k f s).pending = s.pending := rfl
@[simp] theorem modSel_power (i : Sel) (f : SelSt → SelSt) (s : State) : (modSel i f s).power = s.power := rfl
@[simp] theorem modSel_supply (i : Sel) (f : SelSt → SelSt) (s : State) : (modSel i f s).supply = s.supply := rfl
@[simp] theorem modSel_tally (i : Sel) (f : SelSt → SelSt) (s : State) : (modSel i f s).tally = s.tally := rfl
@[simp] theorem modSel_threads (i : Sel) (f : SelSt → SelSt) (s : State) : (modSel i f s).threads = s.threads := rfl
@[simp] theorem modSel_capture (i : Sel) (f : SelSt → SelSt) (s : State) : (modSel i f s).capture = s.capture := rfl
@[simp] theorem modSel_floor (i : Sel) (f : SelSt → SelSt) (s : State) : (modSel i f s).floor = s.floor := rfl
@[simp] theorem modSel_yoke (i : Sel) (f : SelSt → SelSt) (s : State) : (modSel i f s).yoke = s.yoke := rfl
@[simp] theorem modSel_fabric (i : Sel) (f : SelSt → SelSt) (s : State) : (modSel i f s).fabric = s.fabric := rfl
@[simp] theorem modSel_pool (i : Sel) (f : SelSt → SelSt) (s : State) : (modSel i f s).pool = s.pool := rfl
@[simp] theorem modSel_sleeves (i : Sel) (f : SelSt → SelSt) (s : State) : (modSel i f s).sleeves = s.sleeves := rfl
@[simp] theorem modSel_slots (i : Sel) (f : SelSt → SelSt) (s : State) : (modSel i f s).slots = s.slots := rfl
@[simp] theorem modSel_digest (i : Sel) (f : SelSt → SelSt) (s : State) : (modSel i f s).digest = s.digest := rfl
@[simp] theorem modSel_lining (i : Sel) (f : SelSt → SelSt) (s : State) : (modSel i f s).lining = s.lining := rfl
@[simp] theorem modSel_ports (i : Sel) (f : SelSt → SelSt) (s : State) :
    (modSel i f s).ports = { s.ports with sels := vmod s.ports.sels i f } := rfl
@[simp] theorem modSel_log (i : Sel) (f : SelSt → SelSt) (s : State) : (modSel i f s).log = s.log := rfl
@[simp] theorem modSel_bist (i : Sel) (f : SelSt → SelSt) (s : State) : (modSel i f s).bist = s.bist := rfl
@[simp] theorem modSel_cmds (i : Sel) (f : SelSt → SelSt) (s : State) : (modSel i f s).cmds = s.cmds := rfl
@[simp] theorem modSel_nextCmd (i : Sel) (f : SelSt → SelSt) (s : State) : (modSel i f s).nextCmd = s.nextCmd := rfl
@[simp] theorem modSel_taken (i : Sel) (f : SelSt → SelSt) (s : State) : (modSel i f s).taken = s.taken := rfl
@[simp] theorem modSel_dropw (i : Sel) (f : SelSt → SelSt) (s : State) : (modSel i f s).dropw = s.dropw := rfl
@[simp] theorem modSel_freeUsed (i : Sel) (f : SelSt → SelSt) (s : State) : (modSel i f s).freeUsed = s.freeUsed := rfl
@[simp] theorem modSel_pending (i : Sel) (f : SelSt → SelSt) (s : State) : (modSel i f s).pending = s.pending := rfl

/-! ### Elements read back -/

@[simp] theorem sleeve_modSleeve_same (i : Sleeve) (f : SleeveSt → SleeveSt) (s : State) :
    (modSleeve i f s).sleeve i = f (s.sleeve i) := by simp [State.sleeve]

@[simp] theorem sleeve_modSleeve_ne (i j : Sleeve) (f : SleeveSt → SleeveSt) (s : State) (h : i ≠ j) :
    (modSleeve i f s).sleeve j = s.sleeve j := by simp [State.sleeve, h]

@[simp] theorem thread_modThread_same (t : Thread) (f : ThreadSt → ThreadSt) (s : State) :
    (modThread t f s).thread t = f (s.thread t) := by simp [State.thread]

@[simp] theorem thread_modThread_ne (t u : Thread) (f : ThreadSt → ThreadSt) (s : State) (h : t ≠ u) :
    (modThread t f s).thread u = s.thread u := by simp [State.thread, h]

@[simp] theorem slot_modSlot_same (k : Fin 32) (f : Slot → Slot) (s : State) : (modSlot k f s).slot k = f (s.slot k) := by
  simp [State.slot]

@[simp] theorem slot_modSlot_ne (k j : Fin 32) (f : Slot → Slot) (s : State) (h : k ≠ j) :
    (modSlot k f s).slot j = s.slot j := by simp [State.slot, h]

@[simp] theorem inst_modInst_same (i : Sleeve) (k : Fin 4) (f : Inst → Inst) (s : State) :
    (modInst i k f s).inst i k = f (s.inst i k) := by simp [State.inst]

@[simp] theorem ctx_modCtx_same (i : Sleeve) (k : Fin 4) (f : Context → Context) (s : State) :
    (modCtx i k f s).ctx i k = f (s.ctx i k) := by simp [State.ctx]

@[simp] theorem sel_modSel_same (c : Sel) (f : SelSt → SelSt) (s : State) : (modSel c f s).sel c = f (s.sel c) := by
  simp [State.sel]

@[simp] theorem sel_modSel_ne (c d : Sel) (f : SelSt → SelSt) (s : State) (h : c ≠ d) : (modSel c f s).sel d = s.sel d := by
  simp [State.sel, h]

end Sys2Proof.Machine
end

