-- ==== Sys2Proof/Laws/Tailor.lean ====
section
/-! SUPPORT. What Tailor's intake does with a packet that passes every check of Table 10-3, and what an executed status does to
its command: each is said once, and the opcodes' statements cite it. -/

namespace Sys2Proof.Machine

/-- A packet that is no retransmit, with a number that R301 accepts, is accepted. -/
theorem acceptCmd_fresh (body : Cmd → State → State) (c : Cmd) (s : State)
    (h : (s.sleeve c.sl).cache.find? (fun e => e.tag == c.tag && e.seq == c.seq) = none)
    (h' : (s.sleeve c.sl).seqOk c.seq = true) :
    acceptCmd body c s = body c (modCmd c.id (fun k => { k with accepted := true })
      (modSleeve c.sl (fun x => x.accept c.id c.tag c.seq) s)) := by
  simp [acceptCmd, h, h']

/-- The MAC of a packet depends on the boot epoch, and on its sleeve's epoch and command key (R294). -/
theorem macOf_congr (s u : State) (i : Sleeve) (p : Packet) (h : u.lining.boot = s.lining.boot)
    (h1 : (u.sleeve i).epoch = (s.sleeve i).epoch) (h2 : (u.sleeve i).cmdKey = (s.sleeve i).cmdKey) :
    u.macOf i p = s.macOf i p := by
  simp [State.macOf, State.cmdKeyOf, h, h1, h2]

/-- Steps 1 to 7 look at nothing but the module's state, its service cores and the command key. -/
theorem intakeFail_congr (s u : State) (i : Sleeve) (p : Packet) (h : u.power = s.power) (h0 : u.lining = s.lining)
    (h1 : u.digest = s.digest) (h2 : (u.sleeve i).cmdKey = (s.sleeve i).cmdKey) :
    u.intakeFail i p = s.intakeFail i p := by
  simp only [State.intakeFail, State.cmdKeyOf, State.svcServes, h, h0, h1, h2]
  rfl

/-- Acceptance of the packet just taken: its opcode begins in `State.takenBy`. -/
theorem accept_taken (t : Take) (p : Packet) (body : Cmd → State → State) (s : State) (c : Cmd)
    (hf : (s.sleeve t.sl).cache.find? (fun e => e.tag == p.tag && e.seq == p.seq) = none)
    (hq : (s.sleeve t.sl).seqOk p.seq = true) (h0 : { c with sealed := p.sealed } = s.cmdOf t.sl p) :
    acceptCmd body (s.cmdOf t.sl p)
      (sealNewest p.sealed (modSleeve t.sl (fun x => { x with cmdq := x.cmdq.drop 1, removing := true })
      { noteTake t.sl s with cmds := c :: s.cmds, nextCmd := s.nextCmd + 1 })) =
      body (s.cmdOf t.sl p) (s.takenBy t.sl p) := by
  generalize hu : sealNewest p.sealed (modSleeve t.sl (fun x => { x with cmdq := x.cmdq.drop 1, removing := true })
      { noteTake t.sl s with cmds := c :: s.cmds, nextCmd := s.nextCmd + 1 }) = u
  have hs : u.sleeve t.sl = { s.sleeve t.sl with cmdq := (s.sleeve t.sl).cmdq.drop 1, removing := true } := by
    rw [← hu]; exact sleeve_modSleeve_same t.sl _ _
  rw [acceptCmd_fresh]
  · rw [← hu]; simp [State.takenBy, modSleeve, vmod, State.cmdOf, SleeveSt.accept, sealNewest]
    rw [h0]; rfl
  · show List.find? _ (u.sleeve t.sl).cache = none
    rw [hs]; exact hf
  · show (u.sleeve t.sl).seqOk p.seq = true
    rw [hs]; exact hq

/-- The intake of an admitted packet runs its opcode. -/
theorem intake_admitted (t : Take) (op : Byte) (p : Packet) (body : Cmd → State → State) (s : State)
    (h : Admitted t op p s) : intake t p body (noteTake t.sl s) = body (s.cmdOf t.sl p) (s.takenBy t.sl p) := by
  obtain ⟨_, _, _, _, hc, hm, hf, hq⟩ := h
  unfold intake
  extract_lets c u v
  have hv : v.intakeFail t.sl p = none := by
    rw [← hc]; exact intakeFail_congr s v t.sl p rfl rfl rfl (by simp [v, u]; rfl)
  rw [hv]
  have hcm : { c with sealed := p.sealed } = s.cmdOf t.sl p := rfl
  by_cases ha : p.auth = true
  · obtain ⟨h1, h2⟩ := hm ha
    have hmac : v.macOf c.sl p = p.mac := by
      rw [← h2]; exact macOf_congr s v t.sl p rfl (by simp [v, u]; rfl) (by simp [v, u]; rfl)
    simp only [ha, if_true, checkMac, h1, glitched, hmac, cmpPair]
    simp only [Bool.false_eq_true, if_false, beq_self_eq_true, Bool.not_true, if_true, hcm]
    exact accept_taken t p body s c hf hq hcm
  · simp only [ha, hcm]
    exact accept_taken t p body s c hf hq hcm

/-- A row runs its opcode on an admitted packet of its kind. -/
theorem takeWith_admitted (t : Take) (op : Byte) (p : Packet) (kind : Byte → Word → Bool) (body : Cmd → State → State)
    (s : State) (h : Admitted t op p s) (hk : kind p.op p.arg = true) :
    takeWith t kind body s = body (s.cmdOf t.sl p) (s.takenBy t.sl p) := by
  have hh := h.head
  unfold takeWith
  cases hq : (s.sleeve t.sl).cmdq with
  | nil => simp [hq] at hh
  | cons q r =>
    have : q = p := by simpa [hq] using hh
    subst this
    simp [h.may, h.turn, hk, intake_admitted t op q body s h]

/-- A row of one opcode runs it on an admitted packet. -/
theorem takeOp_admitted (t : Take) (op : Byte) (p : Packet) (body : Cmd → State → State)
    (s : State) (h : Admitted t op p s) :
    takeOp t op body s = body (s.cmdOf t.sl p) (s.takenBy t.sl p) :=
  takeWith_admitted t op p _ body s h (by simp [h.opcode])


/-- The command just taken is the one found under its number. -/
theorem findCmd_takenBy (i : Sleeve) (p : Packet) (s : State) :
    (s.takenBy i p).findCmd s.nextCmd = some { s.cmdOf i p with accepted := true } := by
  simp [State.findCmd, State.takenBy, modCmd, modSleeve, State.cmdOf]

/-- Sealing changes a reply's seal and NOSEAL alone, and only where a seal was asked for (R298). -/
theorem sealReply_fields (s : State) (i : Sleeve) (w : Bool) (key : Option (List Byte × List Byte)) (r : Reply) :
    ∃ tag ns, s.sealReply i w key r = { r with sealTag := tag, noseal := ns } ∧ (w = false → tag = r.sealTag ∧ ns = r.noseal) := by
  unfold State.sealReply
  cases w with
  | false => exact ⟨r.sealTag, r.noseal, rfl, fun _ => ⟨rfl, rfl⟩⟩
  | true =>
    cases key with
    | some k => exact ⟨_, r.noseal, rfl, by simp⟩
    | none => exact ⟨r.sealTag, true, rfl, by simp⟩


/-- Ending a command with an executed status posts its reply, keeps its number consumed and settles its cache entry, and does
nothing else (R302, R304). -/
theorem answer_takenBy (i : Sleeve) (p : Packet) (st : Byte) (payload : List Byte) (s : State) (hst : executed st = true) :
    Answered i p st payload s (answer s.nextCmd st payload (s.takenBy i p)) := by
  unfold answer answerP
  rw [findCmd_takenBy]
  simp only [answerWith, findCmd_takenBy]
  generalize hk : ({ s.cmdOf i p with accepted := true } : Cmd) = k
  obtain ⟨tag, ns, hr, hn⟩ := sealReply_fields (s.takenBy i p) (s.cmdOf i p).sl (s.cmdOf i p).sealed
    ((s.takenBy i p).cmdKeyOf (s.cmdOf i p).sl) (replyFor k st payload [] 0)
  rw [hr]
  set r := { replyFor k st payload [] 0 with sealTag := tag, noseal := ns } with hrdef
  have hns : ∀ u, noteStatus i st u = u := fun u => by
    have h1 : st ≠ stAuthFail := fun h => by rw [h] at hst; revert hst; decide
    have h2 : st ≠ stReplay := fun h => by rw [h] at hst; revert hst; decide
    simp only [noteStatus, if_neg h1, if_neg h2]
  have hsc : settleCache k r = modSleeve i (fun x =>
      { x with cache := x.cache.map (fun e => if e.cmd = s.nextCmd then { e with reply := some r } else e) }) := by
    have hex : executed r.status = true := hst
    simp only [settleCache, hex, if_true, ← hk]; rfl
  have hd : List.filter (fun c => c.id != s.nextCmd) (s.takenBy i p).cmds =
      List.filter (fun c => c.id != s.nextCmd) s.cmds := by
    simp only [State.takenBy, modCmd, modSleeve, List.map_cons]
    rw [List.filter_cons_of_neg (by simp [State.cmdOf])]
    induction s.cmds with
    | nil => rfl
    | cons c cs ih => by_cases h : c.id = s.nextCmd <;> simp [h, ih]
  have ht : noteStatus i st (settleCache k r (post i r (dropCmd s.nextCmd (s.takenBy i p)))) =
      { s with
        sleeves := vset s.sleeves i { s.sleeve i with
          cmdq := (s.sleeve i).cmdq.drop 1, removing := true, replies := (s.sleeve i).replies ++ [r]
          seqHi := ((s.sleeve i).accept s.nextCmd p.tag p.seq).seqHi
          consumed := ((s.sleeve i).accept s.nextCmd p.tag p.seq).consumed
          cache := ((s.sleeve i).accept s.nextCmd p.tag p.seq).cache.map
            (fun e => if e.cmd = s.nextCmd then { e with reply := some r } else e) }
        cmds := s.cmds.filter (fun c => c.id != s.nextCmd), nextCmd := s.nextCmd + 1, taken := (noteTake i s).taken } := by
    rw [hns, hsc]
    simp only [post, modSleeve, vmod, dropCmd, hd]
    simp only [State.takenBy, modCmd, modSleeve, vmod, vset_vset, vget_vset_same]
    rfl
  show Answered i p st payload s (noteStatus i st (settleCache k r (post i r (dropCmd s.nextCmd (s.takenBy i p)))))
  rw [ht]
  have hp : r.payload = (if p.echo = true then p.bytes.take 12 else []) ++ payload := by
    rw [hrdef, ← hk]
    show (if p.echo = true then p.bytes.take 12 ++ payload else payload) = _
    split <;> rfl
  refine ⟨⟨r, ?_, rfl, by rw [hrdef, ← hk]; rfl, by rw [hrdef, ← hk]; rfl, by rw [hrdef, ← hk]; rfl, hp, rfl, rfl, rfl, rfl, hn⟩, ?_, ?_, ?_⟩
  · simp [State.sleeve]
  · simp [OnlyAnswered, State.sleeve]
  · simp [State.sleeve]
  · simp [State.sleeve]

end Sys2Proof.Machine
end

