-- ==== Sys2Proof/Machine/Pins.lean ====
section
/-! DEFINITION. The levels of the ports' pins as functions of the state: RDY, selects, termination, the JTAG data registers
(12.1, 12.2, 12.6, R424, R524). -/

namespace Sys2Proof.Machine

/-- Some entry of the port's queue would be transferred now: RDY falls before it does (Table 14-1). -/
def State.claims (s : State) (p : Fin 3) : Bool := s.portMasters p && !(s.ports.ports.get p).queue.isEmpty

/-- RDY of ports A, B and M outside frames: none while the port is off (R363); high only while the port is trained, not retired
and not mastering (R370, R378, R383, R424). -/
def State.rdy (s : State) (p : Fin 3) : Option Bool :=
  let x := s.ports.ports.get p
  if x.on then some (x.trained && decide (x.health.st ≠ .retired) && !s.claims p) else none

/-- A select's pin as the module drives it: none is an input with its pull-up. A push partner is driven high outside its
transfers, but while MMF is set or the port is off (R360, R363, R433). -/
def State.selectPin (s : State) (c : Sel) : Option Bool :=
  let x := s.ports.ports.get (selPort c)
  if x.on && decide ((s.route c).role = 2) && !x.mmf then some true else none

/-- The select's pin once its level is known: a change of route turns it only while the select is high (R360). -/
def selectTurns (now later : Option Bool) (low : Bool) : Option Bool := if low then now else later

/-- Termination of a lane of port A or B: only while the module receives on it, on an active lane or in training (R363, R366). -/
def State.terminates (s : State) (p : Fin 3) (l : Fin 8) (receiving training : Bool) : Bool :=
  decide (p ≠ 2) && (s.ports.ports.get p).on && receiving && (training || (s.active p).contains l)

/-- READY: none while the module is off (Table 19-2). -/
def State.readyPin (s : State) : Option Bool :=
  match s.power.phase with
  | .off => none
  | _ => some s.ready

/-- F.CS0 and F.CS1 between reads: driven high, but none where port F is off (R446, R363, Table 19-2). -/
def State.fSelects (s : State) : Option Bool :=
  match s.power.phase with
  | .off | .inReset | .fold => none
  | _ => some true

/-- ALERT_A and ALERT_B: none while the module is off; low until the lining is restored (Table 19-2). -/
def State.alertLevel (s : State) (p : Fin 2) : Option Bool :=
  match s.power.phase with
  | .off => none
  | _ => some (s.lined && s.alertPin p)

end Sys2Proof.Machine
end

