-- ==== Sys2Proof/WellFormed.lean ====
section
/-! DEFINITION. Well-formed commands: what the wires and the elements can present. Every other bound is in the operands'
types. -/

namespace Sys2Proof

/-- The hardware updates of a write frame name words of the frame (R63). -/
def HwUpdate.within (n : Nat) : HwUpdate → Bool
  | .setBits i _ => decide (i < n)
  | .count i lsb _ _ => decide (i < n) && decide (lsb < 32)
  | .mirror i _ => decide (i < n)

/-- A count byte expresses 1 to 256 words (R388). -/
def ReadFrame.ok (f : ReadFrame) : Bool := decide (1 ≤ f.count) && decide (f.count ≤ 256)

def Instr.wellFormed : Instr → Bool
  | .writeReg _ _ data hw => decide (1 ≤ data.length) && decide (data.length ≤ 256) && hw.all (HwUpdate.within data.length)
  | .pushCmd _ head packet => decide (packet.length = 4 * (head.count.toNat + 1))
  | .pwrWakewhyRead f => f.ok
  | .tlyNowlRead f => f.ok
  | .resultWindowRead f => f.ok
  /- an A-thread delivers one comparator bit (R121) -/
  | .threadSample t code => decide (t.val < 12) || decide (code.toNat ≤ 1)
  /- port M has four lanes (Table 0-6) -/
  | .crcBurst p lane => decide (p ≠ .M) || decide (lane.val < 4)
  /- event data is eight bytes (Table 18-3) -/
  | .faultEvent _ source data => decide (data.length ≤ 8) && decide (source.val < 9 ∨ source.val = 15)
  /- a fetched line is 64 bytes (R449) -/
  | .xipFetch _ f0 f1 => decide (f0.length = 64) && decide (f1.length = 64)
  | _ => true

end Sys2Proof
end

