-- ==== Sys2Proof/Tests/Slice0.lean ====
section
/-! SUPPORT. The model's own tests: a command that `wellFormed` refuses for each check, published test vectors, and for each
statement the states and operands that meet its hypotheses. -/

open Sys2Proof Sys2Proof.Machine

namespace Sys2Proof.Tests

-- one theorem at a time: each decided theorem would otherwise hold a thread of its own
set_option Elab.async false

/-! ### Ill-formed commands -/

theorem test_wf_write_empty : (Instr.writeReg ⟨0, 0, false, []⟩ 0 [] []).wellFormed = false := by decide
theorem test_wf_write_long : (Instr.writeReg ⟨0, 0, false, []⟩ 0 (List.replicate 257 0) []).wellFormed = false := by decide +kernel
theorem test_wf_write_update : (Instr.writeReg ⟨0, 0, false, []⟩ 0 [1] [.setBits 1 1]).wellFormed = false := by decide
theorem test_wf_write_count : (Instr.writeReg ⟨0, 0, false, []⟩ 0 [1] [.count 0 32 1 1]).wellFormed = false := by decide
theorem test_wf_write_mirror : (Instr.writeReg ⟨0, 0, false, []⟩ 0 [1] [.mirror 1 1]).wellFormed = false := by decide
theorem test_wf_push : (Instr.pushCmd ⟨0, 0, false, []⟩ ⟨0, 2⟩ [1, 2, 3]).wellFormed = false := by decide
theorem test_wf_wakewhy : (Instr.pwrWakewhyRead ⟨0, 7, 0, .full, 0⟩).wellFormed = false := by decide
theorem test_wf_tally : (Instr.tlyNowlRead ⟨0, 0, 257, .full, 0⟩).wellFormed = false := by decide
theorem test_wf_window : (Instr.resultWindowRead ⟨0, 22, 0, .full, 0⟩).wellFormed = false := by decide
theorem test_wf_sample : (Instr.threadSample 12 2).wellFormed = false := by decide
theorem test_wf_lane : (Instr.crcBurst .M 4).wellFormed = false := by decide
theorem test_wf_event_data : (Instr.faultEvent 0xF001 15 (List.replicate 9 0)).wellFormed = false := by decide
theorem test_wf_event_source : (Instr.faultEvent 0xF001 9 []).wellFormed = false := by decide
theorem test_wf_fetch : (Instr.xipFetch 0 [] (List.replicate 64 0)).wellFormed = false := by decide
theorem test_wf_ping : (Instr.ping ⟨0, .clean, 0⟩).wellFormed = true := by decide

/-! ### Published vectors -/

/-- SHA-256 of "abc" (FIPS 180-4's example). -/
theorem test_sha256 : bytesNat (sha 0 [0x61, 0x62, 0x63]) =
    0xba7816bf8f01cfea414140de5dae2223b00361a396177a9cb410ff61f20015ad := by decide +kernel

/-- SHA-384 of "abc". -/
theorem test_sha384 : bytesNat (sha 1 [0x61, 0x62, 0x63]) =
    0xcb00753f45a35e8bb5a03d699ac65007272c32ab0eded1631a8b605a43ff5bed8086072ba1e7cc2358baeca134c825a7 := by decide +kernel

/-- HMAC-SHA-256, test case 2 of RFC 4231. -/
theorem test_hmac : bytesNat (hmac 0 [0x4a, 0x65, 0x66, 0x65] ([0x77, 0x68, 0x61, 0x74, 0x20, 0x64, 0x6f, 0x20, 0x79, 0x61,
    0x20, 0x77, 0x61, 0x6e, 0x74, 0x20, 0x66, 0x6f, 0x72, 0x20, 0x6e, 0x6f, 0x74, 0x68, 0x69, 0x6e, 0x67, 0x3f])) =
    0x5bdcc146bf60754e6a042426089575c75a003f089d2739839dec58b964ec3843 := by decide +kernel

/-- The S-box of FIPS 197 (5.1.1: 53 becomes ed), and a column mixed as its matrix says. -/
theorem test_sbox : sbox 0x53 = 0xED := by decide +kernel
theorem test_mix : mixColumn [0xDB, 0x13, 0x53, 0x45] = [0x8E, 0x4D, 0xA1, 0xBC] := by decide +kernel

/-- CRC-32 of "123456789", its usual check value. -/
theorem test_crc : crc32 [0x31, 0x32, 0x33, 0x34, 0x35, 0x36, 0x37, 0x38, 0x39] = 0xCBF43926 := by decide +kernel

/-! ### Wires and pins -/

/-- A command byte on lanes 1 and 0 over four periods (R388), and two bytes of a phase at each width (R389). -/
theorem test_serial : (List.range 256).all (fun n => serialByte (serialBits (BitVec.ofNat 8 n)) == BitVec.ofNat 8 n) = true := by
  decide +kernel
theorem test_phase : ([2, 4, 8].all fun w => phaseBytes w 2 (phaseUIs w [0x1B, 0xE4]) == [0x1B, 0xE4]) = true := by decide +kernel
/-- Off, READY and RDY are not driven (R363, Table 19-2). -/
theorem test_pins_off : State.reset.readyPin = none ∧ State.reset.rdy 0 = none := by decide +kernel

/-! ### States and packets -/

/-- The module in service: READY high, every unit in service, every port trained, HOLD full, Tally at 10,000 s. -/
def up : State :=
  { State.reset with
    power := { Power.reset with phase := .serving, conditioned := true, ioSelOpen := true }
    tally := { Tally.reset with now := 10000000000, running := true }
    supply := { Supply.reset with
      vinMv := 12000, hold10mV := 2200, cap := 470, switchOn := true, vcore := 850, railOk := true, railUp := true, charge := 2
      rideUs := 20000 }
    lining := { Lining.reset with boot := 1, bootDone := true }
    threads := Vector.replicate 16 { ThreadSt.reset with passed := true }
    sleeves := Vector.replicate 8 { SleeveSt.reset with
      cmdKey := ⟨true, true, List.replicate 32 1, List.replicate 32 2, 1⟩ }
    ports := { Ports.reset with ports := Vector.replicate 3 { PortSt.reset with on := true, trained := true, width := 4 } } }

/-- RDY of a trained and of an untrained port, and the select of a slave and of a push partner (R360, R370, R383). -/
theorem test_rdy_trained : up.rdy 0 = some true := by decide +kernel
theorem test_rdy_untrained : (untrain 0 up).rdy 0 = some false := by decide +kernel
theorem test_select : up.selectPin 0 = none ∧
    (modPorts (fun p => { p with routes := vset p.routes 0 ⟨0, 2⟩ }) up).selectPin 0 = some true := by decide +kernel

/-- Every AES core retired. -/
def noCores : State := modFabric (fun f => { f with
  cores := f.cores.map (fun c => { c with health := { c.health with st := .retired } }) }) up

/-- The words of a packet but its MAC (Table 10-1): number 1, tag 5. -/
def words (i : Sleeve) (op arg : Nat) (auth : Bool) (ps : List Word) : List Byte :=
  [BitVec.ofNat 8 op, BitVec.ofNat 8 (i.val + 8 * bit auth), 5, BitVec.ofNat 8 ps.length] ++ natBytes 4 1 ++ natBytes 4 arg ++
    wordsBytes ps

/-- A packet without a MAC, and one that carries the sleeve's MAC. -/
def plain (i : Sleeve) (op arg : Nat) (ps : List Word) : Packet := ⟨words i op arg false ps, 0⟩
def signed (s : State) (i : Sleeve) (op arg : Nat) (ps : List Word) : Packet :=
  ⟨words i op arg true ps ++ s.macOf i ⟨words i op arg true ps, 0⟩, 0⟩

/-- A state with a packet alone in a sleeve's queue. -/
def asks (i : Sleeve) (p : Packet) (s : State) : State := modSleeve i (fun x => { x with cmdq := [p] }) s

theorem asks_sleeve (i : Sleeve) (p : Packet) (s : State) :
    (asks i p s).sleeve i = { s.sleeve i with cmdq := [p] } := sleeve_modSleeve_same i _ s

theorem asks_turn (i : Sleeve) (p : Packet) (s : State) (h : s.taken = []) : (asks i p s).turn i = true := by
  have : (asks i p s).taken = [] := h
  simp [State.turn, this]

theorem asks_macOf (i : Sleeve) (p q : Packet) (s : State) : (asks i p s).macOf i q = s.macOf i q :=
  macOf_congr s _ i q rfl (by rw [asks_sleeve]) (by rw [asks_sleeve])

theorem words_length (i : Sleeve) (op arg : Nat) (auth : Bool) (ps : List Word) :
    (words i op arg auth ps).length = 12 + 4 * ps.length := by simp [words]; omega

/-- Bytes after a packet's words change none of its fields. -/
theorem fields_append (h m : List Byte) (n : Nat) (hl : h.length = 12 + 4 * n) (hp : (⟨h, 0⟩ : Packet).plen = n) :
    let p : Packet := ⟨h ++ m, 0⟩
    let q : Packet := ⟨h, 0⟩
    (∀ k, k < 12 → pktByte p k = pktByte q k) ∧ p.seq = q.seq ∧ p.arg = q.arg ∧ p.params = q.params ∧ p.mac = m ∧
      p.bytes.take (12 + 4 * p.plen) = q.bytes := by
  have hb : ∀ k, k < 12 → pktByte ⟨h ++ m, 0⟩ k = pktByte ⟨h, 0⟩ k := fun k hk => by
    simp only [pktByte, List.getD_eq_getElem?_getD]
    rw [List.getElem?_append_left (by omega)]
  have hn : (⟨h ++ m, 0⟩ : Packet).plen = n := by rw [← hp]; simp only [Packet.plen, hb 3 (by omega)]
  have hd : ∀ a b, a + b ≤ h.length → ((h ++ m).drop a).take b = (h.drop a).take b := fun a b hab => by
    rw [List.drop_append_of_le_length (by omega), List.take_append_of_le_length (by simp; omega)]
  refine ⟨hb, ?_, ?_, ?_, ?_, ?_⟩
  · simp only [Packet.seq]; rw [hd 4 4 (by omega)]
  · simp only [Packet.arg]; rw [hd 8 4 (by omega)]
  · simp only [Packet.params]; rw [hn, hp, hd 12 _ (by omega)]
  · simp only [Packet.mac]; rw [hn, ← hl]; simp
  · rw [hn, ← hl]; simp

/-- A packet without a MAC, alone in its queue, is admitted where the checks on its words pass. -/
theorem asked {s : State} {i : Sleeve} {op arg : Nat} {ps : List Word} (hm : (asks i (plain i op arg ps) s).mayTake i = true)
    (hc : (asks i (plain i op arg ps) s).intakeFail i (plain i op arg ps) = none) (hp : (plain i op arg ps).auth = false)
    (h0 : (s.sleeve i).cache = []) (hs : (s.sleeve i).seqOk 1 = true) (ht : s.taken = []) :
    Admitted ⟨i, .clean, 0⟩ (BitVec.ofNat 8 op) (plain i op arg ps) (asks i (plain i op arg ps) s) where
  head := by rw [asks_sleeve]; rfl
  opcode := rfl
  may := hm
  checks := hc
  mac := fun h => by rw [hp] at h; cases h
  turn := asks_turn i _ s ht
  fresh := by rw [asks_sleeve]; simp [h0]
  inSeq := by rw [asks_sleeve]; exact hs

theorem plen_words (i : Sleeve) (op arg : Nat) (auth : Bool) (ps : List Word) (h : ps.length < 64) :
    (⟨words i op arg auth ps, 0⟩ : Packet).plen = ps.length := by
  simp [Packet.plen, pktByte, words]; omega

/-- The fields of a signed packet are those of its words, and its MAC is the sleeve's. -/
theorem signed_fields (s : State) (i : Sleeve) (op arg : Nat) (ps : List Word) (h : ps.length < 64) :
    let p := signed s i op arg ps
    let q : Packet := ⟨words i op arg true ps, 0⟩
    (∀ k, k < 12 → pktByte p k = pktByte q k) ∧ p.seq = q.seq ∧ p.arg = q.arg ∧ p.params = q.params ∧
      p.mac = s.macOf i q ∧ p.bytes.take (12 + 4 * p.plen) = q.bytes :=
  fields_append _ _ _ (words_length i op arg true ps) (plen_words i op arg true ps h)

theorem macOf_signed (s : State) (i : Sleeve) (op arg : Nat) (ps : List Word) (h : ps.length < 64) :
    s.macOf i (signed s i op arg ps) = (signed s i op arg ps).mac := by
  have f := signed_fields s i op arg ps h
  rw [f.2.2.2.2.1]
  have : (words i op arg true ps).take (12 + 4 * (⟨words i op arg true ps, 0⟩ : Packet).plen) = words i op arg true ps := by
    rw [plen_words i op arg true ps h, ← words_length i op arg true ps]; simp
  simp only [State.macOf, f.2.2.2.2.2, this]

/-- Steps 1 to 7 look at a packet's words and its length. -/
theorem intakeFail_append (s : State) (i : Sleeve) (h m m' : List Byte) (n : Nat) (hl : h.length = 12 + 4 * n)
    (hp : (⟨h, 0⟩ : Packet).plen = n) (hm : m.length = m'.length) :
    s.intakeFail i ⟨h ++ m, 0⟩ = s.intakeFail i ⟨h ++ m', 0⟩ := by
  have f := fields_append h m n hl hp
  have g := fields_append h m' n hl hp
  have e : ∀ k, k < 12 → pktByte ⟨h ++ m, 0⟩ k = pktByte ⟨h ++ m', 0⟩ k := fun k hk => (f.1 k hk).trans (g.1 k hk).symm
  simp only [State.intakeFail, Packet.wellFormed, Packet.op, Packet.sleeve, Packet.auth, Packet.sealed, Packet.plen,
    e 0 (by omega), e 1 (by omega), e 2 (by omega), e 3 (by omega), f.2.2.1, g.2.2.1, List.length_append, hm]
  rfl

theorem macOf_length (s : State) (i : Sleeve) (p : Packet) (h : (s.cmdKeyOf i).isSome = true) : (s.macOf i p).length = 16 := by
  obtain ⟨k, hk⟩ := Option.isSome_iff_exists.1 h
  simp only [State.macOf, hk, List.length_take, hmacWith_length]
  rfl

/-- A signed packet, alone in its queue, is admitted where the checks on its words pass. -/
theorem asked' {s : State} {i : Sleeve} {op arg : Nat} {ps : List Word} (hk : (s.cmdKeyOf i).isSome = true)
    (hl : ps.length < 64) (hm : ((asks i (plain i op arg ps) s).mayTake i = true))
    (hc : (asks i (plain i op arg ps) s).intakeFail i ⟨words i op arg true ps ++ List.replicate 16 0, 0⟩ = none)
    (h0 : (s.sleeve i).cache = []) (hs : (s.sleeve i).seqOk 1 = true) (ht : s.taken = []) :
    Admitted ⟨i, .clean, 0⟩ (BitVec.ofNat 8 op) (signed s i op arg ps) (asks i (signed s i op arg ps) s) where
  head := by rw [asks_sleeve]; rfl
  opcode := rfl
  may := by
    rw [← hm]; simp only [State.mayTake, asks_sleeve]; rfl
  checks := by
    rw [← hc, signed, intakeFail_append _ i _ _ _ ps.length (words_length i op arg true ps) (plen_words i op arg true ps hl)
      ((macOf_length s i _ hk).trans List.length_replicate.symm)]
    exact intakeFail_congr _ _ i _ rfl rfl rfl (by rw [asks_sleeve, asks_sleeve])
  mac := fun _ => ⟨rfl, by rw [asks_macOf]; exact macOf_signed s i op arg ps hl⟩
  fresh := by rw [asks_sleeve]; simp [h0]
  inSeq := by
    rw [asks_sleeve, show (signed s i op arg ps).seq = 1 from (signed_fields s i op arg ps hl).2.1.trans rfl]; exact hs
  turn := asks_turn i _ s ht

/-- The same for numerals. -/
theorem ask (i : Sleeve) (op arg : Nat) (ps : List Word) (s : State)
    (h : (asks i (plain i op arg ps) s).mayTake i = true ∧
      (asks i (plain i op arg ps) s).intakeFail i (plain i op arg ps) = none ∧ (plain i op arg ps).auth = false ∧
      (s.sleeve i).cache = [] ∧ (s.sleeve i).seqOk 1 = true ∧ s.taken = [] := by decide +kernel) :
    Admitted ⟨i, .clean, 0⟩ (BitVec.ofNat 8 op) (plain i op arg ps) (asks i (plain i op arg ps) s) :=
  asked h.1 h.2.1 h.2.2.1 h.2.2.2.1 h.2.2.2.2.1 h.2.2.2.2.2

theorem ask' (i : Sleeve) (op arg : Nat) (ps : List Word) (s : State)
    (h : (s.cmdKeyOf i).isSome = true ∧ ps.length < 64 ∧ (asks i (plain i op arg ps) s).mayTake i = true ∧
      (asks i (plain i op arg ps) s).intakeFail i ⟨words i op arg true ps ++ List.replicate 16 0, 0⟩ = none ∧
      (s.sleeve i).cache = [] ∧ (s.sleeve i).seqOk 1 = true ∧ s.taken = [] := by decide +kernel) :
    Admitted ⟨i, .clean, 0⟩ (BitVec.ofNat 8 op) (signed s i op arg ps) (asks i (signed s i op arg ps) s) :=
  asked' h.1 h.2.1 h.2.2.1 h.2.2.2.1 h.2.2.2.2.1 h.2.2.2.2.2.1 h.2.2.2.2.2.2

/-! ### Witnesses: the block -/

theorem witness_StepRunsFront : ∃ (c : Instr) (r : List Instr) (s : State), s.pending = c :: r :=
  ⟨.maintMinute, [.doorAlarm], { up with pending := [.maintMinute, .doorAlarm] }, rfl⟩

theorem witness_StepTicks : (State.reset.pending = [] ∧ State.reset.tally.running = false) ∧
    (up.pending = [] ∧ up.tally.running = true ∧
      (∀ i k, (up.inst i k).health.retest = false) ∧ (∀ k, (up.slot k).health.retest = false) ∧
      ∀ c ∈ up.cmds, up.stopsTimer c = false) := by decide +kernel

theorem witness_KeptUnlessListed : ∃ u, Instr.maintMinute.changesKept = false ∧ exec .maintMinute up = .next u :=
  ⟨_, rfl, rfl⟩

theorem witness_StepSound : ∃ u, Sound up ∧ step up = .next u :=
  ⟨_, ⟨by decide, by decide, by decide, by decide, by decide +kernel, by decide +kernel⟩, rfl⟩

/-! ### Witnesses: packets -/

/-- A PING whose MAC is missing 12 of its bytes, and one that another sleeve names. -/
theorem witness_IntakeRefuses :
    (∃ (t : Take) (p : Packet) (st : Byte) (s : State), (Instr.ping t).take = some t ∧ (s.sleeve t.sl).cmdq.head? = some p ∧
      (Instr.ping t).takesOp p.op p.arg = true ∧ s.mayTake t.sl = true ∧ s.turn t.sl = true ∧
      s.intakeFail t.sl p = some st ∧
      ∀ e ∈ (s.sleeve t.sl).cache, e.cmd ≠ s.nextCmd) ∧
    (State.reset.mayTake 0 = false ∧ (Instr.ping ⟨0, .clean, 0⟩).take = some ⟨0, .clean, 0⟩) ∧
    { asks 0 (plain 0 0x00 0 []) (asks 1 (plain 1 0x00 0 []) up) with taken := [0] }.turn 0 = false ∧
    ((asks 0 (plain 0 0x01 0 []) up).sleeve 0).cmdq.head?.all
      (fun p => !(Instr.ping ⟨0, .clean, 0⟩).takesOp p.op p.arg) = true := by
  refine ⟨⟨⟨0, .clean, 0⟩, ⟨[0, 8, 5, 0, 0, 0, 0, 1, 0, 0, 0, 0], 0⟩, stBadLength,
    asks 0 ⟨[0, 8, 5, 0, 0, 0, 0, 1, 0, 0, 0, 0], 0⟩ up, ?_⟩, ?_, ?_, ?_⟩ <;> decide +kernel

theorem witness_IntakeJudges :
    let t : Take := ⟨0, .clean, 0⟩
    let g : Take := ⟨0, .bothOne, 1⟩
    let p : Packet := ⟨words 0 0 0 true [] ++ List.replicate 16 0, 0⟩
    let s := asks 0 p up
    ((Instr.ping t).takesOp p.op p.arg = true ∧ s.mayTake 0 = true ∧ s.turn 0 = true ∧
      s.intakeFail 0 p = none) ∧
    (p.auth = true ∧ g.cmp ≠ .clean ∧ ∀ i k, s.nextCmd ∉ (s.ctx i k).commands) ∧
    (t.cmp = .clean ∧ s.macOf 0 p ≠ p.mac) ∧
    (∃ (q : Packet) (v : State), v.mayTake 0 = true ∧ v.turn 0 = true ∧ v.intakeFail 0 q = none ∧ q.auth = false ∧ (v.sleeve 0).cache = [] ∧
      (v.sleeve 0).seqOk q.seq = false) ∧
    (∃ (e : CacheEntry) (q : Packet) (v : State), v.mayTake 0 = true ∧ v.turn 0 = true ∧ v.intakeFail 0 q = none ∧ q.auth = false ∧
      (v.sleeve 0).cache.find? (fun e => e.tag == q.tag && e.seq == q.seq) = some e ∧ e.reply = none) := by
  exact ⟨by decide +kernel, by decide +kernel, by decide +kernel,
    ⟨plain 0 0 0 [], modSleeve 0 (fun x => { x with seqHi := 65, consumed := [65] }) (asks 0 (plain 0 0 0 []) up),
      by decide +kernel⟩,
    ⟨⟨7, 5, 1, none⟩, plain 0 0 0 [], modSleeve 0 (fun x => { x with cache := [⟨7, 5, 1, none⟩] })
      (asks 0 (plain 0 0 0 []) up), by decide +kernel⟩⟩

/-! ### Witnesses: opcodes that only read -/

theorem witness_IdentityReads :
    (∃ t p s, Admitted t 0x00 p s ∧ p.params.length ≤ 61) ∧ (∃ t p s, Admitted t 0x01 p s ∧ p.params = []) ∧
    (∃ t p s, Admitted t 0x02 p s ∧ p.params = []) ∧ (∃ t p s, Admitted t 0x50 p s ∧ p.params = []) :=
  ⟨⟨_, _, _, ask 0 0x00 0 (List.replicate 61 0) up, by decide +kernel⟩, ⟨_, _, _, ask 7 0x01 0 [] up, by decide +kernel⟩,
    ⟨_, _, _, ask 1 0x02 0 [] up, by decide +kernel⟩, ⟨_, _, _, ask 2 0x50 0 [] up, by decide +kernel⟩⟩

theorem witness_PatternReadReturnsBank : ∃ t p s, Admitted t 0x22 p s ∧ argBits p.arg 0x1 = true ∧ p.params = [] :=
  ⟨_, _, _, ask 3 0x22 1 [] up, by decide +kernel⟩

theorem witness_RecordReads :
    (∃ t p s, Admitted t 0x42 p s ∧ argBits p.arg 0x9F = true ∧ p.params = [] ∧ p.arg.getLsbD 7 = false ∧
      (argSlot p.arg).val / 4 = t.sl.val) ∧
    (∃ t p s, Admitted t 0x42 p s ∧ argBits p.arg 0x9F = true ∧ p.params = [] ∧ p.arg.getLsbD 7 = true ∧ argSlot p.arg = 0) ∧
    (∃ t p s, Admitted t 0x42 p s ∧ argBits p.arg 0x9F = true ∧ p.params = [] ∧ p.arg.getLsbD 7 = false ∧
      (argSlot p.arg).val / 4 ≠ t.sl.val) ∧
    (∃ t p s, Admitted t 0x61 p s ∧ argBits p.arg 0x7F = true ∧ p.params = [] ∧ field p.arg 0 7 < 32) ∧
    (∃ t p s, Admitted t 0x73 p s ∧ p.params = []) ∧
    (∃ t p s, Admitted t 0x91 p s ∧ argBits p.arg 0x3 = true ∧ p.params = []) ∧
    (∃ t p s first, Admitted t 0x80 p s ∧ p.arg.getLsbD 7 = false ∧ argBits p.arg 0x7 = true ∧ p.params = [first] ∧
      field p.arg 0 3 ≠ 0) :=
  ⟨⟨_, _, _, ask' 0 0x42 3 [] up, by decide +kernel⟩, ⟨_, _, _, ask' 1 0x42 0x80 [] up, by decide +kernel⟩,
    ⟨_, _, _, ask' 0 0x42 4 [] up, by decide +kernel⟩, ⟨_, _, _, ask 0 0x61 31 [] up, by decide +kernel⟩,
    ⟨_, _, _, ask 0 0x73 0 [] up, by decide +kernel⟩, ⟨_, _, _, ask 0 0x91 3 [] up, by decide +kernel⟩,
    ⟨_, _, _, 0, ask 0 0x80 7 [0] up, by decide +kernel⟩⟩

/-! ### Witnesses: the journal's opcodes -/

/-- A patch image of version 1 with no code, and its tag. -/
def header : List Byte := [0x50, 0x54, 0x43, 0x48, 0, 1, 1, 3] ++ List.replicate 56 0
def image : List Byte :=
  let k := hmacStates 0 (natBytes 32 Config.patchKey.toNat)
  header ++ hmacWith 0 k.1 k.2 header

theorem image_length : image.length = 96 := by simp [image, hmacWith_length]; decide

theorem image_ok : imageOk image = true := by
  have ht : image.take 64 = header := by simp [image, header]
  have hd : image.drop 64 =
      hmacWith 0 (hmacStates 0 (natBytes 32 Config.patchKey.toNat)).1 (hmacStates 0 (natBytes 32 Config.patchKey.toNat)).2 header := by
    simp [image, header]
  have h4 : image.take 4 = [0x50, 0x54, 0x43, 0x48] := by simp [image, header]
  have h12 : ((image.drop 12).take 52) = List.replicate 52 0 := by simp [image, header]
  simp only [imageOk, ht, hd, h4, h12, image_length]
  simp

theorem witness_CommitsRequested :
    (∃ t p s, Admitted t 0x03 p s ∧ p.params ≠ [] ∧ p.params.length ≤ 10 ∧ p.params.all routeWordOk = true ∧
      (p.params.map routeSel).Nodup ∧ routeKeepsS0 (routeTable p.params s.ports.routes) = true) ∧
    (∃ t p s w0 w1 w2, Admitted t 0x04 p s ∧ argBits p.arg 0x7 = true ∧ p.params = [w0, w1, w2] ∧
      s.quotaOk (nth8 (field p.arg 0 3)) w0 w1 w2 = true) ∧
    (∃ t p s, Admitted t 0x53 p s ∧ p.params.length = 9 ∧ creditOk p.params = true) ∧
    (∃ t p s w, Admitted t 0x70 p s ∧ p.params = [w] ∧ policyOk w = true) ∧
    (∃ t p s, Admitted t 0x40 p s ∧ argBits p.arg 0x00FF031F = true ∧ field p.arg 8 2 ≠ 3 ∧ field p.arg 16 8 ≠ 0 ∧
      field p.arg 16 8 ≤ blockLen (field p.arg 8 2) ∧ p.params.length = (field p.arg 16 8 + 3) / 4 ∧
      s.slotRefusal t.sl (argSlot p.arg) = none ∧
      ((s.unmask (s.cmdOf t.sl p)).drop (field p.arg 16 8)).all (· == 0) = true) ∧
    (∃ t p s, Admitted t 0x41 p s ∧ argBits p.arg 0x1F = true ∧ p.params = [] ∧ s.slotRefusal t.sl (argSlot p.arg) = none) ∧
    (∃ t p s, Admitted t 0x43 p s ∧ p.params.length = 8) ∧
    (∃ t p s offset len, Admitted t 0xA0 p s ∧ p.params = [offset, len] ∧ offset.toNat % 64 = 0 ∧ 96 ≤ len.toNat ∧
      len.toNat ≤ 65632 ∧ (len.toNat - 96) % 64 = 0 ∧ offset.toNat + len.toNat ≤ 2 ^ 24 ∧ image.length = len.toNat ∧
      imageOk image = true ∧ len.toNat = 96 + imageCode image ∧ s.ports.xip.version < imageVersion image ∧
      imageRom image = 0x0103) := by
  refine ⟨⟨_, _, _, ask' 0 0x03 0 [0x109] up, by decide +kernel⟩,
    ⟨_, _, _, _, _, _, ask' 0 0x04 7 [0x10002, 0x300800, 0] up, by decide +kernel, rfl, by decide +kernel⟩,
    ⟨_, _, _, ask' 0 0x53 0 [0x64FFFF, 0x03E80064, 0, 0, 0, 0, 0, 0, 0] up, by decide +kernel⟩,
    ⟨_, _, _, _, ask' 0 0x70 0 [15] up, rfl, by decide +kernel⟩,
    ⟨_, _, _, ask' 0 0x40 0x00040003 [1] up, by decide +kernel⟩,
    ⟨_, _, _, ask' 7 0x41 28 [] up, by decide +kernel⟩,
    ⟨_, _, _, ask' 7 0x43 0 [0, 0, 0, 0, 0, 0, 0, 0] up, by decide +kernel⟩,
    ⟨_, _, _, _, _, ask' 0 0xA0 0 [0xFFFF80, 96] up, rfl, ?_⟩⟩
  refine ⟨by decide, by decide, by decide, by decide, by decide, image_length, image_ok, ?_, ?_, ?_⟩
  · simp [image, header, imageCode, bytesNat]
  · simp [image, header, imageVersion, bytesNat]; decide
  · simp [image, header, imageRom, bytesNat]

/-! ### Witnesses: the fabric's opcodes -/

/-- Every sleeve holds its whole quota of tags. -/
def noTags : State := modFabric (fun f => { f with held := Vector.replicate 8 16 }) up

theorem witness_DrbgEnters :
    (∃ t p s, addlOk (s.cmdOf t.sl p) = true ∧ s.noAes = false ∧ s.fabric.tagRefusal t.sl 1 = none ∧ Admitted t 0x10 p s ∧
      argBits p.arg 0x3F03 = true) ∧
    (∃ t p s, addlOk (s.cmdOf t.sl p) = true ∧ s.noAes = false ∧ s.fabric.tagRefusal t.sl 1 = none ∧ Admitted t 0x12 p s ∧
      argBits p.arg 0x3F03 = true) ∧
    (∃ t p s, addlOk (s.cmdOf t.sl p) = true ∧ s.noAes = false ∧ s.fabric.tagRefusal t.sl 1 = none ∧ Admitted t 0x13 p s ∧
      argBits p.arg 0xFFFF3F03 = true ∧ s.pool.allFenced = false) ∧
    (∃ t p s, addlOk (s.cmdOf t.sl p) = true ∧ s.noAes = false ∧ s.fabric.tagRefusal t.sl 1 = none ∧ Admitted t 0x14 p s ∧
      argBits p.arg 0xFFFF3F03 = true ∧ s.pool.allFenced = false) ∧
    (∃ t p s, addlOk (s.cmdOf t.sl p) = true ∧ Admitted t 0x11 p s ∧ argBits p.arg 0x3 = true) ∧
    (∃ t p s, addlOk (s.cmdOf t.sl p) = true ∧ Admitted t 0x15 p s ∧ argBits p.arg 0xFFFF0000 = true ∧ p.params = [] ∧
      argNlen p.arg ≤ 1023 ∧ s.pool.allFenced = false ∧ s.fabric.tagRefusal t.sl 1 = none) ∧
    (∃ t p s, addlOk (s.cmdOf t.sl p) = true ∧ Admitted t 0x10 p s ∧ argBits p.arg 0x3F03 = true ∧ s.noAes = true) ∧
    (∃ t p s, addlOk (s.cmdOf t.sl p) = true ∧ Admitted t 0x12 p s ∧ argBits p.arg 0x3F03 = true ∧ s.noAes = true) ∧
    (∃ t p s, addlOk (s.cmdOf t.sl p) = true ∧ Admitted t 0x13 p s ∧ argBits p.arg 0xFFFF3F03 = true ∧ s.noAes = true) ∧
    (∃ t p s, addlOk (s.cmdOf t.sl p) = true ∧ Admitted t 0x13 p s ∧ argBits p.arg 0xFFFF3F03 = true ∧ s.noAes = false ∧
      s.pool.allFenced = false ∧ s.fabric.quotaOf t.sl < s.fabric.held.get t.sl + 1) :=
  ⟨⟨_, _, _, by decide +kernel, by decide +kernel, by decide +kernel, ask 0 0x10 0x3003 (List.replicate 12 1) up, by decide +kernel⟩,
    ⟨_, _, _, by decide +kernel, by decide +kernel, by decide +kernel, ask 1 0x12 0 [] up, by decide +kernel⟩,
    ⟨_, _, _, by decide +kernel, by decide +kernel, by decide +kernel, ask 2 0x13 0xFFFF0003 [] up, by decide +kernel⟩,
    ⟨_, _, _, by decide +kernel, by decide +kernel, by decide +kernel, ask 7 0x14 0x101 [0x01000000] up, by decide +kernel⟩,
    ⟨_, _, _, by decide +kernel, ask 0 0x11 3 [] up, by decide +kernel⟩,
    ⟨_, _, _, by decide +kernel, ask 0 0x15 0x03FF0000 [] up, by decide +kernel⟩,
    ⟨_, _, _, by decide +kernel, ask 0 0x10 0 [] noCores, by decide +kernel⟩,
    ⟨_, _, _, by decide +kernel, ask 0 0x12 0 [] noCores, by decide +kernel⟩,
    ⟨_, _, _, by decide +kernel, ask 0 0x13 0 [] noCores, by decide +kernel⟩,
    ⟨_, _, _, by decide +kernel, ask 0 0x13 0 [] noTags, by decide +kernel⟩⟩

theorem witness_PrioritySet :
    (∃ t p s, Admitted t 0x16 p s ∧ argBits p.arg 0x303 = true ∧ p.params = [] ∧ (s.inst t.sl (argInst p.arg)).owned = true) ∧
    (∃ t p s, Admitted t 0x16 p s ∧ argBits p.arg 0x303 = true ∧ p.params = [] ∧ (s.inst t.sl (argInst p.arg)).owned = false) :=
  ⟨⟨_, _, _, ask 1 0x16 0x303 [] (modInst 1 3 (fun x => { x with owned := true }) up), by decide +kernel⟩,
    ⟨_, _, _, ask 1 0x16 0 [] up, by decide +kernel⟩⟩

/-! ### Witnesses: pattern banks and streams -/

theorem witness_PatternWriteWrites :
    (∃ t p s first d r, Admitted t 0x20 p s ∧ p.params = first :: d :: r ∧ first.toNat ≤ 31 ∧
      first.toNat + (d :: r).length ≤ 32) ∧
    (∃ t p s, Admitted t 0x20 p s ∧ p.params.length < 2) ∧ (∃ t p s, Admitted t 0x20 p s ∧ 31 < (p.params.headD 0).toNat) ∧
    (∃ t p s, Admitted t 0x20 p s ∧ 32 < (p.params.headD 0).toNat + (p.params.length - 1)) :=
  ⟨⟨_, _, _, _, _, _, ask 0 0x20 0 [31, 7] up, rfl, by decide, by decide⟩, ⟨_, _, _, ask 0 0x20 0 [0] up, by decide +kernel⟩,
    ⟨_, _, _, ask 0 0x20 0 [32, 1] up, by decide +kernel⟩, ⟨_, _, _, ask 0 0x20 0 [31, 1, 2] up, by decide +kernel⟩⟩

/-- A running stream 0 of sleeve 0 that adds instance 1's tag at its next commit. -/
def streaming : State := modSleeve 0 (fun x => { x with
  shadow := vset x.shadow 0 0x3, streams := vset x.streams 0 { Stream.reset with
    running := true, pat0 := 0x1, tags := 0x1, chain := [⟨0, true, 0x1, 0⟩] } })
  (modFabric (fun f => { f with held := vset f.held 0 1 }) up)

theorem witness_PatternCommitCopies :
    let k (t : Take) (s : State) :=
      (allFours.map (fun n => bitCount (addedTags (s.sleeve t.sl) (s.sleeve t.sl).shadow n))).sum
    (∃ t p s, Admitted t 0x21 p s ∧ p.params = [] ∧ (∀ o ∈ s.fabric.ops, o.cmd ≠ some s.nextCmd) ∧
      s.fabric.tagRefusal t.sl (k t s) = none ∧ k t s = 1) ∧
    (∃ t p s, Admitted t 0x21 p s ∧ p.params = [] ∧ (∀ o ∈ s.fabric.ops, o.cmd ≠ some s.nextCmd) ∧ 0 < k t s ∧
      s.fabric.quotaOf t.sl < s.fabric.held.get t.sl + k t s) :=
  ⟨⟨_, _, _, ask 0 0x21 0 [] streaming, by decide +kernel⟩,
    ⟨_, _, _, ask 0 0x21 0 [] (modFabric (fun f => { f with held := vset f.held 0 16 }) streaming), by decide +kernel⟩⟩

theorem witness_StreamsStartAndStop :
    (∃ t p s, Admitted t 0x23 p s ∧ argBits p.arg 0x3 = true ∧ p.params = [] ∧
      (∀ o ∈ s.fabric.ops, o.cmd ≠ some s.nextCmd) ∧ ((s.sleeve t.sl).streams.get (argInst p.arg)).running = false ∧
      (s.sleeve t.sl).runs ≠ BitVec.allOnes 32 ∧ s.noAes = false ∧ s.fabric.tagRefusal t.sl
        (bitCount (patInst ((s.sleeve t.sl).live.get ⟨2 * (argInst p.arg).val, by omega⟩))) = none) ∧
    (∃ t p s, Admitted t 0x23 p s ∧ argBits p.arg 0x3 = true ∧ p.params = [] ∧
      ((s.sleeve t.sl).streams.get (argInst p.arg)).running = true) ∧
    (∃ t p s, Admitted t 0x24 p s ∧ argBits p.arg 0x3 = true ∧ p.params = [] ∧
      (∀ o ∈ s.fabric.ops, o.cmd ≠ some s.nextCmd) ∧ ((s.sleeve t.sl).streams.get (argInst p.arg)).running = false) ∧
    (∃ t p s, Admitted t 0x24 p s ∧ argBits p.arg 0x3 = true ∧ p.params = [] ∧
      (∀ o ∈ s.fabric.ops, o.cmd ≠ some s.nextCmd) ∧ ((s.sleeve t.sl).streams.get (argInst p.arg)).running = true ∧
      s.fabric.ops = []) :=
  ⟨⟨_, _, _, ask 0 0x23 3 [] streaming, by decide +kernel⟩, ⟨_, _, _, ask 0 0x23 0 [] streaming, by decide +kernel⟩,
    ⟨_, _, _, ask 0 0x24 3 [] streaming, by decide +kernel⟩, ⟨_, _, _, ask 0 0x24 0 [] streaming, by decide +kernel⟩⟩

/-! ### Witnesses: digest contexts -/

/-- A context of sleeve 0 in a state. -/
def ctx0 (x : Context) : State := modCtx 0 3 (fun _ => x) up

/-- The service path is idle and so is the context that a packet names. -/
def Idle (t : Take) (p : Packet) (s : State) : Prop :=
  s.digest.clearing = false ∧ (s.ctx t.sl (argInst p.arg)).cmd = none ∧ (s.ctx t.sl (argInst p.arg)).waitq = []

/-- Slot 3 holds an HMAC-SHA-512 key. -/
def keyed : State := { up with slots := vset up.slots 3 { up.slot 3 with owned := true, hash := 3 } }

theorem witness_DigestOpcodes :
    (∃ t p s, Idle t p s ∧ Admitted t 0x30 p s ∧ argBits p.arg 0x00011F33 = true ∧ p.params = [] ∧ field p.arg 4 2 ≠ 3 ∧
      field p.arg 8 5 = 0) ∧
    (∃ t p s slot, Idle t p s ∧ Admitted t 0x30 p s ∧ argBits p.arg 0x00011F33 = true ∧ p.params = [] ∧ field p.arg 4 2 = 3 ∧
      field p.arg 8 5 = slot.val ∧ slot.val / 4 = t.sl.val ∧ (s.slot slot).owned = true ∧
      (s.slot slot).health.st = .inService ∧ (s.slot slot).hash ≠ 0) ∧
    (∃ t p s, let x := s.ctx t.sl (argInst p.arg)
      Idle t p s ∧ Admitted t 0x31 p s ∧ argBits p.arg 0x3 = true ∧ p.params ≠ [] ∧ x.state = 1 ∧ x.final = false ∧
      (4 * p.params.length) % engineWord x.alg = 0 ∧ x.total + 4 * p.params.length ≤ 2 ^ 61 - 1 ∧ x.alg = 0 ∧
      x.buffer.length + (wordsBytes p.params).length < blockLen x.alg) ∧
    (∃ t p s, let x := s.ctx t.sl (argInst p.arg)
      Idle t p s ∧ Admitted t 0x31 p s ∧ argBits p.arg 0x3 = true ∧ p.params ≠ [] ∧ x.state = 1 ∧ x.final = false ∧
      (4 * p.params.length) % engineWord x.alg = 0 ∧ x.total + 4 * p.params.length ≤ 2 ^ 61 - 1 ∧ x.alg = 0 ∧
      blockLen x.alg ≤ x.buffer.length + (wordsBytes p.params).length ∧ s.svcUp = true) ∧
    (∃ t p s, let x := s.ctx t.sl (argInst p.arg)
      Idle t p s ∧ Admitted t 0x32 p s ∧ argBits p.arg 0x00700003 = true ∧ p.params.length ≤ 2 ∧ x.state = 1 ∧
      field p.arg 20 3 < engineWord x.alg ∧ (p.params = [] ∨ 4 * p.params.length = engineWord x.alg) ∧ s.svcUp = true) ∧
    (∃ t p s, let x := s.ctx t.sl (argInst p.arg)
      Idle t p s ∧ Admitted t 0x33 p s ∧ argBits p.arg 0x3 = true ∧ p.params = [] ∧ x.state = 1 ∧ x.hmac = none ∧
      x.count % blockLen x.alg = 0) ∧
    (∃ t p s alg, Idle t p s ∧ Admitted t 0x34 p s ∧ argBits p.arg 0x00010003 = true ∧ (p.params.headD 0).toNat = alg ∧
      alg ≤ 2 ∧ p.params.length = (if alg = 0 then 11 else 19) ∧
      bytesNat (((wordsBytes p.params).drop 4).take 8) % blockLen alg = 0) ∧
    (∃ t p s, let x := s.ctx t.sl (argInst p.arg)
      Idle t p s ∧ Admitted t 0x35 p s ∧ t.cmp = .clean ∧ argBits p.arg 0x3F000003 = true ∧ 4 ≤ field p.arg 24 6 ∧
      p.params.length = field p.arg 24 6 ∧ x.state = 2 ∧ 4 * field p.arg 24 6 ≤ digestLen x.alg ∧ s.svcUp = true) ∧
    (∃ p s, let t : Take := ⟨0, .bothZero, 1⟩
      Idle t p s ∧ Admitted t 0x35 p s ∧ p.auth = false ∧ argBits p.arg 0x3F000003 = true ∧ 4 ≤ field p.arg 24 6 ∧
      p.params.length = field p.arg 24 6 ∧ (s.ctx t.sl (argInst p.arg)).state = 2 ∧
      4 * field p.arg 24 6 ≤ digestLen (s.ctx t.sl (argInst p.arg)).alg ∧
      (s.digest.cores.get (svcSha t.core)).inSvc = true) := by
  simp only [Idle]
  have h := ask 0 0x35 0x04000003 [1, 2, 3, 4] (ctx0 { Context.reset with state := 2, result := List.replicate 32 7 })
  exact ⟨⟨_, _, _, by decide +kernel, ask 0 0x30 0x10023 [] up, by decide +kernel⟩,
    ⟨_, _, _, 3, by decide +kernel, ask 0 0x30 0x0333 [] keyed, by decide +kernel⟩,
    ⟨_, _, _, by decide +kernel, ask 0 0x31 3 (List.replicate 15 1) (ctx0 { Context.reset with state := 1 }), by decide +kernel⟩,
    ⟨_, _, _, by decide +kernel, ask 0 0x31 3 (List.replicate 16 1) (ctx0 { Context.reset with state := 1 }), by decide +kernel⟩,
    ⟨_, _, _, by decide +kernel, ask 0 0x32 0x00300003 [1] (ctx0 { Context.reset with state := 1 }), by decide +kernel⟩,
    ⟨_, _, _, by decide +kernel, ask 0 0x33 3 [] (ctx0 { Context.reset with state := 1, count := 64 }), by decide +kernel⟩,
    ⟨_, _, _, 2, by decide +kernel, ask 0 0x34 0x10003 ([2, 0, 128] ++ List.replicate 16 1) up, by decide +kernel⟩,
    ⟨_, _, _, by decide +kernel, h, by decide +kernel⟩,
    ⟨_, _, by decide +kernel, ⟨h.head, h.opcode, h.may, h.turn, h.checks, fun e => absurd e (by decide +kernel), h.fresh, h.inSeq⟩,
      by decide +kernel⟩⟩

/-! ### Witnesses: sleeves, threads, self-test and power -/

/-- HOLD at 5 V holds no energy for a commit. -/
def drained : State := modSupply (fun p => { p with hold10mV := 500 }) up

theorem witness_SleeveResets :
    (∃ t p s, Admitted t 0x05 p s ∧ argBits p.arg 0x7 = true ∧ p.params = [] ∧
      (s.sleeve (nth8 (field p.arg 0 3))).health.st ≠ .retired ∧ s.energyOk = true) ∧
    (∃ t p s, Admitted t 0x05 p s ∧ argBits p.arg 0x7 = true ∧ p.params = [] ∧
      (s.sleeve (nth8 (field p.arg 0 3))).health.st ≠ .retired ∧ s.energyOk = false) :=
  ⟨⟨_, _, _, ask' 0 0x05 7 [] up, by decide +kernel⟩, ⟨_, _, _, ask' 0 0x05 0 [] drained, by decide +kernel⟩⟩

/-- Thread 15 in a state. -/
def thread15 (st : UnitState) (used : Nat) (hold : Bool) : State :=
  modThread 15 (fun x => { x with health := { x.health with st := st, used := used }, custHold := hold }) up

theorem witness_ThreadsHeldAndReadmitted :
    (∃ t p s, Admitted t 0x51 p s ∧ argBits p.arg 0xF = true ∧ p.params = [] ∧
      (s.thread (argThread p.arg)).health.st = .inService) ∧
    (∃ t p s, Admitted t 0x51 p s ∧ argBits p.arg 0xF = true ∧ p.params = [] ∧
      (s.thread (argThread p.arg)).health.st = .quarantined ∧ (s.thread (argThread p.arg)).health.unhandled = false) ∧
    (∃ t p s, Admitted t 0x51 p s ∧ argBits p.arg 0xF = true ∧ p.params = [] ∧
      (s.thread (argThread p.arg)).health.st = .quarantined ∧ (s.thread (argThread p.arg)).custHold = false ∧
      (s.thread (argThread p.arg)).health.unhandled = true ∧ (s.thread (argThread p.arg)).health.again = true) ∧
    (∃ t p s, Admitted t 0x51 p s ∧ argBits p.arg 0xF = true ∧ p.params = [] ∧
      (s.thread (argThread p.arg)).health.st = .retired) ∧
    (∃ t p s, Admitted t 0x52 p s ∧ argBits p.arg 0xF = true ∧ p.params = [] ∧
      (s.thread (argThread p.arg)).health.st = .inService) ∧
    (∃ t p s, Admitted t 0x52 p s ∧ argBits p.arg 0xF = true ∧ p.params = [] ∧
      (s.thread (argThread p.arg)).health.st = .quarantined ∧ (s.thread (argThread p.arg)).custHold = false) ∧
    (∃ t p s, Admitted t 0x52 p s ∧ argBits p.arg 0xF = true ∧ p.params = [] ∧
      (s.thread (argThread p.arg)).health.st = .quarantined ∧ (s.thread (argThread p.arg)).custHold = true) ∧
    (∃ t p s, Admitted t 0x52 p s ∧ argBits p.arg 0xF = true ∧ p.params = [] ∧
      (s.thread (argThread p.arg)).health.st = .retired ∧ (s.thread (argThread p.arg)).health.used < 3 ∧
      s.sliceBusy ⟨(argThread p.arg).val, by omega⟩ = false ∧ s.readmitting (.thread (argThread p.arg)) = false) ∧
    (∃ t p s, Admitted t 0x52 p s ∧ argBits p.arg 0xF = true ∧ p.params = [] ∧
      (s.thread (argThread p.arg)).health.st = .retired ∧ 3 ≤ (s.thread (argThread p.arg)).health.used) :=
  ⟨⟨_, _, _, ask' 0 0x51 15 [] up, by decide +kernel⟩,
    ⟨_, _, _, ask' 0 0x51 15 [] (thread15 .quarantined 0 false), by decide +kernel⟩,
    ⟨_, _, _, ask' 0 0x51 15 [] (modThread 15 (fun x => { x with health := { x.health with unhandled := true, again := true } })
      (thread15 .quarantined 0 false)), by decide +kernel⟩,
    ⟨_, _, _, ask' 0 0x51 15 [] (thread15 .retired 0 false), by decide +kernel⟩,
    ⟨_, _, _, ask' 0 0x52 0 [] up, by decide +kernel⟩,
    ⟨_, _, _, ask' 0 0x52 15 [] (thread15 .quarantined 0 false), by decide +kernel⟩,
    ⟨_, _, _, ask' 0 0x52 15 [] (thread15 .quarantined 0 true), by decide +kernel⟩,
    ⟨_, _, _, ask' 0 0x52 15 [] (thread15 .retired 2 false), by decide +kernel⟩,
    ⟨_, _, _, ask' 0 0x52 15 [] (thread15 .retired 3 false), by decide +kernel⟩⟩

theorem witness_CaptureStarts :
    (∃ t p s m r, Admitted t 0x54 p s ∧ argBits p.arg 0x3F = true ∧ p.params = [m, r] ∧ m.toNat ≠ 0 ∧
      captureOk (argThread p.arg) (field p.arg 4 2) m.toNat r.toNat = true ∧ s.capture.active = false ∧
      ((s.thread (argThread p.arg)).health.st = .inService → s.floor.below = false ∧ s.wouldFall [argThread p.arg] = false) ∧
      s.pool.allFenced = false ∧ capturePockets (field p.arg 4 2) r.toNat m.toNat ≤ s.pool.avail 0 ∧
      capturePockets (field p.arg 4 2) r.toNat m.toNat + s.fabric.claims.length ≤ s.pool.freeCount ∧
      (s.thread (argThread p.arg)).readmit = false) ∧
    (∃ t p s m r, Admitted t 0x54 p s ∧ argBits p.arg 0x3F = true ∧ p.params = [m, r] ∧ m.toNat ≠ 0 ∧
      captureOk (argThread p.arg) (field p.arg 4 2) m.toNat r.toNat = true ∧ s.capture.active = true) :=
  ⟨⟨_, _, _, _, _, ask' 0 0x54 0x2F [4, 1024] (thread15 .retired 0 false), by decide +kernel, rfl, by decide, by decide +kernel⟩,
    ⟨_, _, _, _, _, ask' 0 0x54 0 [1, 1] (modCapture (fun c => { c with active := true }) up), by decide +kernel, rfl, by decide,
      by decide +kernel⟩⟩

/-- A retired counter core, instance and slot of sleeve 0, each with a readmission left. -/
def retiredUnits : State :=
  modInst 0 3 (fun x => { x with health := { x.health with st := .retired, used := 2 } })
    { noCores with slots := vset up.slots 31 { up.slot 31 with health := { (up.slot 31).health with st := .retired } } }

theorem witness_BistRequested :
    (∃ t p s, ∃ h : field p.arg 0 7 < 32, Admitted t 0x60 p s ∧ p.arg.getLsbD 7 = false ∧ argBits p.arg 0x001F1F7F = true ∧
      p.params = [] ∧ budgetsOk p.arg = true ∧ s.openVerdict ⟨field p.arg 0 7, h⟩ t.sl.val = none) ∧
    (∃ t p s, ∃ h : field p.arg 0 7 < 32, Admitted t 0x60 p s ∧ p.arg.getLsbD 7 = false ∧ argBits p.arg 0x001F1F7F = true ∧
      p.params = [] ∧ budgetsOk p.arg = true ∧ s.sliceBusy ⟨field p.arg 0 7, h⟩ = true) ∧
    (∃ t p s, ∃ k : Fin 32, Admitted t 0x60 p s ∧ p.arg.getLsbD 7 = true ∧ argBits p.arg 0x001F1FFF = true ∧ p.params = [] ∧
      budgetsOk p.arg = true ∧ field p.arg 0 7 = k.val ∧ 16 ≤ k.val ∧ s.readmittable k = true ∧ s.sliceBusy k = false ∧
      (s.readmitUnits k).any s.readmitting = false) ∧
    (∃ t p s, ∃ k : Fin 32, Admitted t 0x60 p s ∧ p.arg.getLsbD 7 = true ∧ argBits p.arg 0x001F1FFF = true ∧ p.params = [] ∧
      budgetsOk p.arg = true ∧ field p.arg 0 7 = k.val ∧ 16 ≤ k.val ∧ s.readmittable k = false) ∧
    (∃ t p s, ∃ (i : Sleeve) (k : Fin 4), Admitted t 0x60 p s ∧ p.arg.getLsbD 7 = true ∧ argBits p.arg 0x001F1FFF = true ∧
      p.params = [] ∧ budgetsOk p.arg = true ∧ field p.arg 0 7 = 32 + 4 * i.val + k.val ∧ (s.inst i k).health.st = .retired ∧
      (s.inst i k).health.used < 3 ∧ s.readmitting (.inst i k) = false) ∧
    (∃ t p s, ∃ k : Fin 32, Admitted t 0x60 p s ∧ p.arg.getLsbD 7 = true ∧ argBits p.arg 0x001F1FFF = true ∧ p.params = [] ∧
      budgetsOk p.arg = true ∧ field p.arg 0 7 = 64 + k.val ∧ (s.slot k).health.st = .retired ∧ (s.slot k).health.used < 3 ∧
      s.readmitting (.slot k) = false) :=
  ⟨⟨_, _, _, by decide +kernel, ask 7 0x60 0x10101F [] up, by decide +kernel⟩,
    ⟨_, _, _, by decide +kernel, ask 7 0x60 31 [] (modBist (fun b => { b with queue := [⟨31, .opened, 7, 4, 2, none, 0, false⟩] }) up),
      by decide +kernel⟩,
    ⟨_, _, _, 16, ask' 0 0x60 0x90 [] noCores, by decide +kernel⟩, ⟨_, _, _, 31, ask' 0 0x60 0x9F [] up, by decide +kernel⟩,
    ⟨_, _, _, 0, 3, ask' 0 0x60 0xA3 [] retiredUnits, by decide +kernel⟩,
    ⟨_, _, _, 31, ask' 0 0x60 0xDF [] retiredUnits, by decide +kernel⟩⟩

/-- A command of sleeve 3 in flight. -/
def waits : State := { up with
  cmds := [⟨5, 3, 0x10, 1, 1, 0, [], [], false, false, 0, false, 0, 10000000000, false, true⟩], nextCmd := 6 }

/-- Fold after a thermal trip with THERM_ACT 01, the die at 100 degrees C. -/
def hotFold : State := modSupply (fun p => { p with policy := 0x10000000, dieT := 164 })
  (modPower (fun p => { p with phase := .fold, foldTherm := true }) up)

theorem witness_FoldAndResume :
    (∃ t p s, Admitted t 0x71 p s ∧ argBits p.arg 0xFFFFFF = true ∧ p.params = [] ∧ s.capture.active = false ∧
      s.bist.active = [] ∧ s.cmds = []) ∧
    (∃ t p s, Admitted t 0x71 p s ∧ argBits p.arg 0xFFFFFF = true ∧ p.params = [] ∧ s.capture.active = false ∧
      s.bist.active = [] ∧ ∃ c ∈ s.cmds, c.id ≠ s.nextCmd) ∧
    (∃ t p s, Admitted t 0x71 p s ∧ argBits p.arg 0xFFFFFF = true ∧ p.params = [] ∧ s.capture.active = true) ∧
    (∃ t p s, Admitted t 0x72 p s ∧ p.params = [] ∧ s.power.phase ≠ .fold) ∧
    (∃ t p s, Admitted t 0x72 p s ∧ p.params = [] ∧ s.power.phase = .fold ∧ s.hostOnly = false) ∧
    (∃ t p s, Admitted t 0x72 p s ∧ p.params = [] ∧ s.power.phase = .fold ∧ s.hostOnly = true ∧ s.hot = true) :=
  ⟨⟨_, _, _, ask' 0 0x71 0xFFFFFF [] up, by decide +kernel⟩, ⟨_, _, _, ask' 0 0x71 0 [] waits, by decide +kernel⟩,
    ⟨_, _, _, ask' 0 0x71 0 [] (modCapture (fun c => { c with active := true }) up), by decide +kernel⟩,
    ⟨_, _, _, ask 3 0x72 0 [] up, by decide +kernel⟩,
    ⟨_, _, _, ask 3 0x72 0 [] (modPower (fun p => { p with phase := .fold }) up), by decide +kernel⟩,
    ⟨_, _, _, ask 0 0x72 0 [] hotFold, by decide +kernel⟩⟩

/-! ### Witnesses: log, push and port opcodes -/

/-- The handler's hand and queue are full of rank 2 events. -/
def handlerFull : State :=
  let e : Ev := ⟨0x0022, 2, 15, [], 0, none, none⟩
  modLog (fun l => { l with hand := some e, queue := List.replicate 8 e }) up

theorem witness_LogOpcodes :
    (∃ t p s, Admitted t 0x80 p s ∧ p.arg.getLsbD 7 = true ∧ argBits p.arg 0x87 = true ∧ p.params.length = 1 ∧
      1 ≤ field p.arg 0 3 ∧ field p.arg 0 3 ≤ 4 ∧ t.sl = 0) ∧
    (∃ t p s, Admitted t 0x80 p s ∧ p.arg.getLsbD 7 = true ∧ argBits p.arg 0x87 = true ∧ p.params.length = 1 ∧
      1 ≤ field p.arg 0 3 ∧ field p.arg 0 3 ≤ 4 ∧ t.sl ≠ 0) ∧
    (∃ t p s first count, Admitted t 0x82 p s ∧ p.params = [first, count] ∧ count.toNat ≠ 0 ∧ count.toNat ≤ 8192 ∧
      s.log.keyOk = true ∧ s.logSusp = false ∧ s.log.verify = none) ∧
    (∃ t p s first count, Admitted t 0x82 p s ∧ p.params = [first, count] ∧ count.toNat ≠ 0 ∧ count.toNat ≤ 8192 ∧
      s.log.keyOk = false) ∧
    (∃ t p s a b, Admitted t 0x81 p s ∧ p.params = [a, b] ∧ everySecond (s.sleeve t.sl).lastMark s.now = true ∧
      (placeEv { mkEv s 0x8001 t.sl.val (wordBytes a ++ wordBytes b) with cmd := some s.nextCmd } s.log).2 = true) ∧
    (∃ t p s a b, Admitted t 0x81 p s ∧ p.params = [a, b] ∧ everySecond (s.sleeve t.sl).lastMark s.now = true ∧
      (placeEv { mkEv s 0x8001 t.sl.val (wordBytes a ++ wordBytes b) with cmd := some s.nextCmd } s.log).2 = false) ∧
    (∃ t p s a b, Admitted t 0x81 p s ∧ p.params = [a, b] ∧ everySecond (s.sleeve t.sl).lastMark s.now = false) :=
  ⟨⟨_, _, _, ask 0 0x80 0x84 [0] up, by decide +kernel⟩, ⟨_, _, _, ask 7 0x80 0x81 [0] up, by decide +kernel⟩,
    ⟨_, _, _, _, _, ask 0 0x82 0 [0, 8192] (modLog (fun l => { l with keyOk := true }) up), rfl, by decide +kernel⟩,
    ⟨_, _, _, _, _, ask 0 0x82 0 [0, 1] (modLog (fun l => { l with keyOk := false }) up), rfl, by decide +kernel⟩,
    ⟨_, _, _, _, _, ask 2 0x81 0 [1, 2]
      (modSleeve 2 (fun x => { x with lastMark := some (10000000000 - 1000000) }) up), rfl, by decide +kernel⟩,
    ⟨_, _, _, _, _, ask 2 0x81 0 [1, 2] handlerFull, rfl, by decide +kernel⟩,
    ⟨_, _, _, _, _, ask 2 0x81 0 [1, 2]
      (modSleeve 2 (fun x => { x with lastMark := some (10000000000 - 999999) }) up), rfl, by decide +kernel⟩⟩

/-- Port M is retired, and lanes 2 to 7 of port A are out of service. -/
def fewLanes : State :=
  modPort 2 (fun x => { x with health := { x.health with st := .retired } })
    (modPorts (fun p => { p with lanes := p.lanes.mapFinIdx (fun k l _ =>
      if 2 ≤ k ∧ k < 8 then { l with health := { l.health with st := .quarantined } } else l) }) up)

/-- A window of sleeve 0's entry 3 is open. -/
def opened3 : State := modPush 0 3 (fun x => { x with opened := true }) up

theorem witness_PortOpcodes :
    (∀ n : Fin 4, ∀ b : Bool, ∃ t p s, Admitted t 0x90 p s ∧ argBits p.arg 0x303 = true ∧ p.params = [] ∧
      field p.arg 8 2 = n.val ∧ ((s.sleeve t.sl).pushes.get (argInst p.arg)).opened = b) ∧
    (∃ t p s, p.params = [] ∧ Admitted t 0x92 p s ∧ argBits p.arg 0x33 = true ∧ field p.arg 0 2 = 3 ∧ field p.arg 4 2 ≠ 0) ∧
    (∃ t p s, ∃ k : Fin 3, p.params = [] ∧ field p.arg 0 2 = k.val ∧ field p.arg 4 2 ≠ 0 ∧ ¬ (k = 2 ∧ field p.arg 4 2 = 3) ∧
      Admitted t 0x92 p s ∧ argBits p.arg 0x33 = true ∧ 2 ^ field p.arg 4 2 ≤ (s.lanesUp k).length ∧
      (s.ports.ports.get k).health.st ≠ .retired) ∧
    (∃ t p s, ∃ k : Fin 3, p.params = [] ∧ field p.arg 0 2 = k.val ∧ field p.arg 4 2 ≠ 0 ∧ ¬ (k = 2 ∧ field p.arg 4 2 = 3) ∧
      Admitted t 0x92 p s ∧ argBits p.arg 0x33 = true ∧ (s.lanesUp k).length < 2 ^ field p.arg 4 2) ∧
    (∃ t p s, ∃ k : Fin 3, p.params = [] ∧ field p.arg 0 2 = k.val ∧ field p.arg 4 2 ≠ 0 ∧ ¬ (k = 2 ∧ field p.arg 4 2 = 3) ∧
      Admitted t 0x92 p s ∧ argBits p.arg 0x33 = true ∧ (s.ports.ports.get k).health.st = .retired) ∧
    (∃ t p s, ∃ k : Fin 3, p.params = [] ∧ field p.arg 0 2 = k.val ∧ Admitted t 0x93 p s ∧ argBits p.arg 0x3 = true ∧
      (s.ports.ports.get k).health.st ≠ .retired) ∧
    (∃ t p s, ∃ k : Fin 3, p.params = [] ∧ field p.arg 0 2 = k.val ∧ Admitted t 0x93 p s ∧ argBits p.arg 0x3 = true ∧
      (s.ports.ports.get k).health.st = .retired) ∧
    (∃ t p s, p.params = [] ∧ Admitted t 0x92 p s ∧ argBits p.arg 0x33 = true ∧ field p.arg 4 2 = 0) ∧
    (∃ t p s, p.params = [] ∧ Admitted t 0x92 p s ∧ argBits p.arg 0x33 = true ∧ field p.arg 0 2 = 2 ∧ field p.arg 4 2 = 3) ∧
    (∃ t p s, p.params = [] ∧ Admitted t 0x93 p s ∧ argBits p.arg 0x3 = true ∧ field p.arg 0 2 = 3) := by
  refine ⟨fun n b => ?_, ⟨_, _, _, rfl, ask' 0 0x92 0x33 [] up, by decide +kernel⟩,
    ⟨_, _, _, 0, rfl, by decide +kernel, by decide +kernel, by decide +kernel, ask' 0 0x92 0x30 [] up, by decide +kernel⟩,
    ⟨_, _, _, 0, rfl, by decide +kernel, by decide +kernel, by decide +kernel, ask' 0 0x92 0x20 [] fewLanes, by decide +kernel⟩,
    ⟨_, _, _, 2, rfl, by decide +kernel, by decide +kernel, by decide +kernel, ask' 0 0x92 0x22 [] fewLanes, by decide +kernel⟩,
    ⟨_, _, _, 1, rfl, by decide +kernel, ask' 0 0x93 1 [] up, by decide +kernel⟩,
    ⟨_, _, _, 2, rfl, by decide +kernel, ask' 0 0x93 2 [] fewLanes, by decide +kernel⟩,
    ⟨_, _, _, rfl, ask' 0 0x92 0x03 [] up, by decide +kernel⟩, ⟨_, _, _, rfl, ask' 0 0x92 0x32 [] up, by decide +kernel⟩,
    ⟨_, _, _, rfl, ask' 0 0x93 3 [] up, by decide +kernel⟩⟩
  exact match n, b with
    | 0, false => ⟨_, _, _, ask 0 0x90 0x003 [] up, by decide +kernel⟩
    | 1, false => ⟨_, _, _, ask 0 0x90 0x103 [] up, by decide +kernel⟩
    | 2, false => ⟨_, _, _, ask 0 0x90 0x203 [] up, by decide +kernel⟩
    | 3, false => ⟨_, _, _, ask 0 0x90 0x303 [] up, by decide +kernel⟩
    | 0, true => ⟨_, _, _, ask 0 0x90 0x003 [] opened3, by decide +kernel⟩
    | 1, true => ⟨_, _, _, ask 0 0x90 0x103 [] opened3, by decide +kernel⟩
    | 2, true => ⟨_, _, _, ask 0 0x90 0x203 [] opened3, by decide +kernel⟩
    | 3, true => ⟨_, _, _, ask 0 0x90 0x303 [] opened3, by decide +kernel⟩

/-! ### Witnesses: frames -/

/-- Select 0 (A.CS0) shows a page. -/
def page (n : Nat) (s : State) : State := modSel 0 (fun x => { x with page := BitVec.ofNat 8 n }) s

/-- Sleeve 0's queue is full. -/
def queueFull (removing : Bool) : State :=
  modSleeve 0 (fun x => { x with cmdq := List.replicate 8 ⟨[], 0⟩, removing := removing }) up

/-- A WRITE_REG or PUSH_CMD whose CRC is right. -/
def frame (kind : Nat) (word : Fin 32) (count : Byte) (bytes : List Byte) : FrameIn :=
  ⟨0, crc32 (cmdByte kind word :: count :: bytes), false, []⟩

theorem witness_PushCommits :
    let f : FrameIn := frame 2 0 69 []
    let ok (s : State) : Bool := s.serves 0 && decide (s.role 0 = 1) && !s.fencedSleeve 0
    (ok up = true ∧ f.aborted = false ∧ f.crc = crc32 (cmdByte 2 0 :: 69 :: []) ∧ 2 ≤ (69 : Byte).toNat ∧
      (69 : Byte).toNat ≤ 69 ∧ (up.sleeve 0).cmdq.length + bit (up.sleeve 0).removing < up.queuePlaces) ∧
    (ok (queueFull true) = true ∧ ((queueFull true).sleeve 0).removing = true ∧ ((queueFull true).sleeve 0).heldPush = [] ∧
      (queueFull true).queuePlaces ≤ ((queueFull true).sleeve 0).cmdq.length + 1) ∧
    (ok (queueFull false) = true ∧ ((queueFull false).sleeve 0).removing = false ∧
      (queueFull false).queuePlaces ≤ ((queueFull false).sleeve 0).cmdq.length + 0) ∧
    (∃ s : State, ok s = true ∧ (s.sleeve 0).removing = true ∧ (s.sleeve 0).heldPush ≠ [] ∧
      s.queuePlaces ≤ (s.sleeve 0).cmdq.length + 1) ∧
    (up.serves 0 = true ∧ (⟨0, 0, true, []⟩ : FrameIn).aborted = true) ∧
    (ok up = true ∧ (⟨0, 0, false, []⟩ : FrameIn).crc ≠ crc32 [cmdByte 2 0, 2]) ∧
    (∃ s : State, s.serves 0 = true ∧ s.role 0 ≠ 1) := by
  refine ⟨?_, ?_, ?_, ⟨modSleeve 0 (fun x => { x with heldPush := [(⟨[], 0⟩, 0)] }) (queueFull true), ?_⟩, ?_, ?_,
    modPorts (fun p => { p with routes := vset p.routes 0 ⟨0, 0⟩ }) up, ?_⟩ <;> decide +kernel

def reply1 : Reply := ⟨1, 0, 5, 1, 0, false, false, false, false, [1, 2, 3], [], 0, []⟩
def answered : State := modSleeve 0 (fun x => { x with replies := [reply1] }) up

/-- Two replies wait for sleeve 0; its first has lost its pocket. -/
def answeredTwice : State := modSleeve 0 (fun x => { x with replies := [reply1, { reply1 with tag := 6 }] }) up
def lostPocket : Reply := { reply1 with pockets := [7, 4096], pocketLen := 80 }

theorem witness_PopDelivers :
    (answered.serves 0 = true ∧ answered.early 0 = false ∧ answered.role 0 = 1 ∧ answered.fencedSleeve 0 = false ∧
      (answered.sleeve (answered.selSleeve 0)).replies = reply1 :: [] ∧ 4096 ∉ reply1.pockets ∧
      0 < (answered.replyBytes 0 reply1).length) ∧
    (∃ s : State, s.serves 0 = true ∧ s.early 0 = false ∧ s.role 0 = 1 ∧ s.fencedSleeve 0 = false ∧
      (s.sleeve (s.selSleeve 0)).replies = lostPocket :: [] ∧ 4096 ∈ lostPocket.pockets) ∧
    (let s := answeredTwice
     s.serves 0 = true ∧ s.early 0 = false ∧ s.role 0 = 1 ∧ s.fencedSleeve 0 = false ∧
      (s.sleeve (s.selSleeve 0)).replies = reply1 :: { reply1 with tag := 6 } :: [] ∧ (8 : Sel) ≠ 0 ∧ s.serves 8 = true ∧
      s.early 8 = false ∧ s.role 8 = 1 ∧ s.selSleeve 8 = s.selSleeve 0) ∧
    (up.serves 8 = true ∧ up.early 8 = false ∧ up.role 8 = 1 ∧ up.fencedSleeve 8 = false ∧
      (up.sleeve (up.selSleeve 8)).replies = []) := by
  refine ⟨by decide +kernel, ⟨modSleeve 0 (fun x => { x with replies := [lostPocket] }) up, by decide +kernel⟩,
    by decide +kernel, by decide +kernel⟩

/-- Stream 3 of sleeve 0 has one ready record of one pocket. -/
def recordReady : State :=
  modPool (fun p => { p with claimed := [⟨0, 0, List.replicate 64 7, true⟩] })
    (modSleeve 0 (fun x => { x with streams := vset x.streams 3 { Stream.reset with
      running := true, chain := [⟨0, true, 0x1000, 0⟩] } }) up)

theorem witness_StreamReads :
    (up.serves 0 = true ∧ up.early 0 = false ∧ up.foldM 0 = false ∧ up.role 0 = 1 ∧ up.fencedSleeve 0 = false ∧
      (up.selSleeve 0 = 0 → up.capture.holds = false) ∧ ((up.sleeve 0).streams.get 3).running = false ∧
      ((up.sleeve 0).streams.get 3).chain = []) ∧
    (let s := recordReady
     let x := (s.sleeve 0).streams.get 3
     s.serves 0 = true ∧ s.early 0 = false ∧ s.foldM 0 = false ∧ s.role 0 = 1 ∧ s.fencedSleeve 0 = false ∧
      (s.selSleeve 0 = 0 → s.capture.holds = false) ∧ patPush x.pat0 = false ∧ x.frames = [⟨0, true, 0x1000, 0⟩] :: [] ∧
      x.headReady = true ∧ (∀ q ∈ [(⟨0, true, 0x1000, 0⟩ : Place)], patSeal q.pat0 = false) ∧
      (∀ q ∈ [(⟨0, true, 0x1000, 0⟩ : Place)], ∃ k, s.pocket q.pocket = some k ∧ k.owner = s.selSleeve 0 ∧
        k.bytes.length = 64)) ∧
    (let s := modSleeve 0 (fun x => { x with streams := vset x.streams 3 { Stream.reset with
        running := true, chain := [⟨0, false, 0x1000, 0⟩] } }) up
     let x := (s.sleeve 0).streams.get 3
     patPush x.pat0 = false ∧ x.frames = [⟨0, false, 0x1000, 0⟩] :: [] ∧ x.headReady = false ∧
      (⟨0, false, 0x1000, 0⟩ : Place).dropped = false) := by
  refine ⟨by decide +kernel, ⟨by decide +kernel, by decide +kernel, by decide +kernel, by decide +kernel, by decide +kernel,
    by decide +kernel, by decide +kernel, by decide +kernel, by decide +kernel, by decide +kernel, fun q hq => ?_⟩, by decide +kernel⟩
  rw [List.mem_singleton.1 hq]
  exact ⟨⟨0, 0, List.replicate 64 7, true⟩, by decide +kernel⟩

/-- Every lane receives its pattern right at every phase. -/
def clearEyes : List (List (BitVec 1024)) := (List.range 8).map (fun l => List.replicate 32 (prbsLane l))

theorem witness_StatusAndTraining :
    (up.serves 8 = true ∧ up.early 8 = false ∧ up.role 8 ≠ 0) ∧
    (∃ s : State, s.serves 0 = true ∧ s.early 0 = true) ∧
    (∃ s : State, s.serves 0 = true ∧ s.early 0 = false ∧ s.role 0 = 0) ∧
    (up.trains (selPort 9) = true ∧ (up.sel 9).lastTrain = none) ∧
    (∃ (s : State) (t : Nat), s.trains 0 = true ∧ (s.ports.ports.get (selPort 0)).trained = true ∧ (s.sel 0).lastTrain = some t ∧
      s.now - t < 1000) ∧
    (∃ (s : State) (t : Nat), s.trains 0 = true ∧ (s.sel 0).lastTrain = some t ∧ 1000 ≤ s.now - t) ∧
    (let judged := judgeTrain (selPort 0) clearEyes (modSel 0 (fun x => { x with lastTrain := some up.now }) up)
     (judged.ports.ports.get (selPort 0)).health.st ≠ .retired ∧
      ∀ l ∈ portLanes (selPort 0), (judged.health (.lane (laneFin (selPort 0) l))).st ≠ .quarantined) := by
  refine ⟨by decide +kernel, ⟨modPower (fun p => { p with phase := .startup }) up, by decide +kernel⟩,
    ⟨modPorts (fun p => { p with routes := vset p.routes 0 ⟨0, 0⟩ }) up, by decide +kernel⟩, by decide +kernel,
    ⟨modSel 0 (fun x => { x with lastTrain := some (10000000000 - 999) }) up, 10000000000 - 999, by decide +kernel⟩,
    ⟨modSel 0 (fun x => { x with lastTrain := some (10000000000 - 1000) }) up, 10000000000 - 1000, by decide +kernel⟩, by decide +kernel⟩

theorem witness_WriteFrames :
    (up.serves 0 = true ∧ up.early 0 = false ∧ up.foldM 0 = false ∧ (frame 1 30 1 (wordsBytes [5, 0x10])).aborted = false) ∧
    (∀ k, k < [(5 : Word), 0x10].length → (page 0 up).mayWrite 0 (30 + k) ([5, 0x10].getD k 0) = true) ∧
    ((page 0 up).mayWrite 0 30 5 = true ∧ (page 0 up).mayWrite 0 31 0x11 = false) ∧
    ((⟨0, 0, false, []⟩ : FrameIn).crc ≠ crc32 (cmdByte 1 30 :: 0 :: wordsBytes [5])) ∧
    ((page 8 up).custodian 0 8 = true ∧ (page 16 up).custodian 0 16 = true ∧ field (16 : Word) 0 8 ≤ 16) := by
  decide +kernel

theorem witness_ReadRows :
    (up.serves 0 = true ∧ up.early 0 = false ∧ up.role 0 = 1 ∧ up.selSleeve 0 = 0) ∧ ((page 1 up).sel 0).page = 1 ∧
    ((page 8 up).sel 0).page = 8 ∧ ((page 16 up).sel 0).page = 16 := by decide +kernel

theorem witness_ResetKeyWrites : (page 0 up).custodian 0 0 = true ∧ (page 0 up).power.extest = false := by decide +kernel

theorem witness_DoorWrites :
    ((page 7 up).custodian 0 7 = true ∧ field (0 : Word) 0 2 = (page 7 up).lining.act) ∧
    field (3 : Word) 0 2 ≠ (page 7 up).lining.act ∧
    (∃ s : State, s.custodian 0 7 = true ∧ field (0x3FC : Word) 0 2 = s.lining.act ∧ s.lining.maint = 255 ∧
      s.lining.maintAt + 60000000 = s.now) ∧
    (page 9 up).custodian 0 9 = true := by
  refine ⟨by decide +kernel, by decide +kernel,
    ⟨modLining (fun l => { l with maint := 255, maintAt := 10000000000 - 60000000 }) (page 7 up), by decide +kernel⟩,
    by decide +kernel⟩

theorem witness_AlarmAcknowledged : ∃ s : State, s.custodian 0 0 = true ∧ s.log.alarm = true :=
  ⟨modLog (fun l => { l with alarm := true }) (page 0 up), by decide +kernel⟩

theorem witness_NorefWrites : ∃ s : State, s.custodian 0 1 = true ∧ (0 : Word).getLsbD 0 = false ∧ s.tally.running = true ∧
    s.tally.ref = false ∧ s.tally.noref = true ∧ s.tally.now.toNat + 2000 < 2 ^ 64 ∧ acceptRef 10000 10000 ≠ none :=
  ⟨modTally (fun t => { t with noref := true }) (page 1 up), by decide +kernel⟩

/-! ### Witnesses: supply and start-up -/

/-- `up` in another phase. -/
def during (p : Phase) : State := modPower (fun w => { w with phase := p, patchDone := false }) up

theorem image_recorded : recordedImage { Xip.reset with recLen := 96, recVersion := 1, recTag := image.drop 64 } image = true := by
  simp only [recordedImage, image_ok, image_length]
  simp [image, header, imageVersion, imageCode, bytesNat]

theorem witness_StartsAndServes :
    (State.reset.power.phase = .off ∧ 4300 < 4301 ∧ 4301 < 24000 ∧ 24500 < 24501) ∧ up.power.phase ≠ .off ∧
    4300 ≤ 4300 ∧ 24500 ≤ 24500 ∧ (∃ s : State, s.supply.ovOpen = true ∧ 24000 ≤ 24000) ∧
    (during .starting).power.phase = .starting ∧
    (∃ s : State, s.readyDue = true) ∧ up.readyDue = false ∧
    ((during .startup).power.phase = .startup ∧ (during .startup).power.patchDone = false ∧ (during .startup).coreRan 1 = true ∧
      recordedImage (during .startup).ports.xip [] = false) ∧
    (∃ s : State, s.power.phase = .startup ∧ s.power.patchDone = false ∧ s.coreRan 1 = true ∧
      recordedImage s.ports.xip image = true) := by
  refine ⟨by decide, by decide, by decide, by decide, ⟨modSupply (fun p => { p with ovOpen := true }) up, by decide⟩, by decide,
    ⟨modPower (fun w => { w with patchDone := true }) (during .startup), by decide +kernel⟩,
    by decide, ⟨by decide, by decide, by decide +kernel, rfl⟩,
    ⟨modXip (fun _ => { Xip.reset with recLen := 96, recVersion := 1, recTag := image.drop 64 }) (during .startup), ?_⟩⟩
  exact ⟨rfl, rfl, by decide +kernel, image_recorded⟩

def epochCopy : Copy := ⟨1, false, 0, 0, .number 5, true, true, true⟩
def policyCopy : Copy := ⟨1, false, 0, 0, .power 15, true, true, true⟩

/-- Records of the boot epoch and of the power policy stand in one location each. -/
def recorded : State := modLining (fun l => { l with
  mram := [⟨.bootEpoch, some epochCopy, none, some 0, 0, false⟩, ⟨.power, some policyCopy, none, some 0, 0, false⟩] })
  (during .regulated)

/-- Start-up with the boot epoch's commit due. -/
def bootDue : State := modLining (fun l => { l with
  bootDone := false, pending := [⟨.bootEpoch, .empty, false, .boot, none⟩] }) (during .startup)

theorem witness_LiningRestores :
    (during .regulated).power.phase = .regulated ∧
    ((during .regulated).pair .bootEpoch).loc0 = none ∧ ((during .regulated).pair .bootEpoch).loc1 = none ∧
    ((recorded.pair .bootEpoch).loc0 = some epochCopy ∧ (recorded.pair .bootEpoch).loc1 = none ∧ epochCopy.valid = true) ∧
    ((recorded.pair .power).loc0 = some policyCopy ∧ (recorded.pair .power).loc1 = none ∧ policyCopy.valid = true ∧
      policyCopy.bodyOk = true) ∧
    (bootDue.lining.pending = [⟨.bootEpoch, .empty, false, .boot, none⟩] ∧ bootDue.lining.bootDone = false ∧
      bootDue.lined = true ∧ bootDue.lining.writer = none ∧ bootDue.lining.zeroPend = false ∧ bootDue.energyOk = true ∧
      (bootDue.pair .bootEpoch).frozen = false) ∧
    (∃ s : State, s.lining.pending = [⟨.bootEpoch, .empty, false, .boot, none⟩] ∧ s.lining.bootDone = false ∧
      (s.pair .bootEpoch).frozen = true) ∧
    (modSupply (fun p => { p with hold10mV := 500 }) bootDue).energyOk = false ∧
    (∃ (p : Packet) (s : State), p.auth = true ∧ s.intakeFail 0 p = some stPowerDenied ∧ p.wellFormed = true ∧
      p.sleeve = 0 ∧ opDefined p.op = true ∧ opCust p.op p.arg = false ∧ s.power.phase = .serving ∧ s.lining.bootDone = false) := by
  refine ⟨by decide, by decide, by decide, by decide, by decide, by decide +kernel,
    ⟨modLining (fun l => { l with mram := [⟨.bootEpoch, none, none, none, 3, true⟩] }) bootDue, by decide +kernel⟩,
    by decide +kernel, ⟨⟨words 0 0x42 3 true [] ++ List.replicate 16 0, 0⟩, modPower (fun w => { w with phase := .serving }) bootDue, ?_⟩⟩
  decide +kernel

theorem witness_RailHolds :
    (∃ s : State, s.live = true ∧ s.supply.railUp = false ∧ s.power.railSkipped = false) ∧
    (∃ s : State, s.power.phase = .startup ∧ 250000 ≤ s.now ∧ 1959 < 1960 ∧ s.power.conditioned = false ∧ s.power.railSkipped = false) ∧
    (∃ s : State, s.live = true ∧ s.supply.railOk = true ∧ s.power.conditioned = false) ∧
    (up.live = true ∧ up.supply.railOk = true ∧ up.supply.ride = false) ∧
    (∃ s : State, s.live = true ∧ s.supply.railOk = false ∧ s.supply.ride = false ∧ s.supply.railUp = true ∧
      s.power.conditioned = true ∧ s.supply.railOutAt + 1000 = s.now) := by
  refine ⟨⟨modSupply (fun p => { p with railUp := false }) up, by decide⟩,
    ⟨modPower (fun w => { w with conditioned := false }) (during .startup), by decide⟩,
    ⟨modPower (fun w => { w with conditioned := false }) (during .startup), by decide⟩, by decide,
    ⟨modSupply (fun p => { p with railOk := false, railOutAt := 10000000000 - 1000 }) up, by decide⟩⟩

/-- Riding through since a time. -/
def riding (since : Nat) : State := modSupply (fun p => { p with ride := true, rideFrom := since, vinMv := 0 })
  (modLog (fun l => { l with keyOk := true }) up)

theorem witness_DipsRidden :
    (up.supply.ride = false ∧ up.rides = true ∧ up.supply.ovOpen = false) ∧
    ((during .startup).supply.ride = false ∧ (during .startup).rides = false ∧ (during .startup).power.phase ≠ .off) ∧
    (let s := riding (10000000000 - 20000)
     s.supply.ride = true ∧ s.supply.recovered 4301 = true ∧ s.now - s.supply.rideFrom ≤ s.supply.rideUs ∧
      s.supply.rideUs ≤ s.now - s.supply.rideFrom ∧ s.log.fenced = false ∧ s.logSusp = false ∧ s.log.keyOk = true) := by
  decide +kernel

theorem witness_ResetPin : up.live = true ∧ (during .inReset).power.phase = .inReset ∧ State.reset.power.phase = .off := by decide

/-- The door is armed with an action and no maintenance time. -/
def doorArmed (act : Nat) : State := modLining (fun l => { l with act := act, armed := true }) up

/-- A zeroization is pending. -/
def zeroizing : State := modLining (fun l => { l with zeroPend := true }) up

theorem witness_DoorAlarms :
    ((doorArmed 1).lined = true ∧ (doorArmed 1).lining.armed = true ∧ (doorArmed 1).lining.act = 1 ∧
      (doorArmed 1).lining.zeroPend = false) ∧
    ((doorArmed 2).lining.act = 2 ∧ (doorArmed 3).lining.act = 3 ∧ (doorArmed 3).lining.armed = true ∧
      (doorArmed 3).lining.maint = 0 ∧ (doorArmed 3).lining.zeroPend = false) ∧
    (∃ s : State, s.lined = true ∧ s.lining.armed = false ∧ s.lining.doorOpen = true) ∧
    (zeroizing.lined = true ∧ zeroizing.lining.zeroPend = true ∧ zeroizing.lining.writer = none ∧ 250 ≤ zeroizing.eavail ∧
      (zeroizing.pair .secretsEpoch).frozen = false) ∧
    (∃ s : State, s.lined = true ∧ s.lining.zeroPend = true ∧ (s.pair .secretsEpoch).frozen = true) ∧
    (modSupply (fun p => { p with hold10mV := 500 }) zeroizing).eavail < 250 ∧
    (∃ s : State, s.lined = true ∧ s.lining.zeroPend = true ∧ s.lining.writer ≠ none) := by
  refine ⟨by decide, by decide, ⟨modLining (fun l => { l with armed := false, doorOpen := true }) up, by decide⟩, by decide,
    ⟨modLining (fun l => { l with mram := [⟨.secretsEpoch, none, none, none, 3, true⟩] }) zeroizing, by decide +kernel⟩, by decide, ⟨modLining (fun l => { l with writer := some ⟨.power, .power 0, false, .power, none⟩ }) zeroizing, by decide⟩⟩

/-! ### Witnesses: fold and wake -/

/-- The fold's reply was posted at a time and waits in its queue. -/
def foldPosted (at_ : Nat) : State :=
  modSleeve 0 (fun x => { x with replies := [reply1] }) (modPower (fun w => { w with
    phase := .folding, foldReply := true, foldAt := at_, foldCmd := some 1 }) up)

def folded (therm : Bool) (dieT : Nat) : State := modSupply (fun p => { p with dieT := dieT })
  (modPower (fun w => { w with phase := .fold, foldTherm := therm, wakeAt := some 10000000000 }) up)

theorem witness_FoldAndWake :
    (let s := foldPosted (10000000000 - 10000)
     s.power.phase = .folding ∧ s.power.foldReply = true ∧ s.foldOver = true) ∧
    (let s := foldPosted (10000000000 - 9999)
     s.power.phase = .folding ∧ s.power.foldReply = true ∧ s.foldOver = false) ∧
    (let s := folded false 100
     s.power.phase = .fold ∧ s.power.foldTherm = false ∧ s.power.wakePin = false ∧ s.power.wakeAt = some 10000000000 ∧
      10000000000 ≤ s.now) ∧
    (∃ s : State, s.power.phase = .fold ∧ s.power.foldTherm = false ∧ s.power.wakePin = true) ∧
    (let s := folded true 163
     s.power.phase = .fold ∧ s.power.foldTherm = true ∧ s.hostOnly = false ∧ s.supply.dieT < 164) ∧
    (hotFold.power.phase = .fold ∧ hotFold.power.foldTherm = true ∧ hotFold.hostOnly = true) ∧
    164 ≤ (folded true 164).supply.dieT ∧
    ((during .waking).power.phase = .waking ∧ ∀ t, ((during .waking).thread t).decided = true) ∧
    (∃ s : State, s.power.phase = .waking ∧ ∃ t, (s.thread t).decided = false) := by
  refine ⟨by decide, by decide, by decide, ⟨modPower (fun w => { w with wakePin := true }) (folded false 100), by decide⟩,
    by decide, by decide, by decide, by decide, ⟨modThread 15 (fun x => { x with passed := false }) (during .waking), by decide⟩⟩

/-! ### Witnesses: the supply loop, Tally, the TAP and timeouts -/

theorem witness_BeltMoves :
    (up.live = true ∧ 600 ≤ up.supply.vcore ∧ up.supply.vcore ≤ 950 ∧ up.beltMoves = true) ∧
    (∃ s : State, s.live = true ∧ s.supply.vcore = 600 ∧ s.beltMoves = true ∧ s.supply.limitTh = true) ∧
    (∃ s : State, s.live = true ∧ s.supply.vcore = 950 ∧ s.beltMoves = true ∧ s.supply.ceiling 12000 < 20000) ∧
    (∃ s : State, s.live = true ∧ 600 ≤ s.supply.vcore ∧ s.supply.vcore ≤ 950 ∧ s.beltMoves = false) ∧
    (255 < 256 ∧ up.supply.limitTh = false ∧ up.ready = true ∧ up.power.foldTherm = false) := by
  refine ⟨by decide +kernel, ⟨modSupply (fun p => { p with vcore := 600, limitTh := true }) up, by decide +kernel⟩,
    ⟨modSupply (fun p => { p with vcore := 950 }) up, by decide +kernel⟩,
    ⟨modSupply (fun p => { p with vcore := 600 }) (folded false 100), by decide +kernel⟩, by decide⟩

theorem witness_HoldAndSources :
    (up.supply.ride = false ∧ up.ready = true ∧ up.supply.measuring = false ∧ up.supply.nextMeasure ≤ up.now ∧
      up.supply.charge = 2) ∧
    (∃ s : State, s.ready = true ∧ s.supply.measuring = false ∧ s.supply.nextMeasure = s.now ∧ s.supply.charge ≠ 2) ∧
    (∃ s : State, s.supply.ride = false ∧ s.live = true ∧ s.supply.charge = 5) ∧
    (∃ s : State, s.supply.ride = false ∧ s.live = true ∧ s.supply.measuring = true ∧ 4095 ≤ 4095) ∧
    (up.live = true ∧ up.supply.vinHigh = false ∧ 18500 < 18501) ∧
    (∃ s : State, s.live = true ∧ s.supply.vinHigh = true) ∧
    (up.tally.running = true ∧ up.tally.noref = false ∧ up.tally.ref = false ∧ up.tally.acqAt + 2000 ≤ up.now) ∧
    (∃ s : State, s.tally.running = true ∧ s.tally.noref = true) ∧
    (∃ s : State, s.tally.running = true ∧ s.now < s.tally.acqAt + 2000) ∧
    (∃ s : State, s.tally.running = true ∧ s.tally.ref = true ∧ s.tally.oscAt + 1000000 ≤ s.now) ∧
    (∃ s : State, s.tally.running = true ∧ s.now < s.tally.oscAt + 1000000) := by
  refine ⟨by decide, ⟨modSupply (fun p => { p with nextMeasure := 10000000000, charge := 0 }) up, by decide⟩,
    ⟨modSupply (fun p => { p with charge := 5 }) up, by decide⟩, ⟨modSupply (fun p => { p with measuring := true }) up, by decide⟩,
    by decide, ⟨modSupply (fun p => { p with vinHigh := true }) up, by decide⟩, by decide,
    ⟨modTally (fun t => { t with noref := true }) up, by decide⟩,
    ⟨modTally (fun t => { t with acqAt := 10000000000 - 1999 }) up, by decide⟩,
    ⟨modTally (fun t => { t with ref := true }) up, by decide⟩,
    ⟨modTally (fun t => { t with oscAt := 10000000000 - 999999 }) up, by decide⟩⟩

/-- The TAP's instruction is BIST_REQ or BIST_STAT. -/
def tap (code : BitVec 5) (p : Phase) : State := modBist (fun b => { b with ir := code }) (during p)

theorem witness_TapRequests :
    ((tap 0x10 .startup).power.phase ≠ .off ∧ (tap 0x10 .startup).bist.ir = 0x10 ∧
      (tap 0x10 .startup).power.phase ≠ .serving ∧ (0x80000000 : Word).getLsbD 31 = true) ∧
    ((tap 0x10 .serving).power.phase = .serving ∧ bistReqBitsOk 0x8010101F = true ∧ budgetsOk 0x8010101F = true ∧
      (tap 0x10 .serving).openVerdict 31 8 = none ∧ field (0x8010101F : Word) 0 7 = 31) ∧
    (32 ≤ field (0x80000020 : Word) 0 7 ∧ bistReqBitsOk 0x80000080 = false) ∧ (tap 0x11 .serving).bist.ir = 0x11 ∧
    (tap 2 .off).bist.ir = 2 ∧ (tap 2 .starting).power.phase ≠ .off := by
  decide +kernel

/-- A command in flight at a deadline, granted or not. -/
def late (deadline : Nat) (granted : Bool) : Cmd :=
  ⟨5, 3, 0x31, 1, 1, 0, [], [], false, false, 0, false, 0, deadline, granted, true⟩
def flies (c : Cmd) : State := { up with cmds := [c], nextCmd := 6 }

theorem witness_CommandsTimeOut :
    (let c := late 10000000000 false
     let s := flies c
     s.findCmd c.id = some c ∧ c.granted = false ∧ c.deadline ≤ s.now ∧ s.fabric.ops = [] ∧ s.lining.waiting = [] ∧
      s.bist.active = [] ∧ s.bist.readmits = [] ∧ (∀ k, (s.ctx c.sl k).cmd = none ∧ (s.ctx c.sl k).waitq = []) ∧ (s.digest.cores.get (svcSha 1)).inSvc = true) ∧
    (let c := late 10000000000 true
     (flies c).findCmd c.id = some c ∧ c.granted = true) ∧
    (let c := late 10000000001 false
     (flies c).findCmd c.id = some c ∧ (flies c).now < c.deadline) := by decide +kernel

/-! ### Witnesses: threads -/

/-- `up` with every thread as given. -/
def threadsAs (x : ThreadSt) : State := { up with threads := Vector.replicate 16 { x with passed := true } }

/-- A cutoff of the M-threads, or of the A-threads. -/
def cutoff (t : Thread) (m a : Nat) : Nat := if t.val < 12 then m else a

/-- Runs and windows one sample short of their cutoffs, and at their ends. -/
def nearRun : State := { up with threads := Vector.ofFn (fun t => { ThreadSt.reset with
  passed := true, rctCount := cutoff t 60 38, rctLast := true, aptPos := 1023, aptCount := 1 }) }
def nearWindow : State := { up with threads := Vector.ofFn (fun t => { ThreadSt.reset with
  passed := true, rctCount := 3, aptPos := 900, aptCount := cutoff t 812 683, aptRef := true }) }
def atEnds (pairs ones : Nat) : State := threadsAs { ThreadSt.reset with
  aptPos := 1024, driftPos := 4096, driftOnes := 2048, driftPairs := pairs, estPos := 65536, estOnes := ones
  estPairs := #v[ones / 8, ones / 8, ones / 8, ones / 8], servoPos := 65536, servoEnd := 14, servo := 127, servoOnes := 33793 }

theorem witness_SamplesTested :
    (∀ t : Thread, nearRun.samples t = true ∧ nearRun.captured t = false ∧ (nearRun.thread t).health.bist = false ∧
      (nearRun.thread t).test = .none ∧ (nearRun.thread t).aptPos < 1024 ∧ (nearRun.thread t).driftPos < 4096 ∧
      (nearRun.thread t).estPos < 65536 ∧ (nearRun.thread t).servoPos < 65536 ∧
      (nearRun.thread t).rctCount + 1 = (if t.val < 12 then 61 else 39) ∧ (nearRun.thread t).rctLast = true) ∧
    (∀ t : Thread, nearWindow.samples t = true ∧ nearWindow.captured t = false ∧ (nearWindow.thread t).health.bist = false ∧
      (nearWindow.thread t).test = .none ∧ (nearWindow.thread t).rctCount + 1 ≠ (if t.val < 12 then 61 else 39) ∧
      (nearWindow.thread t).aptCount + 1 = (if t.val < 12 then 813 else 684) ∧ (nearWindow.thread t).aptRef = true) ∧
    (∀ t : Thread, up.samples t = true ∧ up.captured t = false ∧ (up.thread t).aptCount + 1 ≠ (if t.val < 12 then 813 else 684)) ∧
    (∀ t : Thread, let s := atEnds (1024 + 195) 32768
      let x := s.thread t
      s.captured t = false ∧ x.test = .none ∧ x.aptPos = 1024 ∧ s.delivers t = true ∧ x.driftPos = 4096 ∧
      (t.val < 12 → driftFigure x < 196) ∧ (12 ≤ t.val → 184 ≤ driftFigure x) ∧ x.estPos = 65536 ∧
      (if t.val < 12 then 250 else 400) ≤ blockEstimate x.estOnes x.estPairs.toList ∧ x.servoPos = 65536 ∧ x.servoEnd < 15 ∧
      x.servo ≤ 127 ∧ x.health.bist = false ∧ x.health.st = .inService ∧ s.samples t = true) ∧
    (∃ (s : State) (t : Thread), s.samples t = true ∧ (s.thread t).health.bist = false ∧ (s.thread t).health.st = .inService ∧
      (s.thread t).test = .full ∧ (s.thread t).settleAt ≤ s.now) ∧
    (∀ t : Thread, let x := (atEnds 1024 65536).thread t
      driftFigure x < (if t.val < 12 then 196 else 184) ∧
      blockEstimate x.estOnes x.estPairs.toList < (if t.val < 12 then 250 else 400)) := by
  refine ⟨?_, ?_, ?_, ?_, ⟨modThread 0 (fun x => { x with test := .full }) up, 0, ?_⟩, ?_⟩ <;> decide +kernel

/-- Thread 15 under a test that is over. -/
def tested (test : TestKind) (st : UnitState) (bad readmit : Bool) : State :=
  modThread 15 (fun x => { x with
    test := test, testPos := 1024, testBad := bad, readmit := readmit, health := { x.health with st := st } }) up

/-- Every thread has produced this many samples in the period of 20 us that ends now. -/
def produced (n : Nat) : State := modFloor (fun f => { f with periodAt := 10000000000 - 20 })
  { up with threads := up.threads.map (fun x => { x with count := n }) }

/-- The below-floor condition is due to end. -/
def starved : State := modFloor (fun f => { f with below := true, okSince := some (10000000000 - 10000) }) up

theorem witness_TestsEnd :
    (∀ st ∈ [UnitState.quarantined, .inService], ∀ bad : Bool, let s := tested .short st bad false
      (s.thread 15).test = .short ∧ (s.thread 15).testOver = true ∧ (s.thread 15).custHold = false ∧
      (s.thread 15).health.st = st ∧ (s.thread 15).testBad = bad ∧ s.captured 15 = false ∧ s.recovers (.thread 15) = true) ∧
    (∃ s : State, (s.thread 15).test = .short ∧ (s.thread 15).testOver = true ∧ (s.thread 15).custHold = false ∧
      (s.thread 15).health.st = .quarantined ∧ s.recovers (.thread 15) = false) ∧
    (let s := tested .full .inService true false
     (s.thread 15).test = .full ∧ (s.thread 15).testOver = true ∧ (s.thread 15).readmit = false ∧
      (s.thread 15).health.st = .inService ∧ (s.thread 15).testBad = true) ∧
    (∀ readmit : Bool, let s := tested .full .inService false readmit
      (s.thread 15).test = .full ∧ (s.thread 15).testOver = true ∧ (s.thread 15).readmit = readmit ∧
      (s.thread 15).health.st = .inService ∧ (s.thread 15).testBad = false ∧ s.captured 15 = false) ∧
    (∃ s : State, s.capture.active = true ∧ s.capture.taken = s.capture.total) ∧
    (∃ s : State, s.capture.taken ≠ s.capture.total) ∧
    ((produced 0).running = true ∧ (produced 0).ready = true ∧ (produced 0).floor.periodAt + 20 ≤ (produced 0).now) ∧
    (∃ u, exec (.floorRatioUpdate ()) (produced 0) = .next u ∧
      ({ produced 0 with threads := u.threads } : State).isBelow ({ produced 0 with threads := u.threads } : State).creditSum
        = true) ∧
    (∃ u, exec (.floorRatioUpdate ()) (produced 4000) = .next u ∧
      ({ produced 4000 with threads := u.threads } : State).isBelow
        ({ produced 4000 with threads := u.threads } : State).creditSum = false) ∧
    (∃ s : State, s.now < s.floor.periodAt + 20) ∧
    (starved.floor.okSince = some (10000000000 - 10000) ∧ starved.ready = true ∧ starved.floor.below = true ∧
      10000000000 - 10000 + 10000 ≤ starved.now) ∧
    (∃ s : State, s.floor.okSince = some 10000000000 ∧ s.now < 10000000000 + 10000) := by
  refine ⟨by decide +kernel, ⟨modThread 15 (fun x => { x with health := { x.health with unhandled := true } })
      (tested .short .quarantined false false), by decide +kernel⟩, by decide +kernel, by decide +kernel,
    ⟨modCapture (fun c => { c with active := true, samples := 3, restarts := 1, taken := 3 }) up, by decide⟩,
    ⟨modCapture (fun c => { c with samples := 3, restarts := 1, taken := 2 }) up, by decide⟩, by decide,
    ⟨_, rfl, by decide +kernel⟩, ⟨_, rfl, by decide +kernel⟩,
    ⟨modFloor (fun f => { f with periodAt := 10000000000 - 19 }) up, by decide⟩, by decide,
    ⟨modFloor (fun f => { f with okSince := some 10000000000 }) up, by decide⟩⟩

/-! ### Witnesses: Yoke, the fabric and the pool -/

/-- An operation of sleeve 1's instance 2, and the fabric with it at the head. -/
def op1 (kind : OpKind) (phase : OpPhase) : Op :=
  ⟨4, 1, 2, kind, [], none, 64, false, false, some 5, phase, false, 0, 0, [], 0, [], false⟩
def works (o : Op) : State := modFabric (fun f => { f with ops := [o], nextOp := 5, drawers := [4] })
  (modInst 1 2 (fun x => { x with owned := true }) up)

/-- Thread 0 has a byte, thread 1 two, the open block stands one byte short of full, and the reservoir holds units. -/
def flowing (credit : Nat) : State :=
  modThread 0 (fun x => { x with release := [7] })
    (modYoke (fun y => { y with
      openBytes := [1], openCredit := credit, reservoir := [1, 2, 3]
      cores := vset y.cores 3 ⟨some [1, 2, 3], [5], 0, true⟩ }) (works (op1 .reseed .draw)))

theorem witness_EntropyFlows :
    (let s := dropLowCredit (flowing 0)
     s.yokeOpen = true ∧ s.nextGiver = some 0 ∧ (s.thread 0).release = [7] ∧ 0 + 8 * s.creditBit 0 < 576000) ∧
    (let s := dropLowCredit (flowing 575999)
     s.yokeOpen = true ∧ s.nextGiver = some 0 ∧ (s.thread 0).release = [7] ∧ 576000 ≤ 575999 + 8 * s.creditBit 0) ∧
    (∃ (s : State) (k : Fin 4) (ks : List (Fin 4)), s.yoke.waiting = [7] :: [] ∧ s.condTakers = k :: ks) ∧
    (((flowing 0).yoke.cores.get 3).block = some [1, 2, 3] ∧ ((flowing 0).yoke.cores.get 3).staged ≠ [] ∧
      ((flowing 0).yoke.cores.get 3).since + 50 ≤ (flowing 0).now ∧
      ((flowing 0).digest.cores.get (condSha 3)).st = .inService ∧ ((flowing 0).yoke.cores.get 3).kat = true) ∧
    ((flowing 0).running = true ∧ (flowing 0).floor.below = false ∧ (flowing 0).fabric.drawers[0]? = some 4 ∧
      (flowing 0).findOp 4 = some (op1 .reseed .draw) ∧ OpKind.reseed ≠ .getSeed ∧ 3 ≤ (flowing 0).yoke.reservoir.length) := by
  refine ⟨by decide +kernel, by decide +kernel, ⟨modYoke (fun y => { y with waiting := [[7]] }) up, 0, [1, 2, 3], by decide +kernel⟩,
    by decide +kernel, by decide +kernel⟩

theorem witness_FabricGrants :
    (let s := finishCounter 3 (works (op1 .generate .output))
     up.running = true ∧ s.counterFree 3 = true ∧ s.supply.share = 16 ∧ s.waitingUpdates.length < 2 ∧
      s.pick s.competing = some (op1 .generate .output) ∧ s.fabric.claims = [] ∧ s.pool.lowestFree = some 0) ∧
    (let s := finishCounter 3 (modFabric (fun f => { f with claims := [⟨9, some 0, [], false⟩] }) (works (op1 .generate .output)))
     s.counterFree 3 = true ∧ s.supply.share = 16 ∧ s.waitingUpdates.length < 2 ∧
      s.pick s.competing = some (op1 .generate .output) ∧ s.fabric.claims ≠ [] ∧ (op1 .generate .output).isStream = false) ∧
    (∃ (s : State) (x : Pocket), (op1 .generate .output).isStream = false ∧ s.pocket 7 = some x) ∧
    (let s := finishUpdateLane 3 (works (op1 .reseed .updSeed))
     (s.fabric.cores.get 3).health.inSvc = true ∧ s.pick s.waitingUpdates = some (op1 .reseed .updSeed)) ∧
    (let s := works (op1 .generate .booking)
     s.waitingBookings[0]? = some (op1 .generate .booking) ∧ s.pool.mayBook 1 (op1 .generate .booking).needs = true) ∧
    (∃ s : State, s.waitingBookings[0]? = some (op1 .generate .booking) ∧
      s.pool.mayBook 1 (op1 .generate .booking).needs = false) := by
  refine ⟨by decide +kernel, by decide +kernel, ⟨modPool (fun p => { p with claimed := [⟨7, 1, [], false⟩] }) up, ⟨7, 1, [], false⟩, by decide +kernel⟩,
    by decide +kernel, by decide +kernel,
    ⟨modPool (fun p => { p with per := vset p.per 1 { PoolSleeve.reset with bp := true, usedCnt := 4096 } })
      (works (op1 .generate .booking)), by decide +kernel⟩⟩

/-- A pocket being cleared, a torn one, a removal in progress, a stalled claim, and a sealed record to seal. -/
def pockets : State :=
  modSleeve 3 (fun x => { x with removing := true, streams := vset x.streams 3 { Stream.reset with
    running := true, chain := [⟨0, true, 0x1020, 0⟩], seals := [⟨0, some ([1], [2]), none⟩] } })
    (modPool (fun p => { p with clearing := [(4095, 3)], torn := BitVec.twoPow 4096 9 })
      (modFabric (fun f => { f with claims := [⟨4, some 3, [1], false⟩] }) (works (op1 .generate .output))))

theorem witness_PocketsMove :
    (pockets.fabric.claimRound.claims[0]? = some ⟨4, some 3, [1], false⟩ ∧ pockets.findOp 4 = some (op1 .generate .output) ∧
      pockets.pool.lowestFree = some 0) ∧
    (pockets.pool.clearing.find? (fun x => x.1 == 4095) = some (4095, 3) ∧
      (pockets.pool.banks.get (bankOf 4095)).masked = false) ∧
    (pockets.pool.torn.getLsbD 0 = false ∧ pockets.pool.torn.getLsbD 9 = true) ∧ (pockets.sleeve 3).removing = true ∧
    (∃ s : State, s.fabric.claimRound.claims[1]? = some ⟨4, some 2, [], true⟩) ∧
    (∃ s : State, s.fabric.claimRound.claims[0]? = some ⟨4, none, [1], false⟩ ∧ s.findOp 4 = some (op1 .generate .output) ∧
      s.pool.lowestFree = some 0) ∧
    (let x := (pockets.sleeve 3).streams.get 3
     x.numbered.find? (fun r => (x.sealNow r).isSome) = some (0, [⟨0, true, 0x1020, 0⟩]) ∧
      x.sealNow (0, [⟨0, true, 0x1020, 0⟩]) = some ([1], [2]) ∧ pockets.svcUp = true) := by
  refine ⟨by decide +kernel, by decide +kernel, by decide +kernel, by decide +kernel,
    ⟨modFabric (fun f => { f with claims := f.claims ++ [⟨4, some 2, [], true⟩] }) pockets, by decide +kernel⟩,
    ⟨modFabric (fun f => { f with claims := [⟨4, none, [1], false⟩] }) pockets, by decide +kernel⟩, by decide +kernel⟩

/-- Bank 15 with fifteen recent errors; quarantined with a scrub due; and masked with a pocket in use since a time. -/
def bank15 (b : Bank) : State := modBank 15 (fun _ => b) up
def masked (since : Nat) : State := modPool (fun p => { p with claimed := [⟨4095, 1, [], false⟩] })
  (bank15 { Bank.reset with masked := true, since := since })

theorem witness_BanksRecover :
    (∃ s : State, 0 + ((s.pool.banks.get 15).errors.filter (fun t => decide (s.now - t < 1000000))).length < 16 ∧
      16 ≤ 1 + ((s.pool.banks.get 15).errors.filter (fun t => decide (s.now - t < 1000000))).length ∧
      (s.pool.banks.get 15).health.st = .inService ∧ (s.pool.banks.get 15).health.bist = false) ∧
    (∃ s : State, (s.pool.banks.get 15).health.st = .quarantined ∧ (s.pool.banks.get 15).health.retest = true ∧
      (s.pool.banks.get 15).health.bist = false ∧ s.pool.bankIdle 15 = true ∧ s.recovers (.bank 15) = true) ∧
    (let s := masked (10000000000 - 100000)
     (s.pool.banks.get 15).masked = true ∧ s.pool.bankIdle 15 = false ∧ (s.pool.banks.get 15).since + 100000 ≤ s.now) ∧
    (let s := masked (10000000000 - 99999)
     s.now < (s.pool.banks.get 15).since + 100000) := by
  refine ⟨⟨bank15 { Bank.reset with errors := List.replicate 15 (10000000000 - 999999) }, by decide +kernel⟩,
    ⟨bank15 { Bank.reset with health := { Health.fresh with st := .quarantined, retest := true } }, by decide +kernel⟩,
    by decide +kernel, by decide +kernel⟩

/-! ### Witnesses: lanes, push windows and port F -/

/-- Entry 3 of sleeve 0 pushes stream 3 on port A to A.CS1: enabled, period 1 ms, offset 0, window 100 us, guard 0. Its stream
has a ready record, and its window 0 began at the given time. -/
def pushing (x : PushEntry) : State :=
  modPorts (fun p => { p with routes := vset p.routes 1 ⟨0, 2⟩ })
    (modSleeve 0 (fun y => { y with
      live := vset (vset (vset (vset y.live 20 0x117) 21 1000) 22 0) 23 100, pushes := vset y.pushes 3 x
      streams := vset y.streams 3 { Stream.reset with running := true, pat0 := 0x1800, chain := [⟨0, true, 0x1000, 0⟩] } }) up)

/-- An entry whose window 0 runs from a time for 100 us. -/
def open0 (start : Nat) (acked : Bool) (doublings : Nat) : PushEntry := { PushEntry.reset with
  epoch := start, opened := true, words := #v[0x117, 1000, 0, 100], spanStart := start, spanEnd := start + 100, acked := acked
  doublings := doublings }

/-- A transfer of the record of entry 3 waits on port A. -/
def transfer : MasterEntry := ⟨0, 3, false, 1, 3, 10000000099, 0, true⟩
def queued : State := modPort 0 (fun p => { p with queue := [transfer] }) (pushing (open0 (10000000000 - 1) true 0))

/-- A probe of entry 3 waits there. -/
def probe : MasterEntry := ⟨0, 3, true, 1, 3, 10000000099, 0, true⟩
def probing : State := modPort 0 (fun p => { p with queue := [probe] }) (pushing (open0 (10000000000 - 1) false 0))

/-- A patch of two lines is in force at offset 0, with the check of its last line. -/
def patched (checks : List (List Byte)) : State :=
  modXip (fun x => { x with version := 1, codeLen := 128, off := false, checks := checks }) up

theorem lineOk_last (line : List Byte) :
    (patched [[], lineCheck 1 (codeBase 0 + 64) line]).lineOk (codeBase 0 + 64 * 1) 1 line = true := by
  have h : (patched [[], lineCheck 1 (codeBase 0 + 64) line]).ports.xip.checks[1]? = some (lineCheck 1 (codeBase 0 + 64) line) := rfl
  have b : (patched [[], lineCheck 1 (codeBase 0 + 64) line]).lining.boot = 1 := rfl
  simp only [State.lineOk, h, b]
  simp

theorem witness_PushWindows :
    ((portIx .M = 2 → (3 : Fin 8).val < 4) ∧ (up.ports.ports.get (portIx .M)).on = true ∧
      (up.health (.lane (laneFin (portIx .M) 3))).st = .inService) ∧
    (let s := pushing { PushEntry.reset with epoch := 10000000000 - 1099, after := 10000000000 - 999 }
     let x := s.entry (0, 3)
     let w := (s.sleeve 0).pushWords 3
     let span := spanOf w ((s.sleeve 0).pushEpoch 3 w) x.doublings
     peEnabled w = true ∧ x.opened = false ∧ s.ready = true ∧ x.after ≤ (span 1).1 ∧ (span 0).1 < x.after ∧ (span 1).1 ≤ s.now ∧
      s.now < (span 1).2 ∧ s.pushResolves 0 w = true ∧ s.portMasters (pePort w) = true ∧ x.suspended = false ∧ x.lost = false) ∧
    (∃ s : State, let x := s.entry (0, 3)
      let w := (s.sleeve 0).pushWords 3
      let span := spanOf w ((s.sleeve 0).pushEpoch 3 w) x.doublings
      peEnabled w = true ∧ x.opened = false ∧ s.ready = true ∧ x.after ≤ (span 1).1 ∧ (span 0).2 ≤ s.now ∧ (span 1).1 ≤ s.now ∧
      s.now < (span 1).2 ∧ x.lost = true) ∧
    (let s := pushing (open0 (10000000000 - 1) false 0)
     let x := s.entry (0, 3)
     let p := pePort x.words
     let cfg := s.partnerCfg (pePartner x.words)
     s.holder p = some (0, 3) ∧ x.acked = false ∧ x.nextProbe ≤ s.now ∧ s.portMasters p = true ∧
      (s.ports.ports.get p).queue = [] ∧
      s.endsBy (2 * claimThirds + probeThirds cfg.1 + gapThirds + entryThirds cfg.1 cfg.2 (s.ports.ports.get p).width
        ((s.sleeve 0).streams.get (peStream x.words)).recordLen) x.spanEnd = true) ∧
    (let x := probing.entry (0, 3)
     let v := pushEngine (pePort x.words) probing
     probing.portMasters 0 = true ∧ (v.ports.ports.get 0).queue = probe :: [] ∧ x.opened = true ∧ x.acked = false ∧
      probing.endsBy (claimThirds + probeThirds probe.rate) probe.deadline = true ∧ (0x6 : BitVec 32).getLsbD 1 = true ∧
      (0x6 : BitVec 32).getLsbD 2 = true) ∧
    (((pushEngine 0 queued).ports.ports.get 0).queue = transfer :: [] ∧ queued.portMasters 0 = true ∧
      (pushEngine 0 queued).transferable 0 transfer = true) ∧
    (let s := pushing (open0 (10000000000 - 100) true 0)
     (s.entry (0, 3)).opened = true ∧ (s.entry (0, 3)).spanEnd ≤ s.now ∧ (s.entry (0, 3)).acked = true) ∧
    (∀ d ∈ [0, 2, 3], let s := pushing (open0 (10000000000 - 100) false d)
     (s.entry (0, 3)).opened = true ∧ (s.entry (0, 3)).spanEnd ≤ s.now ∧ (s.entry (0, 3)).acked = false ∧
      (s.entry (0, 3)).acts = [] ∧ s.portMasters (pePort (s.entry (0, 3)).words) = true ∧ (s.entry (0, 3)).doublings = d) ∧
    (queued.portMasters 0 = true ∧ ∃ c, selPort c = 0 ∧ (queued.route c).role = 2) ∧
    (let addr : Word := 0x01000080
     let s := patched []
     s.ports.xip.off = false ∧ s.ports.xip.version ≠ 0 ∧ codeBase 0 ≤ addr.toNat ∧ addr.toNat < codeBase 0 + 128 ∧
      (addr.toNat - codeBase 0) / 64 = 1 ∧ addr.toNat < 0x02000000 ∧ s.ports.xip.buffer = [] ∧ s.svcUp = true ∧
      s.power.phase ≠ .fold ∧
      1 ∉ s.ports.xip.f1only ∧ s.lineOk (codeBase 0 + 64 * 1) 1 [7] = false) ∧
    (∃ s : State, s.ports.xip.off = false ∧ s.ports.xip.version ≠ 0 ∧ s.ports.xip.buffer = [] ∧ 1 ∉ s.ports.xip.f1only ∧
      s.lineOk (codeBase 0 + 64 * 1) 1 [7] = true) ∧
    ((0x0100003F : Word).toNat < codeBase 0 ∧ codeBase 0 + 128 ≤ (0x010000C0 : Word).toNat ∧ (patched []).cmds = []) := by
  refine ⟨by decide +kernel, by decide +kernel,
    ⟨pushing { PushEntry.reset with epoch := 10000000000 - 1099, lost := true }, by decide +kernel⟩,
    by decide +kernel, by decide +kernel, by decide +kernel, by decide +kernel, by decide +kernel,
    ⟨by decide +kernel, 1, by decide +kernel, by decide +kernel⟩,
    ⟨rfl, by decide, by decide, by decide, by decide, by decide, rfl, by decide +kernel, by decide, by decide, rfl⟩,
    ⟨patched [[], lineCheck 1 (codeBase 0 + 64) [7]], rfl, by decide, rfl, by decide, lineOk_last [7]⟩,
    by decide, by decide, rfl⟩

/-! ### Witnesses: the journal -/

def policyCommit : Commit := ⟨.power, .power 15, false, .power, some 5⟩
def commits (c : Commit) : State := modLining (fun l => { l with writer := some c }) (flies (late 10000000000 false))
def waiting (c : Commit) (s : State) : State := modLining (fun l => { l with waiting := [c], pending := [c] }) s

theorem witness_JournalCommits :
    (let s := waiting policyCommit up
     s.lining.waiting[0]? = some policyCommit ∧ s.writerFree = true ∧ s.frozenRec .power = false ∧ s.lining.bootDone = true ∧
      s.energyOk = true ∧ s.commitOk policyCommit = true ∧ s.lining.pending = policyCommit :: []) ∧
    (∃ (s : State) (c : Commit), s.lining.waiting[0]? = some c ∧ s.writerFree = true ∧ s.frozenRec c.record = false ∧
      s.commitOk c = false) ∧
    (let s := waiting policyCommit drained
     s.lining.waiting[0]? = some policyCommit ∧ s.writerFree = true ∧ s.frozenRec .power = false ∧ s.energyOk = false ∧
      s.lining.pending = policyCommit :: []) ∧
    ((commits policyCommit).lining.writer = some policyCommit ∧ (commits policyCommit).copies policyCommit = [policyCommit] ∧
      policyCommit.why = .power ∧ policyCommit.body = .power 15) ∧
    (∃ (s : State) (c : Commit) (rs : List Route), s.lining.writer = some c ∧ s.copies c = [c] ∧ c.why = .route ∧ c.body = .route rs) ∧
    (∃ (s : State) (c : Commit) (k : Fin 32), s.lining.writer = some c ∧ s.copies c = [c] ∧ c.why = .keyLoad k ∧
      c.body = .slot 1 [1] [2] ∧ s.lining.zeroPend = false ∧ c.record = .slot k) ∧
    (∃ (s : State) (c : Commit) (o : Op), s.lining.writer = some c ∧ s.copies c = [c] ∧ c.why = .instantiate o.id ∧
      c.body = .inst true 1 2 ∧ s.lining.zeroPend = false ∧ s.fabric.ops = [o]) ∧
    (∃ s : State, s.lining.pending = policyCommit :: [] ∧ s.writerFree = true ∧ s.lining.bootDone = true ∧
      s.frozenRec .power = true) ∧
    (recorded.restorePair (recorded.pair .power)).body = some (.power 15) ∧ up.lined = true := by
  refine ⟨by decide +kernel, ⟨modPorts (fun p => { p with routes := Vector.replicate 10 ⟨0, 0⟩ }) (waiting ⟨.route, .empty, false, .route, none⟩ up), _, rfl, by decide +kernel, by decide +kernel,
      by decide +kernel⟩, by decide +kernel, by decide +kernel,
    ⟨commits ⟨.route, .route [⟨0, 1⟩], false, .route, none⟩, _, _, rfl, rfl, rfl, rfl⟩,
    ⟨commits ⟨.slot 31, .slot 1 [1] [2], true, .keyLoad 31, none⟩, _, 31, rfl, rfl, rfl, rfl, rfl, rfl⟩,
    ⟨modLining (fun l => { l with writer := some ⟨.inst 1 2, .inst true 1 2, true, .instantiate 4, none⟩ })
      (works (op1 .instantiate .commit)), _, _, rfl, rfl, rfl, rfl, rfl, rfl⟩,
    ⟨modLining (fun l => { l with mram := [⟨.power, none, none, none, 3, true⟩] }) (waiting policyCommit up), by decide +kernel⟩,
    by decide +kernel, by decide⟩

/-! ### Witnesses: units, the service path, BIST and containment -/

def hurt (st : UnitState) : Health := { Health.fresh with st := st, retest := true }

/-- An AES core, a service core and a sleeve that are quarantined, or retired, and due a re-test. -/
def hurtUnits (st : UnitState) : State :=
  modSleeve 7 (fun x => { x with health := hurt st })
    (modDigest (fun d => { d with cores := vset d.cores (svcSha 1) (hurt st) })
      (modFabric (fun f => { f with cores := vmod f.cores 3 (fun c => { c with health := hurt st }) }) up))

/-- An instance and a slot that reload from a copy, or find none. -/
def reloading (ok : Bool) : State :=
  { modInst 1 2 (fun x => { x with owned := true, copyOk := ok, health := hurt .quarantined }) up with
    slots := vset up.slots 31 { up.slot 31 with copyOk := ok, health := hurt .quarantined } }

theorem witness_UnitsRecover :
    ((up.fabric.cores.get 3).health.st = .inService ∧ (up.fabric.cores.get 3).health.bist = false) ∧
    (let s := hurtUnits .quarantined
     (s.fabric.cores.get 3).health.st = .quarantined ∧ (s.fabric.cores.get 3).health.retest = true ∧
      (s.fabric.cores.get 3).health.bist = false ∧ s.recovers (.aes 3) = true ∧
      (s.digest.cores.get (svcSha 1)).st = .quarantined ∧ (s.digest.cores.get (svcSha 1)).retest = true ∧
      (s.digest.cores.get (svcSha 1)).bist = false ∧ s.recovers (.sha (svcSha 1)) = true) ∧
    (up.svcOn (engineCore 15) = true ∧ (up.digest.cores.get (svcSha 1)).inSvc = true) ∧
    ((works (op1 .reseed .draw)).inst 1 2).health.st = .inService ∧ ((works (op1 .reseed .draw)).inst 1 2).owned = true ∧
    (up.slot 31).health.st = .inService ∧
    (∀ ok : Bool, let s := reloading ok
      s.pending = [] ∧ s.tally.running = true ∧ (s.inst 1 2).health.st = .quarantined ∧ (s.inst 1 2).health.retest = true ∧
      (s.inst 1 2).copyOk = ok ∧ s.recovers (.inst 1 2) = true ∧ (s.slot 31).health.st = .quarantined ∧
      (s.slot 31).health.retest = true ∧ (s.slot 31).copyOk = ok ∧ s.recovers (.slot 31) = true) := by decide +kernel

/-- Context 3 of sleeve 7 holds two blocks, and a log verification may wait before it. -/
def hashing (verify : Option (Nat × Word × Nat)) : State :=
  modLog (fun l => { l with verify := verify })
    (modCtx 7 3 (fun _ => { Context.reset with state := 1, buffer := List.replicate 128 1, cmd := some 5 })
      (modDigest (fun d => { d with engines := Vector.replicate 16 ⟨0, 10000000000, false, [], []⟩ })
        (flies (late 10000000000 false))))

theorem witness_ServiceWorks :
    (let s := hashing none
     s.svcOn (engineCore 15) = true ∧ s.rankedAbove < s.enginesUp ∧ s.digest.clearing = false ∧
      (s.digest.engines.get 15).katDue s.now = false ∧ s.log.verify = none ∧ s.nextContext = some (7, 3) ∧
      2 * blockLen (s.ctx 7 3).alg ≤ (s.ctx 7 3).buffer.length) ∧
    (∃ s : State, s.svcOn (engineCore 15) = true ∧ s.rankedAbove < s.enginesUp ∧ s.digest.clearing = false ∧
      (s.digest.engines.get 15).katDue s.now = false ∧ s.log.verify = none ∧ s.nextContext = none) ∧
    (let s := hashing (some (5, 0, 1))
     s.svcOn (engineCore 15) = true ∧ s.rankedAbove < s.enginesUp ∧ s.digest.clearing = false ∧
      (s.digest.engines.get 15).katDue s.now = false ∧ s.log.verify = some (5, 0, 1) ∧
      s.findCmd 5 = some (late 10000000000 false)) ∧
    (∃ s : State, s.enginesUp ≤ s.rankedAbove) ∧ (up.digest.cores.get (svcSha (engineCore 15))).inSvc = true ∧
    (∃ s : State, s.digest.clearing = true) ∧ up.digest.clearing = false := by
  refine ⟨by decide +kernel, ⟨modCtx 7 3 (fun _ => Context.reset) (hashing none), by decide +kernel⟩, by decide +kernel,
    ⟨modDigest (fun d => { d with cores := d.cores.map (fun _ => hurt .retired) }) up, by decide +kernel⟩, by decide +kernel,
    ⟨modDigest (fun d => { d with clearing := true }) up, rfl⟩, rfl⟩

/-- A run of slice 31 in each of its states. -/
def run31 (kind : RunKind) (drained : Bool) : Run := ⟨31, kind, 7, 4, 2, none, 9999000000, drained⟩
def runs (active queue : List Run) : State := modBist (fun b => { b with active := active, queue := queue }) up

theorem witness_BistRuns :
    (∃ s : State, s.running = true ∧ s.bist.active.length < 2 ∧ s.nextPowerRun = some 31) ∧
    (let s := runs [] [run31 .opened false]
     s.running = true ∧ s.bist.active.length < 2 ∧ s.nextPowerRun = none ∧ s.nextRun = some (run31 .opened false) ∧
      s.mayStart = true ∧ s.staleRuns = [run31 .opened false]) ∧
    2 ≤ (runs [run31 .opened false, run31 .opened true] []).bist.active.length ∧
    (let s := runs [run31 .opened false] []
     s.bist.active.find? (fun x => x.slice == 31 && !x.drained) = some (run31 .opened false) ∧ s.drained (run31 .opened false) = true ∧
      s.bist.active.find? (fun x => x.slice == 31) = some (run31 .opened false) ∧ s.supply.dieT < 189 ∧
      (run31 .opened false).drained = false) ∧
    (∃ (s : State) (r : Run), s.bist.active.find? (fun x => x.slice == 26 && !x.drained) = some r ∧ s.drained r = false) ∧
    (let s := runs [run31 .opened true] []
     s.bist.active.find? (fun x => x.slice == 31 && x.drained) = some (run31 .opened true) ∧ (run31 .opened true).kind = .opened) ∧
    (∃ s : State, s.bist.active.find? (fun x => x.slice == 31) = some (run31 .opened false) ∧ s.supply.dieT = 189) := by
  refine ⟨⟨modBist (fun b => { b with powerUp := [31] }) (during .startup), by decide +kernel⟩, by decide +kernel, by decide +kernel,
    by decide +kernel, ⟨modPool (fun p => { p with claimed := [⟨0, 1, [], false⟩] })
      (runs [{ run31 .opened false with slice := 26 }] []), _, rfl, by decide +kernel⟩,
    by decide +kernel, ⟨modSupply (fun p => { p with dieT := 189 }) (runs [run31 .opened false] []), by decide +kernel⟩⟩

/-- The handler holds an event of a rank, and its queue so many. -/
def handling (rank n : Nat) : State :=
  let e : Ev := ⟨0x0020, rank, 15, [], 0, none, none⟩
  modLog (fun l => { l with hand := some e, queue := List.replicate n e, keyOk := true }) up

theorem witness_FaultsContained :
    (up.live = true ∧ up.log.hand = none ∧ rankOf 0x5034 < 3) ∧
    (∃ h, (handling 0 7).log.hand = some h ∧ h.rank < rankOf 0x0020) ∧
    (∃ h, (handling 2 7).log.hand = some h ∧ rankOf 0x0020 ≤ h.rank ∧ (handling 2 7).log.queue.length < 8) ∧
    (∃ h, (handling 2 8).log.hand = some h ∧ rankOf 0x0020 ≤ h.rank ∧ 8 ≤ (handling 2 8).log.queue.length ∧
      rankOf 0x0020 ≤ lowestRank (handling 2 8).log.queue) ∧
    rankOf 0x0024 = 3 ∧
    (∃ s : State, s.log.queue = [] ∧ 0 < s.log.lostNow ∧ s.log.lostCmds = [] ∧
      ∀ x ∈ allUnits, (s.health x).st ≠ .quarantined) ∧ up.log.lostNow = 0 ∧
    (∃ ev, (handling 2 0).lined = true ∧ (handling 2 0).log.opening = [] ∧ (handling 2 0).log.hand = some ev ∧
      (handling 2 0).log.fenced = false ∧ (handling 2 0).svcUp = true ∧ (handling 2 0).log.keyOk = true) ∧
    (∃ (s : State) (ev : Ev), s.lined = true ∧ s.log.opening = [] ∧ s.log.hand = some ev ∧ s.log.fenced = true) ∧
    (up.lined = true ∧ (up.sleeve 7).health.st = .inService ∧ up.fabric.ops = []) ∧
    ((hurtUnits .retired).sleeve 7).health.st = .retired ∧ ((hurtUnits .retired).sleeve 7).health.retest = true ∧
    (((hurtUnits .quarantined).sleeve 7).health.retest = true ∧ ((hurtUnits .quarantined).sleeve 7).health.st = .quarantined ∧
      (hurtUnits .quarantined).recovers (.sleeve 7) = true) ∧
    (∃ s : State, (s.sleeve 7).health.retest = true ∧ (s.sleeve 7).health.st = .quarantined ∧ s.recovers (.sleeve 7) = false) := by
  refine ⟨by decide +kernel, ⟨_, rfl, by decide +kernel⟩, ⟨_, rfl, by decide +kernel⟩, ⟨_, rfl, by decide +kernel⟩, by decide +kernel,
    ⟨modLog (fun l => { l with lostNow := 1 }) up, by decide +kernel⟩, rfl, ⟨_, rfl, rfl, rfl, by decide +kernel⟩,
    ⟨modLog (fun l => { l with fenced := true }) (handling 2 0), _, rfl, rfl, rfl, rfl⟩, by decide +kernel, rfl, rfl, ⟨rfl, rfl, rfl⟩,
    modSleeve 7 (fun x => { x with health := { x.health with again := true } }) (hurtUnits .quarantined), rfl, rfl, rfl⟩

/-! ### Single steps -/

/-- A step with a command in front runs it; here a PING of sleeve 2 with one word answers OK with that word (R321). -/
theorem test_step_ping : (match step { asks 2 (plain 2 0 0 [0x01020304]) up with pending := [.ping ⟨2, .clean, 0⟩] } with
    | .next u => ((u.sleeve 2).replies.map (fun r => (r.status, r.tag, r.payload)), u.pending)
    | _ => ([], [])) = ([(0, 5, [1, 2, 3, 4])], []) := by decide +kernel

/-- With no command waiting Tally passes one microsecond. -/
theorem test_step_idle : (match step up with
    | .next u => u.tally.now.toNat
    | _ => 0) = 10000000001 := by decide +kernel

/-- From off, VIN above 4.3 V starts the module (R84). -/
theorem test_start : (match exec (.vinStartQualified 4301 false) State.reset with
    | .next u => decide (u.power.phase = .starting)
    | _ => false) = true := by decide +kernel

/-- An M-thread whose next equal sample makes a run of 61 trips (Table 5-2). -/
theorem test_run_trips : (match exec (.threadSample 0 1) nearRun with
    | .next u => (u.floor.trips, u.floor.lastThread, u.floor.lastKind)
    | _ => (0, 0, 9)) = (1, 0, 0) := by decide +kernel

/-- VCORE falls by one step of 10 mV where the die is limited (R103). -/
theorem test_belt_down : (match exec (.beltPeriod ⟨12000, 2200, 1000, 300, 60, 1100, 200, 100, false, false⟩)
      (modSupply (fun p => { p with limitTh := true }) up) with
    | .next u => u.supply.vcore
    | _ => 0) = 840 := by decide +kernel

/-- A rank 3 event raises the alarm and begins a clearing of cause 4 (R531). -/
theorem test_alarm : (match exec (.faultEvent 0x0024 15 []) up with
    | .next u => (u.log.alarm, u.digest.clearing, u.digest.clrLast)
    | _ => (false, false, 0)) = (true, true, 4) := by decide +kernel

end Sys2Proof.Tests
end

section
/-! SUPPORT. A change of one sleeve after another. -/

namespace Sys2Proof.Machine

/-- A change of one sleeve depends on that sleeve's present state alone. -/
theorem modSleeve_congr {i : Sleeve} {f g : SleeveSt → SleeveSt} {s : State} (h : f (s.sleeve i) = g (s.sleeve i)) :
    modSleeve i f s = modSleeve i g s := by
  simp only [modSleeve, vmod]
  rw [show f (s.sleeves.get i) = g (s.sleeves.get i) from h]

theorem modSleeve_modSleeve (i : Sleeve) (f g : SleeveSt → SleeveSt) (s : State) :
    modSleeve i f (modSleeve i g s) = modSleeve i (fun x => f (g x)) s := by
  simp [modSleeve, vmod]

/-- Changes that commute on a sleeve's state commute on the module's. -/
theorem modSleeve_comm {i : Sleeve} {f g : SleeveSt → SleeveSt} (h : ∀ x, f (g x) = g (f x)) (s : State) :
    modSleeve i f (modSleeve i g s) = modSleeve i g (modSleeve i f s) := by
  simp only [modSleeve_modSleeve, h]

end Sys2Proof.Machine
end

section
/-! SUPPORT. A refused opcode's answer, said once beside the executed one of `answer_takenBy`. -/

namespace Sys2Proof.Machine

/-- Only AUTH_FAIL and REPLAY are counted (Table 10-6). -/
theorem noteStatus_uncounted (i : Sleeve) (st : Byte) (s : State) (ha : st ≠ stAuthFail) (hr : st ≠ stReplay) :
    noteStatus i st s = s := by
  simp only [noteStatus, if_neg ha, if_neg hr]

/-- Settling the cache touches the consumed numbers and the cache of the command's sleeve alone. -/
theorem settleCache_eq {i : Sleeve} {c : Cmd} (hsl : c.sl = i) (r : Reply) (s : State) :
    ∃ consumed cache, settleCache c r s = modSleeve i (fun x => { x with consumed := consumed, cache := cache }) s := by
  subst hsl
  cases h : executed r.status with
  | true => exact ⟨_, _, by simp only [settleCache, h]; rfl⟩
  | false => exact ⟨_, _, by simp only [settleCache, h]; rfl⟩

/-- A command that is dropped may as well not have been changed before. -/
theorem dropCmd_modCmd (id : Nat) (f : Cmd → Cmd) (s : State) (hf : ∀ c, (f c).id = c.id) :
    dropCmd id (modCmd id f s) = dropCmd id s := by
  have hid (c : Cmd) : (if c.id = id then f c else c).id = c.id := by
    split
    · exact hf c
    · rfl
  have hcmds : (s.cmds.map (fun c => if c.id = id then f c else c)).filter (fun c => c.id != id) =
      s.cmds.filter (fun c => c.id != id) := by
    simp only [List.filter_map, Function.comp_def, hid]
    refine (List.map_congr_left fun c hc => ?_).trans (List.map_id _)
    exact if_neg (by simpa using (List.mem_filter.mp hc).2)
  simp only [dropCmd, modCmd, hcmds]

/-- A sleeve once a packet of it is taken: the packet gone, its number consumed, its command in the cache (R302, R304). -/
def SleeveSt.taking (x : SleeveSt) (id : Nat) (p : Packet) : SleeveSt :=
  { x.accept id p.tag p.seq with cmdq := x.cmdq.drop 1, removing := true }

theorem sleeve_takenBy (i : Sleeve) (p : Packet) (s : State) :
    (s.takenBy i p).sleeve i = (s.sleeve i).taking s.nextCmd p :=
  sleeve_modSleeve_same i _ _

/-- Without its command, a packet just taken leaves its mark on its sleeve, on Tailor's round and on the numbering. -/
theorem dropCmd_takenBy (i : Sleeve) (p : Packet) (s : State) :
    dropCmd s.nextCmd (s.takenBy i p) = modSleeve i (fun x => x.taking s.nextCmd p)
      { noteTake i s with cmds := s.cmds.filter (fun c => c.id != s.nextCmd), nextCmd := s.nextCmd + 1 } := by
  have hcmds : (s.cmdOf i p :: s.cmds).filter (fun c => c.id != s.nextCmd) = s.cmds.filter (fun c => c.id != s.nextCmd) :=
    List.filter_cons_of_neg (by simp [State.cmdOf])
  rw [State.takenBy, dropCmd_modCmd, ← hcmds]
  · rfl
  · exact fun _ => rfl

/-- The reply to the command just taken carries its status, its tag and number and its payload behind the echoed header, and a
seal or NOSEAL only where the packet asked for one (R298). -/
theorem answer_takenBy_posts (i : Sleeve) (p : Packet) (st : Byte) (payload : List Byte) (s : State) :
    ∃ r : Reply, answer s.nextCmd st payload (s.takenBy i p) =
        noteStatus i st (settleCache { s.cmdOf i p with accepted := true } r (post i r (dropCmd s.nextCmd (s.takenBy i p)))) ∧
      r.status = st ∧ r.tag = p.tag ∧ r.seq = p.seq ∧ r.retry = p.retry ∧
      r.payload = (if p.echo then p.bytes.take 12 else []) ++ payload ∧ r.pockets = [] ∧ r.pocketLen = 0 ∧
      r.cached = false ∧ r.gone = false ∧ (p.sealed = false → r.sealTag = [] ∧ r.noseal = false) := by
  let c : Cmd := { s.cmdOf i p with accepted := true }
  obtain ⟨tag, ns, hseal, hplain⟩ := sealReply_fields (s.takenBy i p) i p.sealed ((s.takenBy i p).cmdKeyOf i)
    (replyFor c st payload [] 0)
  refine ⟨{ replyFor c st payload [] 0 with sealTag := tag, noseal := ns }, ?_, rfl, rfl, rfl, rfl, ?_, rfl, rfl, rfl, rfl,
    hplain⟩
  · rw [← hseal]
    simp only [answer, answerP, answerWith, findCmd_takenBy]
    rfl
  · show (if p.echo then p.bytes.take 12 ++ payload else payload) = _
    split <;> rfl

/-- Ending the command just taken with an uncounted status posts its reply and does nothing else, whether its number stays
consumed or not (R302). -/
theorem answer_takenBy_uncounted (i : Sleeve) (p : Packet) (st : Byte) (payload : List Byte) (s : State)
    (ha : st ≠ stAuthFail) (hr : st ≠ stReplay) :
    Replied i p st payload s (answer s.nextCmd st payload (s.takenBy i p)) ∧
      OnlyAnswered i s (answer s.nextCmd st payload (s.takenBy i p)) := by
  obtain ⟨r, hans, hfields⟩ := answer_takenBy_posts i p st payload s
  obtain ⟨consumed, cache, hcache⟩ := settleCache_eq (i := i) (c := { s.cmdOf i p with accepted := true }) rfl r
    (post i r (dropCmd s.nextCmd (s.takenBy i p)))
  rw [hans, noteStatus_uncounted i st _ ha hr, hcache, dropCmd_takenBy]
  refine ⟨⟨r, ?_, hfields⟩, ?_⟩
  · simp only [post, sleeve_modSleeve_same]
    rfl
  · simp only [OnlyAnswered, post, modSleeve_modSleeve, sleeve_modSleeve_same]
    rfl

/-- A packet that was only answered leaves both pattern banks of its sleeve. -/
theorem OnlyAnswered.banks {i : Sleeve} {s t : State} (h : OnlyAnswered i s t) :
    (t.sleeve i).shadow = (s.sleeve i).shadow ∧ (t.sleeve i).live = (s.sleeve i).live := by
  rw [h]
  simp [State.sleeve]

end Sys2Proof.Machine
end

section
/-! SUPPORT. Taking a packet looks at no pattern bank, so a bank written after the take may as well have been written before it. -/

namespace Sys2Proof.Machine

/-- A sleeve's shadow bank replaced. -/
def setShadow (i : Sleeve) (v : Vector Word 32) : State → State := modSleeve i (fun x => { x with shadow := v })

/-- What Tailor looks at in a sleeve is not its shadow bank. -/
theorem intake_setShadow (i j : Sleeve) (v : Vector Word 32) (s : State) :
    (setShadow i v s).mayTake j = s.mayTake j ∧ ((setShadow i v s).sleeve j).cmdq = (s.sleeve j).cmdq ∧
      ((setShadow i v s).sleeve j).tmoUs = (s.sleeve j).tmoUs := by
  unfold State.mayTake setShadow
  by_cases h : i = j
  · subst h
    rw [sleeve_modSleeve_same]
    exact ⟨rfl, rfl, rfl⟩
  · rw [sleeve_modSleeve_ne _ _ _ _ h]
    exact ⟨rfl, rfl, rfl⟩

theorem noteTake_setShadow (i j : Sleeve) (v : Vector Word 32) (s : State) :
    noteTake i (setShadow j v s) = setShadow j v (noteTake i s) := by
  have hleft : (setShadow j v s).roundLeft = s.roundLeft := by
    simp only [State.roundLeft, intake_setShadow]
    rfl
  simp only [noteTake, hleft]
  rfl

theorem cmdOf_setShadow (i j : Sleeve) (p : Packet) (v : Vector Word 32) (s : State) :
    (setShadow j v s).cmdOf i p = s.cmdOf i p := by
  simp only [State.cmdOf, intake_setShadow]
  rfl

theorem takenBy_setShadow (i : Sleeve) (p : Packet) (v : Vector Word 32) (s : State) :
    (setShadow i v s).takenBy i p = setShadow i v (s.takenBy i p) := by
  simp only [State.takenBy, noteTake_setShadow, cmdOf_setShadow]
  exact congrArg (modCmd s.nextCmd (fun k => { k with accepted := true }))
    (modSleeve_comm (f := fun x => x.taking s.nextCmd p) (g := fun x => { x with shadow := v }) (fun _ => rfl)
      { noteTake i s with cmds := s.cmdOf i p :: s.cmds, nextCmd := s.nextCmd + 1 })

end Sys2Proof.Machine
end

section
/-! SUPPORT. PATTERN_WRITE and PATTERN_READ on the pattern banks (R268, R273). -/

namespace Sys2Proof.Machine

/-- A run that stays inside the bank replaces exactly its own words. -/
theorem get_writeBank (ws : List Word) (v : Vector Word 32) (n : Nat) (h : n + ws.length ≤ 32) (k : Fin 32) :
    (writeBank v n ws).get k = if n ≤ k.val ∧ k.val < n + ws.length then ws.getD (k.val - n) 0 else v.get k := by
  induction ws generalizing v n with
  | nil =>
    rw [if_neg (by rw [List.length_nil]; omega)]
    rfl
  | cons w ws ih =>
    rw [List.length_cons] at h ⊢
    have hn : n < 32 := by omega
    have hget : (v.set n w hn).get k = if (⟨n, hn⟩ : Fin 32) = k then w else v.get k := vget_vset v ⟨n, hn⟩ k w
    rw [writeBank, dif_pos hn, ih (v.set n w hn) (n + 1) (by omega), hget]
    obtain hlt | heq | hgt := Nat.lt_trichotomy k.val n
    · rw [if_neg (by omega), if_neg (Fin.ne_of_val_ne hlt.ne'), if_neg (by omega)]
    · rw [if_neg (by omega), if_pos (Fin.ext heq.symm), if_pos (by omega), heq, Nat.sub_self]
      rfl
    · rw [if_neg (Fin.ne_of_val_ne hgt.ne), show k.val - n = k.val - (n + 1) + 1 by omega,
        List.getD_cons_succ]
      congr 1
      simp only [eq_iff_iff]
      omega

/-- PATTERN_WRITE of a run inside the bank writes it and is answered OK. -/
theorem patternWriteBody_writes (c : Cmd) (s : State) (first d : Word) (r : List Word) (hp : c.params = first :: d :: r)
    (hfirst : first.toNat ≤ 31) (hrun : first.toNat + (d :: r).length ≤ 32) :
    patternWriteBody c s = answer c.id stOk []
      (modSleeve c.sl (fun x => { x with shadow := writeBank x.shadow first.toNat (d :: r) }) s) := by
  unfold patternWriteBody
  rw [hp]
  exact if_neg (by omega)

/-- PATTERN_WRITE without a data word, from an index above 31 or past word 31 is BAD_LENGTH. -/
theorem patternWriteBody_refuses (c : Cmd) (s : State)
    (h : c.params.length < 2 ∨ 31 < (c.params.headD 0).toNat ∨ 32 < (c.params.headD 0).toNat + (c.params.length - 1)) :
    patternWriteBody c s = answer c.id stBadLength [] s := by
  unfold patternWriteBody
  match hp : c.params with
  | [] => rfl
  | [_] => rfl
  | first :: d :: r =>
    rw [hp] at h
    simp only [List.length_cons, List.headD_cons] at h
    exact if_pos (by rw [List.length_cons]; omega)

/-- An admitted PATTERN_WRITE runs its body on the state that has taken the packet. -/
theorem exec_patternWrite_admitted (t : Take) (p : Packet) (s : State) (h : Admitted t 0x20 p s) :
    exec (.patternWrite t) s = .next (patternWriteBody (s.cmdOf t.sl p) (s.takenBy t.sl p)) :=
  congrArg Host.Outcome.next (takeOp_admitted t 0x20 p patternWriteBody s h)

/-- An admitted PATTERN_READ with no other ARG bit and no parameter runs its body on the state that has taken the packet. -/
theorem exec_patternRead_admitted (t : Take) (p : Packet) (s : State) (h : Admitted t 0x22 p s)
    (harg : argBits p.arg 0x1 = true) (hparams : p.params = []) :
    exec (.patternRead t) s = .next (patternReadBody (s.cmdOf t.sl p) (s.takenBy t.sl p)) := by
  have hbody : argOnly 0x1 patternReadBody (s.cmdOf t.sl p) (s.takenBy t.sl p) =
      patternReadBody (s.cmdOf t.sl p) (s.takenBy t.sl p) :=
    if_pos (by simp only [State.cmdOf, harg, hparams]; rfl)
  exact congrArg Host.Outcome.next ((takeOp_admitted t 0x22 p _ s h).trans hbody)

/-- An admitted PATTERN_WRITE inside the bank is answered OK, its words in the shadow bank and nothing else changed. -/
theorem patternWrite_answers (t : Take) (p : Packet) (s : State) (first d : Word) (r : List Word)
    (h : Admitted t 0x20 p s) (hp : p.params = first :: d :: r) (hfirst : first.toNat ≤ 31)
    (hrun : first.toNat + (d :: r).length ≤ 32) :
    ∃ u, exec (.patternWrite t) s = .next u ∧
      Answered t.sl p stOk [] (setShadow t.sl (writeBank (s.sleeve t.sl).shadow first.toNat (d :: r)) s) u := by
  refine ⟨_, exec_patternWrite_admitted t p s h, ?_⟩
  rw [patternWriteBody_writes _ _ first d r hp hfirst hrun]
  have hshadow : modSleeve t.sl (fun x => { x with shadow := writeBank x.shadow first.toNat (d :: r) }) (s.takenBy t.sl p) =
      (setShadow t.sl (writeBank (s.sleeve t.sl).shadow first.toNat (d :: r)) s).takenBy t.sl p := by
    rw [takenBy_setShadow]
    exact modSleeve_congr (by rw [sleeve_takenBy]; rfl)
  show Answered t.sl p stOk [] _ (answer s.nextCmd stOk [] (modSleeve t.sl _ (s.takenBy t.sl p)))
  rw [hshadow]
  exact answer_takenBy t.sl p stOk [] _ rfl

/-- Settles O16: the run is written word by word (`get_writeBank`), and a write after the take is a write before it
(`takenBy_setShadow`); a refusal is answered and touches no bank. -/
theorem patternWriteWrites : Obligations.PatternWriteWrites := by
  intro t p s h
  constructor
  · intro first d r hp hfirst hrun
    obtain ⟨u, hexec, hans⟩ := patternWrite_answers t p s first d r h hp hfirst hrun
    exact ⟨u, _, hexec, get_writeBank (d :: r) _ _ hrun, hans⟩
  · intro hbad
    obtain ⟨hreplied, honly⟩ := answer_takenBy_uncounted t.sl p stBadLength [] s (by decide) (by decide)
    refine ⟨_, ?_, hreplied, honly.banks⟩
    rw [exec_patternWrite_admitted t p s h, patternWriteBody_refuses _ _ hbad]
    rfl

/-- Settles O11: the banks that the opcode reads are those before the take, and OK has no other effect than its reply. -/
theorem patternReadReturnsBank : Obligations.PatternReadReturnsBank := by
  intro t p s h harg hparams bank
  refine ⟨_, exec_patternRead_admitted t p s h harg hparams, ?_⟩
  have hbank : (if p.arg.getLsbD 0 then ((s.takenBy t.sl p).sleeve t.sl).live else ((s.takenBy t.sl p).sleeve t.sl).shadow) =
      bank := by rw [sleeve_takenBy]; rfl
  have hbody : patternReadBody (s.cmdOf t.sl p) (s.takenBy t.sl p) =
      answer s.nextCmd stOk (wordsBytes bank.toList ++ wordBytes (crc32 (wordsBytes bank.toList))) (s.takenBy t.sl p) := by
    rw [← hbank]
    rfl
  rw [hbody]
  exact answer_takenBy t.sl p stOk _ s rfl

end Sys2Proof.Machine
end

section
/-! SUPPORT. A frame of the reserved kind (R391). -/

namespace Sys2Proof.Machine

/-- Driving neither data nor a trailer changes only the select's output; its frame counter stays. -/
theorem drive_nothing (c : Sel) (s : State) :
    drive c [] [] s = modSel c (fun x => { x with out := ⟨[], [], []⟩ }) s := rfl

/-- A reserved frame has no other effect than that of driving nothing. -/
theorem exec_reservedFrame (c : Sel) (s : State) : exec (.reservedFrame c) s = .next (drive c [] [] s) := rfl

/-- Settles O31: the frame drives nothing (`exec_reservedFrame`), which leaves everything but the select's output. -/
theorem reservedFrameIgnored : Obligations.ReservedFrameIgnored := by
  intro c s
  rw [exec_reservedFrame, drive_nothing]

end Sys2Proof.Machine
end

section
/-! SUPPORT. A write frame of one word on the custodian's select: what reaches the register (Table 13-3, R397). -/

namespace Sys2Proof.Machine

/-- What the select of `State.custodian` fulfils, by name. -/
theorem State.custodian_iff (s : State) (c : Sel) (page : Nat) :
    s.custodian c page = true ↔ s.serves c = true ∧ s.early c = false ∧ s.foldM c = false ∧ s.role c = 1 ∧
      s.selSleeve c = 0 ∧ (s.sel c).page.toNat = page := by
  simp only [State.custodian, Bool.and_eq_true, Bool.not_eq_true', decide_eq_true_eq, and_assoc]

/-- The custodian may write every word of pages 0 to 16 but PAGE, whatever the value (R394). -/
theorem mayWrite_custodian {s : State} {c : Sel} (hrole : s.role c = 1) (hsl : s.selSleeve c = 0) {page w : Nat}
    (hpage : page ≤ 16) (hw : w < 31) (v : Word) : s.mayWrite c (32 * page + w) v = true := by
  have hdiv : (32 * page + w) / 32 = page := by omega
  have hmod : (32 * page + w) % 32 = w := by omega
  simp [State.mayWrite, State.pageOk, hdiv, hmod, hrole, hsl, hpage, hw.ne]

/-- A frame that saw no lane moves no sampling point. -/
theorem trackLanes_unseen (f : FrameIn) (h : f.lanes = []) (s : State) : trackLanes f s = s := by
  simp only [trackLanes, h, List.filter_nil]
  split <;> rfl

/-- One word commits the same whether or not it ends the frame by a software reset. -/
theorem writeWords_one (c : Sel) (base : Nat) (hw : List HwUpdate) (k : Nat) (v : Word) (s : State) :
    writeWords c base hw k [v] s = writeWord c (base + k) v (wordHw k hw) s := by
  simp only [writeWords, ite_self]

/-- A one-word row on the custodian's select commits its word behind an OK trailer. -/
theorem writeOne_custodian {c : Sel} {page : Nat} {s : State} (h : s.custodian c page = true) (hpage : page ≤ 16)
    (word : Fin 32) (hword : word.val < 31) (v : Word) (hw : List HwUpdate) :
    writeOne c page word v hw s =
      writeWord c (32 * page + word.val) v (wordHw 0 hw) (endFrame c [] stOk 0 s) := by
  obtain ⟨hserves, hearly, hfold, hrole, hsl, hshown⟩ := (State.custodian_iff s c page).mp h
  have hallowed : s.offending c (32 * page + word.val) [v] = none := by
    simp [State.offending, mayWrite_custodian hrole hsl hpage hword v]
  simp [writeOne, writeFrame, trackLanes_unseen, hshown, hserves, hearly, hfold, hallowed, writeWords_one]

/-- One HS bit: a written 1 clears it, and a bit that hardware sets in the commit window stays (R65). -/
theorem hsBit_eq (lsb : Nat) (old : Bool) (v : Word) (h : WordHw) :
    hsBit lsb old v h = ((old && !v.getLsbD lsb) || h.sets.getLsbD lsb) := by
  cases old <;> simp [hsBit, hsField, hsWrite, bit]

@[simp] theorem endFrame_log (c : Sel) (data : List Byte) (st : Byte) (detail : Nat) (s : State) :
    (endFrame c data st detail s).log = s.log := rfl

end Sys2Proof.Machine
end

section
/-! SUPPORT. The acknowledgement of a rank 3 alarm (R532). -/

namespace Sys2Proof.Machine

/-- What meets the write of GBL_FAULT: a new alarm, which sets ALARM, or nothing. -/
def alarmHw (alarm : Bool) : List HwUpdate := if alarm then [.setBits 0 1] else []

theorem alarmHw_sets_alarm (alarm : Bool) : (wordHw 0 (alarmHw alarm)).sets.getLsbD 0 = alarm := by
  cases alarm <;> rfl

theorem alarmHw_not_sets_loss (alarm : Bool) : (wordHw 0 (alarmHw alarm)).sets.getLsbD 1 = false := by
  cases alarm <;> rfl

/-- A set ALARM bit is cleared by a write exactly if the write carries 1 and no new alarm meets it. -/
theorem alarm_cleared (old written alarm : Bool) : (old && !((old && !written) || alarm)) = (old && written && !alarm) := by
  cases old <;> simp

/-- A write of GBL_FAULT changes ALARM and LOSS as HS bits, and then writes 0xF060 if it cleared ALARM. -/
theorem writeFault_alarmHw (v : Word) (alarm : Bool) (s : State) :
    writeFault v (wordHw 0 (alarmHw alarm)) s =
      let u := modLog (fun l => { l with alarm := (l.alarm && !v.getLsbD 0) || alarm, loss := l.loss && !v.getLsbD 1 }) s
      if s.log.alarm && v.getLsbD 0 && !alarm then raise 0xF060 u else u := by
  simp only [writeFault, hsBit_eq, alarmHw_sets_alarm, alarmHw_not_sets_loss, Bool.or_false, alarm_cleared]
  rfl

/-- The acknowledging row on the custodian's select is the write of GBL_FAULT behind an OK trailer. -/
theorem exec_gblFaultAlarmAck {c : Sel} {s : State} (h : s.custodian c 0 = true) (v : Word) (alarm : Bool) :
    exec (.gblFaultAlarmAck c v alarm) s =
      .next (writeFault v (wordHw 0 (alarmHw alarm)) (endFrame c [] stOk 0 s)) :=
  congrArg Host.Outcome.next (writeOne_custodian h (by decide) 4 (by decide) v (alarmHw alarm))

/-- Settles O36: the frame reaches GBL_FAULT (`exec_gblFaultAlarmAck`), where ALARM is an HS bit and its clearing writes
the event (`writeFault_alarmHw`). -/
theorem alarmAcknowledged : Obligations.AlarmAcknowledged := by
  intro c v alarm s h
  refine ⟨?_, by decide⟩
  rw [exec_gblFaultAlarmAck h, writeFault_alarmHw, endFrame_log]

end Sys2Proof.Machine
end

section
/-! SUPPORT. Writes of TLY_CFG.NOREF, and the acquisition of REFCLK that a write of 0 starts (R591, R594). -/

namespace Sys2Proof.Machine

@[simp] theorem endFrame_tally (c : Sel) (data : List Byte) (st : Byte) (detail : Nat) (s : State) :
    (endFrame c data st detail s).tally = s.tally := rfl

/-- An event below rank 3 leaves Tally as it is. -/
theorem raise_tally {code : BitVec 16} (h : rankOf code ≠ 3) (s : State) : (raise code s).tally = s.tally := by
  rw [raise, raiseD_low code [] s h]

/-- The NOREF row on the custodian's select is the write of TLY_CFG behind an OK trailer. -/
theorem exec_tlyCfgNorefWrite {c : Sel} {s : State} (h : s.custodian c 1 = true) (v : Word) :
    exec (.tlyCfgNorefWrite c v) s = .next (writeNoref v (endFrame c [] stOk 0 s)) :=
  congrArg Host.Outcome.next (writeOne_custodian h (by decide) 3 (by decide) v [])

/-- A write of 0 where NOREF was 1 ends the refusal of REFCLK and starts its acquisition at the commit (R594). -/
theorem writeNoref_zero_tally (v : Word) (s : State) (hv : v.getLsbD 0 = false) (hnoref : s.tally.noref = true) :
    (writeNoref v s).tally = { s.tally with noref := false, acqAt := s.now } := by
  simp only [writeNoref, modTally_tally, hv, hnoref, Bool.not_false, Bool.and_true, if_true, State.now]

/-- Two windows in band take REFCLK into use 2 ms or more after its acquisition began (R591). -/
theorem exec_refclkFound_accepts (w1 w2 : Nat) (s : State) (hband : acceptRef w1 w2 ≠ none)
    (hrun : s.tally.running = true) (hnoref : s.tally.noref = false) (href : s.tally.ref = false)
    (hdue : s.tally.acqAt + 2000 ≤ s.now) :
    ∃ w, exec (.refclkFound (w1, w2)) s = .next w ∧ w.tally.ref = true := by
  obtain ⟨f25, hf⟩ := Option.ne_none_iff_exists'.mp hband
  refine ⟨raise 0xF080 (modTally (fun t => { t with
    ref := true, f25 := f25, present := true, evt := t.evt ||| 2, oscAt := s.now }) s), ?_, ?_⟩
  · change execRefclkFound (w1, w2) s = _
    simp [execRefclkFound, hf, hrun, hnoref, href, hdue]
  · rw [raise_tally (by decide), modTally_tally]

/-- Settles O37: the frame reaches TLY_CFG (`exec_tlyCfgNorefWrite`), and the acquisition that a write of 0 starts
(`writeNoref_zero_tally`) is 2 ms old when the windows close, so it accepts REFCLK (`exec_refclkFound_accepts`). -/
theorem norefWrites : Obligations.NorefWrites := by
  intro c v s h
  have hexec := exec_tlyCfgNorefWrite h v
  refine ⟨hexec, fun hv hrun href hnoref hnow w1 w2 hband => ?_⟩
  have htally := writeNoref_zero_tally v (endFrame c [] stOk 0 s) hv hnoref
  have hlater : (s.tally.now + 2000).toNat = s.tally.now.toNat + 2000 := by
    rw [BitVec.toNat_add]
    exact Nat.mod_eq_of_lt hnow
  exact ⟨_, exists_and_left.mpr ⟨hexec, exec_refclkFound_accepts w1 w2 _ hband
    (by rw [htally]; exact hrun) (by rw [htally]) (by rw [htally]; exact href) (by rw [htally]; exact hlater.ge)⟩⟩

end Sys2Proof.Machine
end

section
/-! SUPPORT. What no command touches: the queue of waiting commands, the invariant of `Sound`, and the parts that only the listed
commands change. -/

namespace Sys2Proof.Machine

/-- What the queue's law and the invariant of `Sound` speak of. -/
def State.anchors (s : State) : List Instr × Nat × Tally × List Pair × List LogEntry :=
  (s.pending, s.supply.vcore, s.tally, s.lining.mram, s.log.ring)

theorem anchors_eq_of_kept {s u : State} (h : u.kept = s.kept) : u.anchors = s.anchors := by
  simp only [State.kept, Kept.mk.injEq] at h
  obtain ⟨hq, ht, hm, hv, hr, -⟩ := h
  simp only [State.anchors, hq, ht, hm, hv, hr]

/-- From `s` to `u` the queue stays, and `u` meets the invariant if `s` does. -/
structure Safe (s u : State) : Prop where
  queue : u.pending = s.pending
  sound : Sound s → Sound u

theorem Safe.refl (s : State) : Safe s s := ⟨rfl, id⟩

theorem Safe.trans {s t u : State} (h : Safe s t) (h' : Safe t u) : Safe s u :=
  ⟨h'.queue.trans h.queue, fun hs => h'.sound (h.sound hs)⟩

theorem Safe.of_anchors {s u : State} (h : u.anchors = s.anchors) : Safe s u := by
  simp only [State.anchors, Prod.mk.injEq] at h
  obtain ⟨hq, hv, ht, hm, hr⟩ := h
  refine ⟨hq, fun ⟨vcore, stopped, refused, present, records, rows⟩ => ?_⟩
  constructor
  · rwa [hv]
  · rwa [ht]
  · rwa [ht]
  · rwa [ht]
  · rwa [hm]
  · rwa [hr]

theorem anchors_modYoke (f : Yoke → Yoke) (s : State) : (modYoke f s).anchors = s.anchors := rfl

theorem anchors_modFloor (f : Floor → Floor) (s : State) : (modFloor f s).anchors = s.anchors := rfl

theorem anchors_modPorts (f : Ports → Ports) (s : State) : (modPorts f s).anchors = s.anchors := rfl

theorem Safe.of_kept {s u : State} (h : u.kept = s.kept) : Safe s u := .of_anchors (anchors_eq_of_kept h)

/-- An operation that leaves the kept parts as they are may follow. -/
theorem Safe.step {s t u : State} (h : u.kept = t.kept) (hs : Safe s t) : Safe s u := hs.trans (.of_kept h)

theorem Safe.forAll {β : Type} {f : β → State → State} (h : ∀ x u, Safe u (f x u)) (l : List β) (s : State) :
    Safe s (forAll l f s) := by
  induction l generalizing s with
  | nil => exact .refl s
  | cons x l ih => exact (h x s).trans (ih (f x s))

theorem Safe.when' {c : Bool} {f : State → State} (h : ∀ u, Safe u (f u)) (s : State) : Safe s (when' c f s) := by
  cases c
  · exact .refl s
  · exact h s

/-! ### The lining's records -/

theorem safe_setPair (p : Pair) (s : State) : Safe s (setPair p s) where
  queue := rfl
  sound h := { h with records := of_decide_eq_true (insertPair_wf p _ (decide_eq_true h.records)) }

theorem safe_writeCopy (c : Commit) (s : State) : Safe s (writeCopy c s) := safe_setPair _ s

theorem safe_writeCopies (c : Commit) (s : State) : Safe s (writeCopies c s) := Safe.forAll safe_writeCopy _ s

theorem safe_finishWriter (s : State) : Safe s (finishWriter s) := by
  unfold finishWriter
  split
  · exact (safe_writeCopies _ s).trans (.of_kept rfl)
  · exact .refl s

theorem safe_noteWriteFail (r : RecId) (s : State) : Safe s (noteWriteFail r s) :=
  (safe_setPair _ s).trans (.of_kept ((kept_raiseD _ _ _).trans (kept_modLining _ _ rfl rfl rfl)))

/-- Damage of a copy changes no record's name. -/
theorem damaged_record (d : Damage) (p : Pair) :
    (if p.record = d.record then
      if d.loc = 0 then { p with loc0 := p.loc0.map (Copy.damage d.part) } else { p with loc1 := p.loc1.map (Copy.damage d.part) }
    else p).record = p.record := by
  (repeat' split) <;> rfl

theorem safe_applyDamage (d : Damage) (s : State) : Safe s (applyDamage d s) where
  queue := rfl
  sound h := by
    have records : ((applyDamage d s).lining.mram.map (fun p => recPlace p.record)).Pairwise (· < ·) := by
      simpa only [applyDamage, modLining_lining, List.map_map, Function.comp_def, damaged_record] using h.records
    exact { h with records := records }

theorem safe_loadEpoch (r : RecId) (x : Restored) (s : State) : Safe s (loadEpoch r x s) := by
  refine .of_anchors ?_
  unfold loadEpoch
  (repeat' split) <;> rfl

theorem safe_restoreRoutes (rs : List Route) (s : State) : Safe s (restoreRoutes rs s) := .of_anchors (anchors_modPorts _ s)

theorem safe_applyRoutes (rs : Vector Route 10) (s : State) : Safe s (applyRoutes rs s) := .of_anchors (anchors_modPorts _ s)

theorem safe_loadPolicy (b : Option Body) (s : State) : Safe s (loadPolicy b s) := by
  unfold loadPolicy
  split
  case h_1 => exact .of_kept (kept_applyQuotas _ _ _ _ _ s)
  case h_2 => exact .of_anchors ((anchors_modFloor _ _).trans (anchors_modYoke _ s))
  all_goals exact .of_anchors rfl

theorem safe_loadRecord (r : RecId) (x : Restored) (s : State) : Safe s (loadRecord r x s) := by
  cases r with
  | inst i k => exact .of_kept (kept_loadInst i k x s)
  | slot k => exact .of_kept (kept_loadSlotRec k x s)
  | cmdKey i => exact .of_kept (kept_loadCmdKey i x s)
  | logKey => exact .of_anchors rfl
  | route => exact safe_restoreRoutes _ s
  | quotas => exact safe_loadPolicy _ s
  | credit => exact safe_loadPolicy _ s
  | power => exact safe_loadPolicy _ s
  | door => exact safe_loadPolicy _ s
  | patch => exact safe_loadPolicy _ s
  | poolHem => exact safe_loadPolicy _ s
  | logRows => exact safe_loadPolicy _ s
  | banks b => exact .of_kept (kept_loadBank b x.body s)
  | secretsEpoch => exact .refl s
  | wrapEpoch i => exact .refl s
  | bootEpoch => exact .refl s
  | threads => exact .of_kept (kept_loadUnits _ x.body s)
  | aesCores => exact .of_kept (kept_loadUnits _ x.body s)
  | shaCores => exact .of_kept (kept_loadUnits _ x.body s)
  | lanes => exact .of_kept (kept_loadUnits _ x.body s)
  | ports => exact .of_kept (kept_loadUnits _ x.body s)
  | slots => exact .of_kept (kept_loadUnits _ x.body s)
  | instances => exact .of_kept (kept_loadUnits _ x.body s)
  | sleeves => exact .of_kept (kept_loadUnits _ x.body s)

theorem safe_restoreRecord (r : RecId) (s : State) : Safe s (restoreRecord r s) := by
  unfold restoreRecord
  extract_lets p x n t v w
  have ht : Safe s t := Safe.when' (fun u => safe_setPair _ u) s
  have hv : Safe t v := (safe_loadEpoch r x t).trans (safe_loadRecord r x _)
  have hw : Safe v w := .of_anchors rfl
  refine ((ht.trans hv).trans hw).trans ?_
  split
  · exact .of_kept (kept_raise _ w)
  · exact .refl w

theorem safe_beginBoot (s : State) : Safe s (beginBoot s) := .of_anchors rfl

theorem safe_openLog (s : State) : Safe s (openLog s) := by
  unfold openLog
  extract_lets newest t
  have ht : Safe s t := .of_anchors rfl
  refine ht.trans ?_
  split
  · exact .refl t
  · exact .of_kept (kept_fenceLog t)

/-- The last-resort register holds no row of the ring. -/
theorem lastResort_ring (e : LogEntry) (l : Log) : (Log.lastResort e l).ring = l.ring := by
  unfold Log.lastResort
  (repeat' split) <;> rfl

theorem kept_setThreads (v : Vector ThreadSt 16) (s : State) : { s with threads := v }.kept = s.kept := rfl

theorem safe_restoreAll (damage : List Damage) (s : State) : Safe s (restoreAll damage s) := by
  have h1 := Safe.forAll safe_applyDamage damage s
  have h2 := h1.trans (Safe.forAll safe_restoreRecord allRecords _)
  have h3 := (h2.trans (safe_beginBoot _)).trans (safe_openLog _)
  refine h3.trans (.of_kept ?_)
  simp only [restoreAll]
  rw [kept_modSleeve, kept_modPower, kept_setThreads, kept_modSupply (fun p => { p with policyOn := false }) _ rfl rfl, kept_queuePowerRuns, kept_restoreWidths,
    kept_maskStore]

theorem safe_haltRestore (s : State) : Safe s (haltRestore s) := by
  refine .of_kept ?_
  unfold haltRestore
  extract_lets n t
  have ht : t.kept = s.kept := kept_modLog _ s rfl
  exact (kept_modPower _ _).trans ((kept_modLog _ t (lastResort_ring _ _)).trans ht)

theorem safe_reloadEntry (r : RecId) (s : State) : Safe s (reloadEntry r s) := by
  have hload : ∀ x, Safe s (loadRecord r x (loadEpoch r x s)) := fun x =>
    (safe_loadEpoch r x s).trans (safe_loadRecord r x _)
  unfold reloadEntry
  extract_lets x
  split
  · exact .refl s
  · exact .refl s
  · split
    · exact safe_applyRoutes _ s
    · exact .refl s
  · split
    · exact .refl s
    · exact safe_loadRecord _ _ s
  · exact hload x

/-! ### The log's rows -/

theorem safe_writeRow (e : LogEntry) (rowFails : Nat) (s : State) : Safe s (writeRow e rowFails s) := by
  induction rowFails generalizing s with
  | zero => exact ⟨rfl, fun h => { h with rows := store_rows e s.log h.rows }⟩
  | succ n ih =>
    unfold writeRow
    extract_lets row t
    have ht : Safe s t := .of_kept (kept_modLog _ s (lastResort_ring _ _))
    refine ht.trans ?_
    split
    · refine Safe.trans (.of_kept ?_) (ih _)
      rw [kept_raiseD, kept_pendRecord, kept_modLog _ _ rfl]
    · exact .of_kept ((kept_fenceLog _).trans (kept_raiseD _ _ _))

theorem safe_writeEntry (e : Ev) (rowFails : Nat) (s : State) : Safe s (writeEntry e rowFails s) := by
  unfold writeEntry
  extract_lets x t
  have ht : Safe s t := .of_anchors rfl
  refine ht.trans ?_
  split
  · exact .of_kept (kept_modLog _ t (lastResort_ring _ _))
  · exact safe_writeRow _ _ t

theorem safe_logWrite (rowFails : Nat) (s : State) : Safe s (logWrite rowFails s) := by
  unfold logWrite
  split
  · exact .refl s
  · split
    · exact Safe.trans (t := modLog _ s) (.of_anchors rfl) (safe_writeEntry _ _ _)
    · rename_i e _ _
      refine Safe.trans (t := writeEntry e rowFails s) (safe_writeEntry e rowFails s) (.of_kept ?_)
      rw [kept_nextInHand, kept_answerMark, kept_modLog _ _ rfl]
    · exact .refl s

/-! ### Power lost and reset -/

theorem safe_clearVolatile (s : State) : Safe s (clearVolatile s) :=
  ⟨rfl, fun h => ⟨.inl rfl, fun _ => ⟨rfl, rfl⟩, fun _ => rfl, nofun, h.records, h.rows⟩⟩

theorem safe_powerOff (s : State) : Safe s (powerOff s) :=
  ((safe_finishWriter s).trans (safe_clearVolatile _)).trans (.of_anchors rfl)

theorem safe_shutDown (s : State) : Safe s (shutDown s) :=
  ((safe_finishWriter s).trans (safe_writeEntry _ _ _)).trans (safe_powerOff _)

theorem safe_loseVin (ov : Bool) (s : State) : Safe s (loseVin ov s) := by
  unfold loseVin
  split
  · exact .of_kept ((kept_holdRide _).trans (kept_modSupply _ _ rfl rfl))
  · exact safe_powerOff s

theorem safe_enterReset (s : State) : Safe s (enterReset s) := by
  have h := (safe_finishWriter s).trans (safe_clearVolatile _)
  exact ⟨h.queue, fun hs => { h.sound hs with vcore := hs.vcore }⟩

theorem dischargeMeasure_vcore (p : Supply) : (dischargeMeasure p).vcore = p.vcore := by
  unfold dischargeMeasure
  split <;> rfl

theorem safe_leaveReset (cause : Nat) (s : State) : Safe s (leaveReset cause s) :=
  ⟨rfl, fun h => ⟨.inr (by simp only [leaveReset, dischargeMeasure_vcore]; decide), nofun, nofun, nofun, h.records, h.rows⟩⟩

theorem safe_softReset (s : State) : Safe s (softReset s) := (safe_enterReset s).trans (safe_leaveReset 2 _)

/-! ### Commits that take force -/

theorem safe_settleFabric (s : State) : Safe s (settleFabric s) := .of_kept (kept_settleFabric s)

theorem safe_markerAnswer (c : Commit) (payload : List Byte) (s : State) : Safe s (markerAnswer c payload s) :=
  .of_kept (kept_markerAnswer c payload s)

theorem safe_takeForce (c : Commit) (s : State) : Safe s (takeForce c s) := by
  unfold takeForce
  split
  case h_11 =>
    split
    · exact (safe_applyRoutes _ s).trans (.of_kept ((kept_markerAnswer _ _ _).trans (kept_raise _ _)))
    · exact .refl s
  case h_13 =>
    split
    · exact .step (kept_markerAnswer _ _ _) <| .step (kept_judgeFloor _) <| .step (kept_raise _ _) <|
        .of_anchors ((anchors_modFloor _ _).trans (anchors_modYoke _ s))
    · exact .refl s
  case h_14 =>
    split
    · exact Safe.trans (t := modSupply _ s) (.of_anchors rfl) (.of_kept ((kept_markerAnswer _ _ _).trans (kept_raise _ _)))
    · exact .refl s
  case h_17 =>
    refine .of_kept ?_
    rw [kept_markerAnswer, kept_forAll, kept_readmitStates]
    intro b u
    split
    · exact kept_unmaskBank b u
    · rfl
  all_goals exact .of_kept (by (repeat' split) <;> simp)

theorem safe_leaveWriter (c : Commit) (s : State) : Safe s (leaveWriter c s) := .of_anchors rfl

theorem safe_zeroized (s : State) : Safe s (zeroized s) := by
  unfold zeroized
  refine .step (kept_settleFabric _) <| .step (kept_raise _ _) <|
    .step (kept_forAll _ _ _ fun _ _ => kept_modSleeve _ _ _) <| .step (kept_forAll _ _ _ fun _ _ => kept_modSlot _ _ _) <|
    .step (kept_forAll _ _ _ fun _ _ => kept_forAll _ _ _ fun _ _ => kept_modInst _ _ _ _) ?_
  exact Safe.trans (t := modLining _ s) (.of_anchors rfl) (safe_writeCopy _ _)

/-! ### Registers -/

theorem safe_writeNoref (v : Word) (s : State) : Safe s (writeNoref v s) := by
  refine ⟨rfl, fun h => ⟨h.vcore, fun hrun => ?_, fun hno => ?_, fun href => ?_, h.records, h.rows⟩⟩
  · obtain ⟨hnow, href⟩ := h.stopped hrun
    exact ⟨hnow, by simp [writeNoref, href]⟩
  · have hbit : v.getLsbD 0 = true := hno
    simp [writeNoref, hbit]
  · simp only [writeNoref, modTally_tally, Bool.and_eq_true] at href
    exact h.present href.1

theorem safe_write0 (w : Nat) (v : Word) (h : WordHw) (s : State) : Safe s (write0 w v h s) := by
  unfold write0
  split
  · exact .of_kept (kept_writeFault v h s)
  · exact .of_anchors rfl
  · exact .of_anchors rfl
  · split
    · exact safe_softReset s
    · exact .refl s
  · exact .refl s

theorem safe_write1 (w : Nat) (v : Word) (h : WordHw) (s : State) : Safe s (write1 w v h s) := by
  unfold write1
  split
  · exact safe_writeNoref v s
  · exact ⟨rfl, fun h => ⟨h.vcore, h.stopped, h.refused, h.present, h.records, h.rows⟩⟩
  · exact .refl s

theorem safe_writeGlobal (page w : Nat) (v : Word) (h : WordHw) (s : State) : Safe s (writeGlobal page w v h s) := by
  unfold writeGlobal
  split
  · exact safe_write0 w v h s
  · exact safe_write1 w v h s
  · exact .of_kept (kept_write2 w v h s)
  · exact .of_kept (kept_write3 w v h s)
  · exact .of_kept (kept_write4 w v h s)
  · exact .of_kept (kept_write5 w v h s)
  · exact .of_kept (kept_write6 w v h s)
  · exact .of_kept (kept_write7 w v h s)
  · exact .of_kept (kept_write8 w v h s)
  · exact .of_kept (kept_write9 w v h s)
  · exact .of_kept (kept_write10 w v h s)
  · exact .of_kept (kept_write11 w v h s)
  · exact .refl s

theorem safe_writeWord (c : Sel) (addr : Nat) (v : Word) (h : WordHw) (s : State) : Safe s (writeWord c addr v h s) := by
  unfold writeWord
  extract_lets page w
  split
  · exact .of_kept (kept_modSel _ _ s)
  · split
    · exact safe_writeGlobal page w v h s
    · exact .of_kept (kept_writeSleeve _ w v h s)

theorem safe_writeWords (c : Sel) (base : Nat) (hw : List HwUpdate) (k : Nat) (vs : List Word) (s : State) :
    Safe s (writeWords c base hw k vs s) := by
  induction vs generalizing k s with
  | nil => exact .refl s
  | cons v r ih =>
    unfold writeWords
    extract_lets t
    have ht : Safe s t := safe_writeWord c _ v _ s
    split
    · exact ht
    · exact ht.trans (ih (k + 1) t)

theorem safe_writeFrame (f : FrameIn) (good : Bool) (word : Fin 32) (data : List Word) (hw : List HwUpdate) (s : State) :
    Safe s (writeFrame f good word data hw s) := by
  unfold writeFrame
  extract_lets c t u base
  have ht : Safe s t := .of_kept (kept_trackLanes f s)
  have hu : Safe t u := by
    unfold u
    split
    · exact .refl t
    · exact .of_kept (kept_crcFailed f false t)
  split
  · exact .of_kept (kept_drive c [] [] s)
  · refine ht.trans ?_
    split
    · exact .of_kept (kept_drive c [] [] t)
    · refine hu.trans ?_
      split
      · exact .of_kept (kept_endFrame c _ _ _ u)
      · split
        · exact .of_kept (kept_endFrame c _ _ _ u)
        · split
          · exact .of_kept ((kept_noteAccess _ _).trans (kept_endFrame _ _ _ _ _))
          · exact (Safe.of_kept (kept_endFrame c _ _ _ u)).trans (safe_writeWords _ _ _ _ _ _)

theorem safe_writeOne (c : Sel) (page : Nat) (word : Fin 32) (v : Word) (hw : List HwUpdate) (s : State) :
    Safe s (writeOne c page word v hw s) := by
  unfold writeOne
  split
  · exact safe_writeFrame _ _ _ _ _ s
  · exact .refl s

/-! ### The listed commands -/

/-- The command goes on, leaves the queue and keeps the invariant. -/
def Steady (r : Res) (s : State) : Prop := ∃ u, r = .next u ∧ Safe s u

theorem starting_vcore : 600 ≤ 850 ∧ 850 ≤ 950 := by decide

theorem steady_execRegulatorsUp (ioSelOpen : Bool) (hold10mV : Nat) (s : State) :
    Steady (execRegulatorsUp ioSelOpen hold10mV s) s := by
  refine ⟨_, rfl, ?_⟩
  split
  · refine ⟨rfl, fun h => ⟨.inr ?_, nofun, nofun, nofun, h.records, h.rows⟩⟩
    dsimp only
    split
    · exact starting_vcore
    · rw [dischargeMeasure_vcore]
      exact starting_vcore
  · exact .refl s

theorem steady_execLiningRestore (wrapKatOk doorHigh : Bool) (damage : List Damage) (s : State) :
    Steady (execLiningRestore wrapKatOk doorHigh damage s) s := by
  refine ⟨_, rfl, ?_⟩
  split
  · exact .refl s
  · split
    · exact safe_haltRestore s
    · exact (safe_restoreAll damage s).trans (Safe.when' (fun u => .of_kept (kept_doorAlarm u)) _)

theorem steady_execGblRstWrite (c : Sel) (v : Word) (s : State) : Steady (execGblRstWrite c v s) s :=
  ⟨_, rfl, safe_writeOne c 0 13 v [] s⟩

theorem steady_execWriteReg (f : FrameIn) (word : Fin 32) (data : List Word) (hw : List HwUpdate) (s : State) :
    Steady (execWriteReg f word data hw s) s := ⟨_, rfl, safe_writeFrame f _ word data hw s⟩

theorem steady_execTlyCfgNorefWrite (c : Sel) (v : Word) (s : State) : Steady (execTlyCfgNorefWrite c v s) s :=
  ⟨_, rfl, safe_writeOne c 1 3 v [] s⟩

theorem steady_execResetAssert (s : State) : Steady (execResetAssert s) s := by
  refine ⟨_, rfl, .step (kept_settleTap _) <| .step (kept_modPower _ _) ?_⟩
  (repeat' split) <;> first | exact .refl s | exact safe_enterReset s

theorem steady_execResetRelease (s : State) : Steady (execResetRelease s) s := by
  refine ⟨_, rfl, ?_⟩
  extract_lets t
  have ht : Safe s t := .of_kept ((kept_settleTap _).trans (kept_modPower _ _))
  split
  · exact ht.trans (safe_leaveReset 1 t)
  · exact ht

theorem steady_execBrownout (vinMv : Nat) (s : State) : Steady (execBrownout vinMv s) s := by
  refine ⟨_, rfl, ?_⟩
  split
  · exact (Safe.of_kept (kept_setVin vinMv s)).trans (safe_loseVin _ _)
  · exact .refl s

theorem steady_execOvervoltageDisconnect (vinMv : Nat) (s : State) : Steady (execOvervoltageDisconnect vinMv s) s := by
  refine ⟨_, rfl, ?_⟩
  split
  · exact .of_kept ((kept_modSupply _ _ rfl rfl).trans (kept_setVin vinMv s))
  · split
    · extract_lets t u
      have ht : Safe s t := .of_kept (kept_setVin vinMv s)
      have hu : Safe t u := by
        unfold u
        split
        · exact .of_kept ((kept_raise _ _).trans ((kept_modSupply _ _ rfl rfl).trans (kept_noteVinHigh t)))
        · exact .refl t
      exact ((ht.trans hu).trans (.of_kept (kept_modSupply _ u rfl rfl))).trans (safe_loseVin _ _)
    · exact .refl s

theorem steady_execRideExpiry (vinMv : Nat) (s : State) : Steady (execRideExpiry vinMv s) s := by
  refine ⟨_, rfl, ?_⟩
  split
  · exact (Safe.of_kept (kept_setVin vinMv s)).trans (safe_shutDown _)
  · exact .refl s

theorem steady_execBootEpochCommit (s : State) : Steady (execBootEpochCommit s) s := by
  refine ⟨_, rfl, ?_⟩
  split
  · split
    · exact .step (kept_modLining _ _ rfl rfl rfl) (safe_writeCopy _ s)
    · exact .refl s
  · exact .refl s

theorem steady_execJournalCommitMarker (s : State) : Steady (execJournalCommitMarker s) s := by
  refine ⟨_, rfl, ?_⟩
  split
  · exact ((safe_writeCopies _ s).trans (safe_leaveWriter _ _)).trans (safe_takeForce _ _)
  · exact .refl s

theorem steady_execJournalReadbackFail (s : State) : Steady (execJournalReadbackFail s) s := by
  refine ⟨_, rfl, ?_⟩
  split
  · exact .step (kept_answerOpt _ _ _ _) <| .step (kept_dropCommitOp _ _) <| .step (kept_modLining _ _ rfl rfl rfl) <|
      safe_noteWriteFail _ s
  · split
    · split
      · exact safe_noteWriteFail _ s
      · exact .refl s
    · exact .refl s

theorem steady_execZeroization (s : State) : Steady (execZeroization s) s := by
  refine ⟨_, rfl, ?_⟩
  split
  · exact safe_zeroized s
  · exact .refl s

theorem steady_execLogWrite (rowFails : Nat) (s : State) : Steady (execLogWrite rowFails s) s :=
  ⟨_, rfl, (safe_logWrite rowFails s).trans (safe_settleFabric _)⟩

/-- A step of VCORE ends within its range. -/
theorem move_vcore (m : BeltMove) (v : Nat) (h : v = 0 ∨ (600 ≤ v ∧ v ≤ 950)) :
    m.vcore v = 0 ∨ (600 ≤ m.vcore v ∧ m.vcore v ≤ 950) := by
  cases m <;> simp only [BeltMove.vcore] <;> omega

theorem safe_moveVcore (m : BeltMove) (s : State) : Safe s (modSupply (fun p => { p with vcore := m.vcore p.vcore }) s) :=
  ⟨rfl, fun h => { h with vcore := move_vcore m _ h.vcore }⟩

theorem steady_execBeltPeriod (b : BeltIn) (s : State) : Steady (execBeltPeriod b s) s := by
  refine ⟨_, rfl, ?_⟩
  split
  · exact .refl s
  · extract_lets t m
    have ht : Safe s t := .of_kept (kept_modSupply _ s rfl rfl)
    split
    · exact ht
    · exact .step (kept_beltFlags _ _ _) <| (ht.trans (.of_kept (kept_gateAdmission m t))).trans (safe_moveVcore m _)

theorem steady_execRefclkFound (windows : Nat × Nat) (s : State) : Steady (execRefclkFound windows s) s := by
  refine ⟨_, rfl, ?_⟩
  split
  · split
    · rename_i hgo
      simp only [Bool.and_eq_true, Bool.not_eq_true', decide_eq_true_eq] at hgo
      obtain ⟨⟨⟨hrun, hno⟩, -⟩, -⟩ := hgo
      refine .step (kept_raise _ _) ⟨rfl, fun h => ⟨h.vcore, fun hstop => ?_, fun hn => ?_, fun _ => rfl, h.records, h.rows⟩⟩
      · exact absurd (hrun.symm.trans hstop) nofun
      · exact absurd (hno.symm.trans hn) nofun
    · exact .refl s
  · exact .refl s

theorem steady_execRefclkLost (s : State) : Steady (execRefclkLost s) s := by
  refine ⟨_, rfl, ?_⟩
  split
  · exact .step (kept_raise _ _) ⟨rfl, fun h => ⟨h.vcore, fun hstop => ⟨(h.stopped hstop).1, rfl⟩, fun _ => rfl, nofun, h.records, h.rows⟩⟩
  · exact .refl s

theorem steady_execOscMeasure (err : BitVec 16) (s : State) : Steady (execOscMeasure err s) s := by
  refine ⟨_, rfl, ?_⟩
  split
  · exact ⟨rfl, fun h => ⟨h.vcore, h.stopped, h.refused, h.present, h.records, h.rows⟩⟩
  · exact .refl s

theorem safe_foldVcore (s : State) : Safe s (modSupply (fun p => { p with vcore := 600 }) s) :=
  ⟨rfl, fun h => { h with vcore := .inr (show 600 ≤ 600 ∧ 600 ≤ 950 by decide) }⟩

theorem safe_enterFold (s : State) : Safe s (enterFold s) := by
  unfold enterFold
  extract_lets t keep
  have ht : Safe s t := .of_kept ((kept_closeAllWindows _).trans (kept_stopRuns s))
  refine .step (kept_modPower _ _) (Safe.trans ?_ (safe_foldVcore _))
  exact .step (kept_forAll _ _ _ fun _ _ => kept_foldThreadOff _ _) <| .step (kept_foldPortOff _ _) <| .step (kept_foldPortOff _ _) ht

theorem steady_execFoldEntry (s : State) : Steady (execFoldEntry s) s := by
  refine ⟨_, rfl, ?_⟩
  split
  · exact .refl s
  · extract_lets t
    have ht : Safe s t := by
      unfold t
      split
      · exact .refl s
      · exact .of_kept ((kept_foldReplyNow _).trans (kept_foldTimeouts s))
    split
    · exact ht.trans (safe_enterFold t)
    · exact ht

theorem steady_execLiningCheckFail (r : RecId) (s : State) : Steady (execLiningCheckFail r s) s := by
  refine ⟨_, rfl, ?_⟩
  split
  · exact .refl s
  · exact .refl s
  · split
    · exact .step (kept_raise _ _) <| .step (kept_modLining _ _ rfl rfl rfl) <| safe_reloadEntry _ s
    · exact .refl s

/-! ### The commands that are not listed -/

/-- The command goes on and leaves the kept parts as they are. -/
def Keeps (r : Res) (s : State) : Prop := ∃ u, r = .next u ∧ u.kept = s.kept

theorem keeps_execPushCmd (f : FrameIn) (head : PushHead) (packet : List Byte) (s : State) : Keeps (execPushCmd f head packet s) s :=
  ⟨_, rfl, by dsimp only; (repeat' split) <;> simp⟩

theorem keeps_execStreamRead (c : Sel) (n : Fin 4) (records : List Shift) (s : State) : Keeps (execStreamRead c n records s) s :=
  ⟨_, rfl, by dsimp only; (repeat' split) <;> simp⟩

theorem keeps_execStatus (f : StatusFrame) (s : State) : Keeps (execStatus f s) s :=
  ⟨_, rfl, by dsimp only; split <;> simp⟩

theorem keeps_execTrain (c : Sel) (seen : List (List (BitVec 1024))) (completed : Bool) (s : State) : Keeps (execTrain c seen completed s) s :=
  ⟨_, rfl, by dsimp only; (repeat' split) <;> simp⟩

theorem keeps_execReservedFrame (c : Sel) (s : State) : Keeps (execReservedFrame c s) s :=
  ⟨_, rfl, by simp⟩

theorem keeps_execPwrWakewhyRead (f : ReadFrame) (s : State) : Keeps (execPwrWakewhyRead f s) s :=
  ⟨_, rfl, by simp⟩

theorem keeps_execTlyNowlRead (f : ReadFrame) (s : State) : Keeps (execTlyNowlRead f s) s :=
  ⟨_, rfl, by simp⟩

theorem keeps_execMaintMinute (s : State) : Keeps (execMaintMinute s) s :=
  ⟨_, rfl, by split <;> simp⟩

theorem keeps_execVinStartQualified (vinMv : Nat) (dnc : Bool) (s : State) : Keeps (execVinStartQualified vinMv dnc s) s :=
  ⟨_, rfl, by split <;> simp⟩

theorem keeps_execAvalancheRailUp (rail10mV : Nat) (s : State) : Keeps (execAvalancheRailUp rail10mV s) s :=
  ⟨_, rfl, by split <;> simp⟩

theorem keeps_execRailStartupTimeout (rail10mV : Nat) (s : State) : Keeps (execRailStartupTimeout rail10mV s) s :=
  ⟨_, rfl, by split <;> simp⟩

theorem keeps_execPatchRecheck (core : Fin 2) (f0 f1 : List Byte) (s : State) : Keeps (execPatchRecheck core f0 f1 s) s :=
  ⟨_, rfl, by dsimp only; (repeat' split) <;> simp⟩

theorem keeps_execVinHigh (vinMv : Nat) (s : State) : Keeps (execVinHigh vinMv s) s :=
  ⟨_, rfl, by split <;> simp⟩

theorem keeps_execVinDip (vinMv : Nat) (s : State) : Keeps (execVinDip vinMv s) s :=
  ⟨_, rfl, by split <;> simp⟩

theorem keeps_execDoorAlarm (s : State) : Keeps (execDoorAlarm s) s :=
  ⟨_, rfl, by split <;> simp⟩

theorem keeps_execDoorClosed (s : State) : Keeps (execDoorClosed s) s :=
  ⟨_, rfl, by split <;> simp⟩

theorem keeps_execWakePin (s : State) : Keeps (execWakePin s) s :=
  ⟨_, rfl, by split <;> simp⟩

theorem keeps_execWakeTimer (s : State) : Keeps (execWakeTimer s) s :=
  ⟨_, rfl, by dsimp only; (repeat' split) <;> simp⟩

theorem keeps_execThermalWake (s : State) : Keeps (execThermalWake s) s :=
  ⟨_, rfl, by split <;> simp⟩

theorem keeps_execBistReq (v : Word) (s : State) : Keeps (execBistReq v s) s :=
  ⟨_, rfl, by dsimp only; (repeat' split) <;> simp⟩

theorem keeps_execBistStatCapture (s : State) : Keeps (execBistStatCapture s) s :=
  ⟨_, rfl, by split <;> simp⟩

theorem keeps_execCommandTimeout (id : Nat) (held : Option Holder) (s : State) : Keeps (execCommandTimeout id held s) s :=
  ⟨_, rfl, by dsimp only; (repeat' split) <;> simp⟩

theorem keeps_execDieTempSample (dieT : Nat) (s : State) : Keeps (execDieTempSample dieT s) s :=
  ⟨_, rfl, by split <;> simp⟩

theorem keeps_execHoldMeasureDone (capUf : Nat) (short : Bool) (s : State) : Keeps (execHoldMeasureDone capUf short s) s :=
  ⟨_, rfl, by split <;> simp⟩

theorem keeps_execFloorRestored (s : State) : Keeps (execFloorRestored s) s :=
  ⟨_, rfl, by (repeat' split) <;> simp⟩

theorem keeps_execThreadSample (t : Thread) (code : BitVec 4) (s : State) : Keeps (execThreadSample t code s) s :=
  ⟨_, rfl, by simp⟩

theorem keeps_execAptWindowClose (t : Thread) (s : State) : Keeps (execAptWindowClose t s) s :=
  ⟨_, rfl, by simp⟩

theorem keeps_execDriftWindowEnd (t : Thread) (s : State) : Keeps (execDriftWindowEnd t s) s :=
  ⟨_, rfl, by simp⟩

theorem keeps_execEstimateBlockEnd (t : Thread) (s : State) : Keeps (execEstimateBlockEnd t s) s :=
  ⟨_, rfl, by simp⟩

theorem keeps_execServoBlockEnd (t : Thread) (s : State) : Keeps (execServoBlockEnd t s) s :=
  ⟨_, rfl, by simp⟩

theorem keeps_execThreadStall (t : Thread) (s : State) : Keeps (execThreadStall t s) s :=
  ⟨_, rfl, by dsimp only; (repeat' split) <;> simp⟩

theorem keeps_execThreadRetestEnd (t : Thread) (s : State) : Keeps (execThreadRetestEnd t s) s :=
  ⟨_, rfl, by dsimp only; (repeat' split) <;> simp⟩

theorem keeps_execStartupTestEnd (t : Thread) (nothing : Unit) (s : State) : Keeps (execStartupTestEnd t nothing s) s :=
  ⟨_, rfl, by dsimp only; (repeat' split) <;> simp⟩

theorem keeps_execARailOk (rail10mV : Nat) (s : State) : Keeps (execARailOk rail10mV s) s :=
  ⟨_, rfl, by dsimp only; (repeat' split) <;> simp⟩

theorem keeps_execCaptureEnd (s : State) : Keeps (execCaptureEnd s) s :=
  ⟨_, rfl, by split <;> simp⟩

theorem keeps_execBlockToCore (s : State) : Keeps (execBlockToCore s) s :=
  ⟨_, rfl, by split <;> simp⟩

theorem keeps_execConditioningDone (k : Fin 4) (s : State) : Keeps (execConditioningDone k s) s :=
  ⟨_, rfl, by split <;> simp⟩

theorem keeps_execStagingTimeout (k : Fin 4) (s : State) : Keeps (execStagingTimeout k s) s :=
  ⟨_, rfl, by dsimp only; split <;> simp⟩

theorem keeps_execCondKatEnd (k : Fin 4) (pass : Bool) (s : State) : Keeps (execCondKatEnd k pass s) s :=
  ⟨_, rfl, by dsimp only; (repeat' split) <;> simp⟩

theorem keeps_execReservoirGrant (drawer : Nat) (s : State) : Keeps (execReservoirGrant drawer s) s :=
  ⟨_, rfl, by (repeat' split) <;> simp⟩

theorem keeps_execPocketGrant (k : Fin 4) (s : State) : Keeps (execPocketGrant k s) s :=
  ⟨_, rfl, by dsimp only; (repeat' split) <;> simp⟩

theorem keeps_execUpdateLaneGrant (k : Fin 4) (counter : Bool) (s : State) : Keeps (execUpdateLaneGrant k counter s) s :=
  ⟨_, rfl, by dsimp only; (repeat' split) <;> simp⟩

theorem keeps_execAesMismatch (m : Mismatch) (s : State) : Keeps (execAesMismatch m s) s :=
  ⟨_, rfl, by dsimp only; (repeat' split) <;> simp⟩

theorem keeps_execAesRetestEnd (k : Fin 4) (pass : Bool) (s : State) : Keeps (execAesRetestEnd k pass s) s :=
  ⟨_, rfl, by dsimp only; (repeat' split) <;> simp⟩

theorem keeps_execInstLiningFault (i : Sleeve) (k : Fin 4) (copyOk : Bool) (s : State) : Keeps (execInstLiningFault i k copyOk s) s :=
  ⟨_, rfl, by dsimp only; (repeat' split) <;> simp⟩

theorem keeps_execBookingAllowed (n : Nat) (s : State) : Keeps (execBookingAllowed n s) s :=
  ⟨_, rfl, by (repeat' split) <;> simp⟩

theorem keeps_execPocketFree (p : Fin 4096) (s : State) : Keeps (execPocketFree p s) s :=
  ⟨_, rfl, by split <;> simp⟩

theorem keeps_execPocketTorn (p : Fin 4096) (r : PocketReader) (s : State) : Keeps (execPocketTorn p r s) s :=
  ⟨_, rfl, by (repeat' split) <;> simp⟩

theorem keeps_execBankEccStorm (b : Fin 16) (errors : Nat) (s : State) : Keeps (execBankEccStorm b errors s) s :=
  ⟨_, rfl, by dsimp only; split <;> simp⟩

theorem keeps_execBankScrub (b : Fin 16) (pass : Bool) (s : State) : Keeps (execBankScrub b pass s) s :=
  ⟨_, rfl, by dsimp only; (repeat' split) <;> simp⟩

theorem keeps_execBankDrainTimeout (b : Fin 16) (s : State) : Keeps (execBankDrainTimeout b s) s :=
  ⟨_, rfl, by dsimp only; split <;> simp⟩

theorem keeps_execQueueRemoval (i : Sleeve) (s : State) : Keeps (execQueueRemoval i s) s :=
  ⟨_, rfl, by split <;> simp⟩

theorem keeps_execStreamSealDone (i : Sleeve) (n : Fin 4) (s : State) : Keeps (execStreamSealDone i n s) s :=
  ⟨_, rfl, by dsimp only; (repeat' split) <;> simp⟩

theorem keeps_execCrcBurst (p : Port) (lane : Fin 8) (s : State) : Keeps (execCrcBurst p lane s) s :=
  ⟨_, rfl, by split <;> simp⟩

theorem keeps_execPushWindowStart (i : Sleeve) (e : Fin 4) (s : State) : Keeps (execPushWindowStart i e s) s :=
  ⟨_, rfl, by dsimp only; (repeat' split) <;> simp⟩

theorem keeps_execPushProbe (i : Sleeve) (e : Fin 4) (bus : BusSeen) (s : State) : Keeps (execPushProbe i e bus s) s :=
  ⟨_, rfl, by dsimp only; (repeat' split) <;> simp⟩

theorem keeps_execMasterTransfer (port : Port) (bus : BusSeen) (s : State) : Keeps (execMasterTransfer port bus s) s :=
  ⟨_, rfl, by dsimp only; (repeat' split) <;> simp⟩

theorem keeps_execPushSpanEnd (i : Sleeve) (e : Fin 4) (s : State) : Keeps (execPushSpanEnd i e s) s :=
  ⟨_, rfl, by dsimp only; (repeat' split) <;> simp⟩

theorem keeps_execMultiMaster (m : Port × Bool) (s : State) : Keeps (execMultiMaster m s) s :=
  ⟨_, rfl, by dsimp only; (repeat' split) <;> simp⟩

theorem keeps_execXipFetch (addr : Word) (f0 f1 : List Byte) (s : State) : Keeps (execXipFetch addr f0 f1 s) s :=
  ⟨_, rfl, by dsimp only; (repeat' split) <;> simp⟩

theorem keeps_execJournalCommitGrant (waiting : Nat) (s : State) : Keeps (execJournalCommitGrant waiting s) s :=
  ⟨_, rfl, by simp⟩

theorem keeps_execPendingRetry (s : State) : Keeps (execPendingRetry s) s :=
  ⟨_, rfl, by (repeat' split) <;> simp⟩

theorem keeps_execSvcKat (e : Fin 16) (pass : Bool) (s : State) : Keeps (execSvcKat e pass s) s :=
  ⟨_, rfl, by dsimp only; (repeat' split) <;> simp⟩

theorem keeps_execSvcCoreFault (k : Fin 2) (s : State) : Keeps (execSvcCoreFault k s) s :=
  ⟨_, rfl, by split <;> simp⟩

theorem keeps_execSvcRetestEnd (k : Fin 2) (pass : Bool) (s : State) : Keeps (execSvcRetestEnd k pass s) s :=
  ⟨_, rfl, by dsimp only; (repeat' split) <;> simp⟩

theorem keeps_execSlotLiningFault (k : Fin 32) (copyOk : Bool) (s : State) : Keeps (execSlotLiningFault k copyOk s) s :=
  ⟨_, rfl, by dsimp only; split <;> simp⟩

theorem keeps_execServiceBusError (engine : Option (Fin 16)) (s : State) : Keeps (execServiceBusError engine s) s :=
  ⟨_, rfl, by dsimp only; (repeat' split) <;> simp⟩

theorem keeps_execServiceCleared (s : State) : Keeps (execServiceCleared s) s :=
  ⟨_, rfl, by split <;> simp⟩

theorem keeps_execBistSliceStart (s : State) : Keeps (execBistSliceStart s) s :=
  ⟨_, rfl, by (repeat' split) <;> simp⟩

theorem keeps_execBistDrainDone (k : Fin 32) (s : State) : Keeps (execBistDrainDone k s) s :=
  ⟨_, rfl, by (repeat' split) <;> simp⟩

theorem keeps_execBistRunEnd (k : Fin 32) (parts : BistParts) (s : State) : Keeps (execBistRunEnd k parts s) s :=
  ⟨_, rfl, by split <;> simp⟩

theorem keeps_execBistQueueTimeout (s : State) : Keeps (execBistQueueTimeout s) s :=
  ⟨_, rfl, by simp⟩

theorem keeps_execBistOvertempAbandon (k : Fin 32) (s : State) : Keeps (execBistOvertempAbandon k s) s :=
  ⟨_, rfl, by (repeat' split) <;> simp⟩

theorem keeps_execFaultEvent (code : BitVec 16) (source : Fin 16) (data : List Byte) (s : State) : Keeps (execFaultEvent code source data s) s :=
  ⟨_, rfl, by split <;> simp⟩

theorem keeps_execErrorsLostSweep (s : State) : Keeps (execErrorsLostSweep s) s :=
  ⟨_, rfl, by split <;> simp⟩

theorem keeps_execSleeveFault (i : Sleeve) (s : State) : Keeps (execSleeveFault i s) s :=
  ⟨_, rfl, by split <;> simp⟩

theorem keeps_execSleeveRetestEnd (i : Sleeve) (pass : Bool) (s : State) : Keeps (execSleeveRetestEnd i pass s) s :=
  ⟨_, rfl, by dsimp only; (repeat' split) <;> simp⟩

theorem keeps_execServiceEngineGrant (e : Fin 16) (s : State) : Keeps (execServiceEngineGrant e s) s :=
  ⟨_, rfl, by (repeat' split) <;> simp⟩

theorem keeps_execResultWindowRead (f : ReadFrame) (s : State) : Keeps (execResultWindowRead f s) s :=
  ⟨_, rfl, by simp⟩

theorem keeps_execVinHighEnd (s : State) : Keeps (execVinHighEnd s) s :=
  ⟨_, rfl, by simp⟩

theorem keeps_execTestLogicReset (s : State) : Keeps (execTestLogicReset s) s :=
  ⟨_, rfl, by split <;> simp⟩

theorem keeps_execUpdateIr (code : BitVec 5) (s : State) : Keeps (execUpdateIr code s) s :=
  ⟨_, rfl, by split <;> simp⟩

theorem keeps_execReadyRise (s : State) : Keeps (execReadyRise s) s := by
  refine ⟨_, rfl, ?_⟩
  split
  · rw [kept_freshFloor, kept_modSupply _ _ rfl rfl, kept_modPower]
  · rfl

theorem keeps_execHoldMeasureDue (s : State) : Keeps (execHoldMeasureDue s) s := by
  refine ⟨_, rfl, ?_⟩
  split
  · rw [kept_modSupply] <;> (dsimp only; split <;> rfl)
  · rfl

theorem keeps_execHoldCharged (s : State) : Keeps (execHoldCharged s) s := by
  refine ⟨_, rfl, ?_⟩
  split
  · rw [kept_modSupply] <;> (split <;> rfl)
  · rfl

theorem keeps_execPopReply (c : Sel) (pop : PopIn) (s : State) : Keeps (execPopReply c pop s) s :=
  ⟨_, rfl, kept_popOne c pop.shift _ s fun u => kept_forAll _ _ u fun p v => kept_popOne p.1 p.2 id v fun _ => rfl⟩

theorem keeps_execFloorRatioUpdate (n : Unit) (s : State) : Keeps (execFloorRatioUpdate n s) s := by
  refine ⟨_, rfl, ?_⟩
  dsimp only
  split
  · rfl
  · rw [kept_judgeFloor, showFloor, kept_modFloor, kept_modFloor] <;> rfl

theorem keeps_execARailHold (v : Nat) (s : State) : Keeps (execARailHold v s) s := by
  refine ⟨_, rfl, ?_⟩
  dsimp only
  (repeat' split)
  · rw [kept_holdRail, kept_modSupply _ _ rfl rfl, kept_modSupply _ _ rfl rfl]
  · rw [ kept_modSupply _ _ rfl rfl]
  · rfl

theorem keeps_execWakeReady (s : State) : Keeps (execWakeReady s) s := by
  refine ⟨_, rfl, ?_⟩
  split
  · simp
    rw [kept_modSupply _ _ rfl rfl]; simp
  · rfl

theorem keeps_execPocketClaim (n : Nat) (s : State) : Keeps (execPocketClaim n s) s := by
  refine ⟨_, rfl, ?_⟩
  dsimp only
  split
  · simp
  · split
    · simp
    · split
      · simp
      · split
        · simp
        · simp [kept_claimPocket ‹_›]

/-- A byte taken into the open block changes no credit factor. -/
theorem addByte_factors (t : Thread) (b : Byte) (credit : Nat) (y : Yoke) : (y.addByte t b credit).factors = y.factors := by
  simp only [Yoke.addByte]
  split <;> rfl

theorem keeps_execYokeTakeByte (s : State) : Keeps (execYokeTakeByte s) s := by
  refine ⟨_, rfl, ?_⟩
  dsimp only
  split
  · exact kept_dropLowCredit s
  · split
    · exact kept_dropLowCredit s
    · split
      · exact kept_dropLowCredit s
      · rw [kept_modYoke _ _ (addByte_factors _ _ _ _), kept_modThread, kept_dropLowCredit]

theorem keeps_execJunctionConditioningDone (s : State) : Keeps (execJunctionConditioningDone s) s := by
  refine ⟨_, rfl, ?_⟩
  dsimp only
  split
  · rw [kept_startTests, kept_forAll _ _ _ (fun t u => kept_modThread t _ u), kept_when _ _ _ (kept_modBist _), kept_modPower]
  · rfl

/-- A one-word row keeps the kept parts if its word, written, keeps them. -/
theorem kept_writeOne (c : Sel) (page : Nat) (word : Fin 32) (v : Word) (hw : List HwUpdate) (s : State)
    (h : ∀ u : State, (writeWord c (32 * page + word.val) v (wordHw 0 hw) u).kept = u.kept) :
    (writeOne c page word v hw s).kept = s.kept := by
  unfold writeOne
  split
  · rename_i hp
    simp only [writeFrame, trackLanes_unseen, if_true, hp, writeWords_one]
    (repeat' split) <;> simp [h]
  · rfl

theorem keeps_execKeyDoorActWrite (c : Sel) (v : Word) (s : State) : Keeps (execKeyDoorActWrite c v s) s :=
  ⟨_, rfl, kept_writeOne c 7 0 v _ s fun u => kept_write7 0 v _ u⟩

theorem keeps_execKeyDoorMaintWrite (c : Sel) (v : Word) (dec : Bool) (s : State) : Keeps (execKeyDoorMaintWrite c v dec s) s :=
  ⟨_, rfl, kept_writeOne c 7 0 v _ s fun u => kept_write7 0 v _ u⟩

theorem keeps_execGblFaultAlarmAck (c : Sel) (v : Word) (alarm : Bool) (s : State) : Keeps (execGblFaultAlarmAck c v alarm s) s :=
  ⟨_, rfl, kept_writeOne c 0 4 v _ s fun u => kept_writeFault v _ u⟩

theorem keeps_execMmfClear (c : Sel) (v : Word) (again : BitVec 2) (s : State) : Keeps (execMmfClear c v again s) s :=
  ⟨_, rfl, kept_writeOne c 9 3 v _ s fun u => kept_write9 3 v _ u⟩

/-- A command of the SCP set takes a packet, and its body leaves the kept parts. -/
theorem exec_scp {c : Instr} {t : Take} {kind : Byte → Word → Bool} (h : c.scp = some (t, kind)) (s : State) :
    ∃ body, exec c s = .next (takeWith t kind body s) ∧ ∀ k u, (body k u).kept = u.kept := by
  cases c <;> simp only [Instr.scp, Option.some.injEq, Prod.mk.injEq, reduceCtorEq] at h <;> obtain ⟨rfl, rfl⟩ := h <;>
    exact ⟨_, rfl, fun k u => by simp⟩

theorem keeps_exec_scp {c : Instr} {t : Take} {kind : Byte → Word → Bool} (h : c.scp = some (t, kind)) (s : State) :
    Keeps (exec c s) s := by
  obtain ⟨body, hexec, hbody⟩ := exec_scp h s
  exact ⟨_, hexec, kept_takeWith t kind body s hbody⟩

/-- The rows outside the SCP set that are not listed. -/
theorem keeps_exec_row (c : Instr) (s : State) (h : (c.changesKept || c.scp.isSome) = false) : Keeps (exec c s) s := by
  cases c with
  | pushCmd f head packet => exact keeps_execPushCmd f head packet s
  | popReply sel pop => exact keeps_execPopReply sel pop s
  | streamRead sel stream records => exact keeps_execStreamRead sel stream records s
  | status f => exact keeps_execStatus f s
  | train sel seen completed => exact keeps_execTrain sel seen completed s
  | reservedFrame sel => exact keeps_execReservedFrame sel s
  | pwrWakewhyRead f => exact keeps_execPwrWakewhyRead f s
  | tlyNowlRead f => exact keeps_execTlyNowlRead f s
  | keyDoorActWrite sel v => exact keeps_execKeyDoorActWrite sel v s
  | keyDoorMaintWrite sel v dec => exact keeps_execKeyDoorMaintWrite sel v dec s
  | maintMinute => exact keeps_execMaintMinute s
  | gblFaultAlarmAck sel v alarm => exact keeps_execGblFaultAlarmAck sel v alarm s
  | mmfClear sel v again => exact keeps_execMmfClear sel v again s
  | vinStartQualified vinMv dnc => exact keeps_execVinStartQualified vinMv dnc s
  | avalancheRailUp rail10mV => exact keeps_execAvalancheRailUp rail10mV s
  | railStartupTimeout rail10mV => exact keeps_execRailStartupTimeout rail10mV s
  | junctionConditioningDone => exact keeps_execJunctionConditioningDone s
  | patchRecheck core f0 f1 => exact keeps_execPatchRecheck core f0 f1 s
  | readyRise => exact keeps_execReadyRise s
  | vinHigh vinMv => exact keeps_execVinHigh vinMv s
  | vinDip vinMv => exact keeps_execVinDip vinMv s
  | doorAlarm => exact keeps_execDoorAlarm s
  | doorClosed => exact keeps_execDoorClosed s
  | wakePin => exact keeps_execWakePin s
  | wakeTimer => exact keeps_execWakeTimer s
  | thermalWake => exact keeps_execThermalWake s
  | wakeReady => exact keeps_execWakeReady s
  | bistReq v => exact keeps_execBistReq v s
  | bistStatCapture => exact keeps_execBistStatCapture s
  | commandTimeout id held => exact keeps_execCommandTimeout id held s
  | dieTempSample dieT => exact keeps_execDieTempSample dieT s
  | holdMeasureDue => exact keeps_execHoldMeasureDue s
  | holdMeasureDone capUf short => exact keeps_execHoldMeasureDone capUf short s
  | floorRatioUpdate nothing => exact keeps_execFloorRatioUpdate nothing s
  | floorRestored => exact keeps_execFloorRestored s
  | threadSample t code => exact keeps_execThreadSample t code s
  | aptWindowClose t => exact keeps_execAptWindowClose t s
  | driftWindowEnd t => exact keeps_execDriftWindowEnd t s
  | estimateBlockEnd t => exact keeps_execEstimateBlockEnd t s
  | servoBlockEnd t => exact keeps_execServoBlockEnd t s
  | threadStall t => exact keeps_execThreadStall t s
  | threadRetestEnd t => exact keeps_execThreadRetestEnd t s
  | startupTestEnd t nothing => exact keeps_execStartupTestEnd t nothing s
  | aRailHold rail10mV => exact keeps_execARailHold rail10mV s
  | aRailOk rail10mV => exact keeps_execARailOk rail10mV s
  | captureEnd => exact keeps_execCaptureEnd s
  | yokeTakeByte => exact keeps_execYokeTakeByte s
  | blockToCore => exact keeps_execBlockToCore s
  | conditioningDone k => exact keeps_execConditioningDone k s
  | stagingTimeout k => exact keeps_execStagingTimeout k s
  | condKatEnd k pass => exact keeps_execCondKatEnd k pass s
  | reservoirGrant drawer => exact keeps_execReservoirGrant drawer s
  | pocketGrant core => exact keeps_execPocketGrant core s
  | updateLaneGrant core counter => exact keeps_execUpdateLaneGrant core counter s
  | aesMismatch m => exact keeps_execAesMismatch m s
  | aesRetestEnd core pass => exact keeps_execAesRetestEnd core pass s
  | instLiningFault sl kk copyOk => exact keeps_execInstLiningFault sl kk copyOk s
  | bookingAllowed op => exact keeps_execBookingAllowed op s
  | pocketClaim claim => exact keeps_execPocketClaim claim s
  | pocketFree p => exact keeps_execPocketFree p s
  | pocketTorn p r => exact keeps_execPocketTorn p r s
  | bankEccStorm b errors => exact keeps_execBankEccStorm b errors s
  | bankScrub b pass => exact keeps_execBankScrub b pass s
  | bankDrainTimeout b => exact keeps_execBankDrainTimeout b s
  | queueRemoval sl => exact keeps_execQueueRemoval sl s
  | streamSealDone sl n => exact keeps_execStreamSealDone sl n s
  | crcBurst p lane => exact keeps_execCrcBurst p lane s
  | pushWindowStart sl e => exact keeps_execPushWindowStart sl e s
  | pushProbe sl e bus => exact keeps_execPushProbe sl e bus s
  | masterTransfer p bus => exact keeps_execMasterTransfer p bus s
  | pushSpanEnd sl e => exact keeps_execPushSpanEnd sl e s
  | multiMaster m => exact keeps_execMultiMaster m s
  | xipFetch addr f0 f1 => exact keeps_execXipFetch addr f0 f1 s
  | journalCommitGrant waiting => exact keeps_execJournalCommitGrant waiting s
  | pendingRetry => exact keeps_execPendingRetry s
  | svcKat engine pass => exact keeps_execSvcKat engine pass s
  | svcCoreFault core => exact keeps_execSvcCoreFault core s
  | svcRetestEnd core pass => exact keeps_execSvcRetestEnd core pass s
  | slotLiningFault k copyOk => exact keeps_execSlotLiningFault k copyOk s
  | serviceBusError engine => exact keeps_execServiceBusError engine s
  | serviceCleared => exact keeps_execServiceCleared s
  | bistSliceStart => exact keeps_execBistSliceStart s
  | bistDrainDone slice => exact keeps_execBistDrainDone slice s
  | bistRunEnd slice parts => exact keeps_execBistRunEnd slice parts s
  | bistQueueTimeout => exact keeps_execBistQueueTimeout s
  | bistOvertempAbandon slice => exact keeps_execBistOvertempAbandon slice s
  | faultEvent code source data => exact keeps_execFaultEvent code source data s
  | errorsLostSweep => exact keeps_execErrorsLostSweep s
  | sleeveFault sl => exact keeps_execSleeveFault sl s
  | sleeveRetestEnd sl pass => exact keeps_execSleeveRetestEnd sl pass s
  | serviceEngineGrant engine => exact keeps_execServiceEngineGrant engine s
  | resultWindowRead f => exact keeps_execResultWindowRead f s
  | holdCharged => exact keeps_execHoldCharged s
  | vinHighEnd => exact keeps_execVinHighEnd s
  | testLogicReset => exact keeps_execTestLogicReset s
  | updateIr code => exact keeps_execUpdateIr code s
  | _ => nomatch h

theorem keeps_exec (c : Instr) (s : State) (h : c.changesKept = false) : Keeps (exec c s) s := by
  cases hscp : c.scp with
  | none => exact keeps_exec_row c s (by rw [h, hscp]; rfl)
  | some x => exact keeps_exec_scp hscp s

/-- The listed commands leave the queue and keep the invariant. -/
theorem steady_exec_listed (c : Instr) (s : State) (h : c.changesKept = true) : Steady (exec c s) s := by
  cases c with
  | writeReg f word data hw => exact steady_execWriteReg f word data hw s
  | gblRstWrite sel v => exact steady_execGblRstWrite sel v s
  | tlyCfgNorefWrite sel v => exact steady_execTlyCfgNorefWrite sel v s
  | regulatorsUp ioSelOpen hold10mV => exact steady_execRegulatorsUp ioSelOpen hold10mV s
  | liningRestore wrapKatOk doorHigh damage => exact steady_execLiningRestore wrapKatOk doorHigh damage s
  | bootEpochCommit => exact steady_execBootEpochCommit s
  | brownout vinMv => exact steady_execBrownout vinMv s
  | overvoltageDisconnect vinMv => exact steady_execOvervoltageDisconnect vinMv s
  | rideExpiry vinMv => exact steady_execRideExpiry vinMv s
  | resetAssert => exact steady_execResetAssert s
  | resetRelease => exact steady_execResetRelease s
  | zeroization => exact steady_execZeroization s
  | foldEntry => exact steady_execFoldEntry s
  | refclkFound windows => exact steady_execRefclkFound windows s
  | refclkLost => exact steady_execRefclkLost s
  | oscMeasure err => exact steady_execOscMeasure err s
  | beltPeriod b => exact steady_execBeltPeriod b s
  | journalCommitMarker => exact steady_execJournalCommitMarker s
  | journalReadbackFail => exact steady_execJournalReadbackFail s
  | liningCheckFail r => exact steady_execLiningCheckFail r s
  | logWrite rowFails => exact steady_execLogWrite rowFails s
  | _ => nomatch h

theorem steady_exec (c : Instr) (s : State) : Steady (exec c s) s := by
  cases h : c.changesKept with
  | true => exact steady_exec_listed c s h
  | false =>
    obtain ⟨u, hu, hkept⟩ := keeps_exec c s h
    exact ⟨u, hu, .of_kept hkept⟩

/-! ### Idle steps -/

theorem kept_passMicrosecond (s : State) :
    (passMicrosecond s).kept = { s.kept with tally := { s.tally with now := s.tally.now + 1 } } := rfl

theorem forAll_fixed {β : Type} {f : β → State → State} {s : State} (h : ∀ x, f x s = s) (l : List β) : forAll l f s = s := by
  induction l with
  | nil => rfl
  | cons x l ih => exact (congrArg (forAll l f) (h x)).trans ih

theorem endInstReload_idle {i : Sleeve} {k : Fin 4} {s : State} (h : (s.inst i k).health.retest = false) :
    endInstReload i k s = s :=
  if_neg fun hc => Bool.false_ne_true (h.symm.trans hc.2)

theorem endSlotReload_idle {k : Fin 32} {s : State} (h : (s.slot k).health.retest = false) : endSlotReload k s = s :=
  if_neg fun hc => Bool.false_ne_true (h.symm.trans hc.2)

theorem endReloads_idle {s : State} (hinst : ∀ i k, (s.inst i k).health.retest = false)
    (hslot : ∀ k, (s.slot k).health.retest = false) : endReloads s = s := by
  unfold endReloads
  rw [forAll_fixed (f := fun q : Sleeve × Fin 4 => endInstReload q.1 q.2) fun q => endInstReload_idle (hinst q.1 q.2),
    forAll_fixed fun k => endSlotReload_idle (hslot k)]

theorem tickCmd_running (c : Cmd) : tickCmd false c = c := rfl

theorem tickCmd_names (stopped : Bool) (c : Cmd) :
    ((tickCmd stopped c).id, (tickCmd stopped c).sl, (tickCmd stopped c).tag, (tickCmd stopped c).seq) = (c.id, c.sl, c.tag, c.seq) := by
  unfold tickCmd
  split <;> rfl

theorem passMicrosecond_cmds_running {s : State} (h : ∀ c ∈ s.cmds, s.stopsTimer c = false) : (passMicrosecond s).cmds = s.cmds := by
  have hc : ∀ c ∈ s.cmds, tickCmd (s.stopsTimer c) c = id c := fun c hc => by rw [h c hc, tickCmd_running, id]
  exact (List.map_congr_left hc).trans (List.map_id _)

/-- An idle step changes, of the anchored parts, only Tally's time while Tally runs. -/
theorem safe_idle (s : State) : Safe s (idle s) := by
  unfold idle
  split
  · refine .step (kept_endReloads _) ⟨rfl, fun h => ⟨h.vcore, fun hstop => ?_, h.refused, h.present, h.records, h.rows⟩⟩
    rename_i hrun
    exact absurd (hrun.symm.trans hstop) nofun
  · exact .refl s

/-- The queue is no part of the invariant. -/
theorem sound_setPending {s : State} (r : List Instr) (h : Sound s) : Sound { s with pending := r } :=
  ⟨h.vcore, h.stopped, h.refused, h.present, h.records, h.rows⟩

/-- Settles O3: each command is one of the listed rows, or leaves the kept parts, the queue among them. -/
theorem execKeepsQueue : Obligations.ExecKeepsQueue := fun c s =>
  let ⟨u, hu, hsafe⟩ := steady_exec c s
  ⟨u, hu, hsafe.queue⟩

/-- Settles O4: row by row, through the architect's `kept` lemmas of the operations. -/
theorem keptUnlessListed : Obligations.KeptUnlessListed := by
  intro c s u hlist hexec
  obtain ⟨v, hv, hkept⟩ := keeps_exec c s hlist
  rw [hv, Host.Outcome.next.injEq] at hexec
  rwa [← hexec]

/-- Settles O6: a command keeps the invariant, and so does an idle step. -/
theorem stepSound : Obligations.StepSound := by
  intro s u hs hstep
  unfold step at hstep
  split at hstep
  · rename_i c r _
    obtain ⟨v, hv, hsafe⟩ := steady_exec c { s with pending := r }
    rw [hv, Host.Outcome.next.injEq] at hstep
    exact hstep ▸ hsafe.sound (sound_setPending r hs)
  · rw [Host.Outcome.next.injEq] at hstep
    exact hstep ▸ (safe_idle s).sound hs

/-- Settles O1. -/
theorem stepRunsFront : Obligations.StepRunsFront := by
  intro c r s hpend
  unfold step
  rw [hpend]

/-- Settles O5. -/
theorem resetSound : Obligations.ResetSound :=
  ⟨.inl rfl, fun _ => ⟨rfl, rfl⟩, fun _ => rfl, nofun, of_decide_eq_true reset_mramWf, by decide⟩

/-- Settles O2. -/
theorem stepTicks : Obligations.StepTicks := by
  intro s hpend
  refine ⟨idle s, by rw [step, hpend], fun hstop => ?_, fun hrun => ⟨?_, fun hinst hslot => ?_⟩⟩
  · rw [idle, hstop]
    rfl
  · rw [idle, if_pos hrun, kept_endReloads, kept_passMicrosecond]
  · have hidle : idle s = passMicrosecond s := by rw [idle, if_pos hrun, endReloads_idle (s := passMicrosecond s) hinst hslot]
    rw [hidle]
    refine ⟨rfl, passMicrosecond_cmds_running, ?_⟩
    simp only [passMicrosecond, List.map_map, Function.comp_def, tickCmd_names]

end Sys2Proof.Machine
end

section
/-! SUPPORT. What a packet just taken leaves, the bodies an admitted packet reaches, and the opcodes that read or ask for a journal
commit. -/

namespace Sys2Proof.Machine

/-! ### What a taken packet leaves -/

theorem sleeve_takenBy_ne {i j : Sleeve} (h : i ≠ j) (p : Packet) (s : State) : (s.takenBy i p).sleeve j = s.sleeve j :=
  sleeve_modSleeve_ne i j _ _ h

/-- A part of a sleeve that taking a packet does not write. -/
theorem sleevePart_takenBy {α : Type} (g : SleeveSt → α) (hg : ∀ x id p, g (SleeveSt.taking x id p) = g x) (i j : Sleeve)
    (p : Packet) (s : State) : g ((s.takenBy i p).sleeve j) = g (s.sleeve j) := by
  by_cases h : i = j
  · subst h
    rw [sleeve_takenBy, hg]
  · rw [sleeve_takenBy_ne h]

/-- The state with other intake parts: the sleeves, the commands in flight, their numbering and Tailor's round. -/
def State.withIntake (s : State) (sleeves : Vector SleeveSt 8) (cmds : List Cmd) (nextCmd : Nat) (taken : List Sleeve) : State :=
  { s with sleeves := sleeves, cmds := cmds, nextCmd := nextCmd, taken := taken }

/-- Taking a packet writes intake parts alone. -/
theorem takenBy_withIntake (i : Sleeve) (p : Packet) (s : State) :
    ∃ sleeves cmds nextCmd taken, s.takenBy i p = s.withIntake sleeves cmds nextCmd taken := ⟨_, _, _, _, rfl⟩

theorem health_takenBy (i : Sleeve) (p : Packet) (s : State) (u : UnitRef) : (s.takenBy i p).health u = s.health u := by
  cases u with
  | sleeve j => exact sleevePart_takenBy SleeveSt.health (fun _ _ _ => rfl) i j p s
  | _ => rfl

theorem degraded_takenBy (i : Sleeve) (p : Packet) (s : State) : (s.takenBy i p).degraded = s.degraded := by
  simp only [State.degraded, health_takenBy]
  rfl

theorem identity_takenBy (i : Sleeve) (p : Packet) (s : State) : (s.takenBy i p).identity i = s.identity i := by
  have hdeg := degraded_takenBy i p s
  have hepoch := sleevePart_takenBy SleeveSt.epoch (fun _ _ _ => rfl) i i p s
  obtain ⟨x, cs, n, tk, h⟩ := takenBy_withIntake i p s
  rw [h] at hdeg hepoch ⊢
  simp only [State.identity, hdeg, hepoch]
  rfl

theorem statusBytes_takenBy (i : Sleeve) (p : Packet) (s : State) : (s.takenBy i p).statusBytes i = s.statusBytes i := by
  have hdeg := degraded_takenBy i p s
  obtain ⟨x, cs, n, tk, h⟩ := takenBy_withIntake i p s
  rw [h] at hdeg ⊢
  simp only [State.statusBytes, State.statusState, hdeg]
  rfl

theorem threadStatusBytes_takenBy (i : Sleeve) (p : Packet) (s : State) :
    (s.takenBy i p).threadStatusBytes i = s.threadStatusBytes i := by
  obtain ⟨x, cs, n, tk, h⟩ := takenBy_withIntake i p s
  rw [h]
  rfl

theorem powerBytes_takenBy (i : Sleeve) (p : Packet) (s : State) : (s.takenBy i p).powerBytes i = s.powerBytes i := by
  obtain ⟨x, cs, n, tk, h⟩ := takenBy_withIntake i p s
  rw [h]
  rfl

theorem slotInfo_takenBy (i : Sleeve) (p : Packet) (s : State) (k : Fin 32) : (s.takenBy i p).slotInfo k = s.slotInfo k := by
  obtain ⟨x, cs, n, tk, h⟩ := takenBy_withIntake i p s
  rw [h]
  rfl

theorem cmdKeyInfo_takenBy (i : Sleeve) (p : Packet) (s : State) : (s.takenBy i p).cmdKeyInfo i = s.cmdKeyInfo i := by
  simp only [State.cmdKeyInfo, sleevePart_takenBy SleeveSt.cmdKey fun _ _ _ => rfl]

theorem pushStatusBytes_takenBy (i : Sleeve) (p : Packet) (s : State) (e : Fin 4) :
    (s.takenBy i p).pushStatusBytes i e = s.pushStatusBytes i e := by
  simp only [State.pushStatusBytes, sleeve_takenBy]
  rfl

/-! ### Bodies that an admitted packet reaches -/

theorem noParams_taken {body : Cmd → State → State} {c : Cmd} (h : c.params = []) (s : State) : noParams body c s = body c s :=
  if_pos (List.isEmpty_iff.mpr h)

theorem argOnly_taken {mask : Word} {body : Cmd → State → State} {c : Cmd} (ha : argBits c.arg mask = true) (hp : c.params = [])
    (s : State) : argOnly mask body c s = body c s :=
  if_pos (by rw [ha, hp]; rfl)

theorem argParams_taken {mask : Word} {body : Cmd → State → State} {c : Cmd} (ha : argBits c.arg mask = true)
    (s : State) : argParams mask body c s = body c s := if_pos ha

section
variable {t : Take} {op : Byte} {p : Packet} {s : State}

theorem next_takeOp (h : Admitted t op p s) (body : Cmd → State → State) :
    (.next (takeOp t op body s) : Res) = .next (body (s.cmdOf t.sl p) (s.takenBy t.sl p)) :=
  congrArg Host.Outcome.next (takeOp_admitted t op p body s h)

theorem next_takeOp_noParams (h : Admitted t op p s) (hp : p.params = []) (body : Cmd → State → State) :
    (.next (takeOp t op (noParams body) s) : Res) = .next (body (s.cmdOf t.sl p) (s.takenBy t.sl p)) :=
  (next_takeOp h _).trans (congrArg Host.Outcome.next (noParams_taken hp _))

theorem next_takeOp_argOnly {mask : Word} (h : Admitted t op p s) (ha : argBits p.arg mask = true) (hp : p.params = [])
    (body : Cmd → State → State) :
    (.next (takeOp t op (argOnly mask body) s) : Res) = .next (body (s.cmdOf t.sl p) (s.takenBy t.sl p)) :=
  (next_takeOp h _).trans (congrArg Host.Outcome.next (argOnly_taken (c := s.cmdOf t.sl p) ha hp _))
end

/-! ### Answers -/

/-- A change that takes no notice of the take may as well come before it. -/
theorem answered_change {i : Sleeve} {p : Packet} {st : Byte} {s : State} (payload : List Byte) (f : State → State)
    (hf : f (s.takenBy i p) = (f s).takenBy i p) (hn : (f s).nextCmd = s.nextCmd) (hst : executed st = true) :
    Answered i p st payload (f s) (answer s.nextCmd st payload (f (s.takenBy i p))) := by
  rw [hf, ← hn]
  exact answer_takenBy i p st payload (f s) hst

/-- Settles O15. -/
theorem prioritySet : Obligations.PrioritySet := by
  intro t p s h ha hp level
  have hexec : exec (.setPriority t) s = .next (setPriorityBody (s.cmdOf t.sl p) (s.takenBy t.sl p)) :=
    next_takeOp_argOnly h ha hp setPriorityBody
  refine ⟨fun hown => ⟨_, hexec, ?_⟩, fun hown => ⟨_, hexec, ?_⟩⟩
  · have hbody : setPriorityBody (s.cmdOf t.sl p) (s.takenBy t.sl p) = answer s.nextCmd stOk (natBytes 4 level)
        (modInst t.sl (argInst p.arg) (fun x => { x with prio := level }) (s.takenBy t.sl p)) :=
      if_neg (by show ¬ (!(s.inst t.sl (argInst p.arg)).owned) = true; rw [hown]; nofun)
    rw [hbody]
    exact answered_change _ (modInst t.sl (argInst p.arg) fun x => { x with prio := level }) rfl rfl rfl
  · have hbody : setPriorityBody (s.cmdOf t.sl p) (s.takenBy t.sl p) = answer s.nextCmd stNotOwner [] (s.takenBy t.sl p) :=
      if_pos (by show (!(s.inst t.sl (argInst p.arg)).owned) = true; rw [hown]; rfl)
    rw [hbody]
    obtain ⟨hrep, honly⟩ := answer_takenBy_uncounted t.sl p stNotOwner [] s (by decide) (by decide)
    exact ⟨hrep, by rw [honly]⟩
/-- Settles O10. -/
theorem identityReads : Obligations.IdentityReads := by
  intro t p s
  refine ⟨fun h hlen => ?_, fun h hp => ?_, fun h hp => ?_, fun h hp => ?_⟩
  · have hexec : exec (.ping t) s = .next (pingBody (s.cmdOf t.sl p) (s.takenBy t.sl p)) :=
      congrArg Host.Outcome.next (takeWith_admitted t 0x00 p _ pingBody s h (by rw [h.opcode]; rfl))
    have hbody : pingBody (s.cmdOf t.sl p) (s.takenBy t.sl p) = answer s.nextCmd stOk (wordsBytes p.params) (s.takenBy t.sl p) :=
      if_neg (Nat.not_lt.mpr hlen)
    exact ⟨_, hexec, hbody ▸ answer_takenBy _ _ _ _ _ rfl⟩
  · refine ⟨_, next_takeOp_noParams h hp _, ?_⟩
    rw [← identity_takenBy]
    exact answer_takenBy _ _ _ _ _ rfl
  · refine ⟨_, next_takeOp_noParams h hp _, ?_⟩
    rw [← statusBytes_takenBy]
    exact answer_takenBy _ _ _ _ _ rfl
  · refine ⟨_, next_takeOp_noParams h hp _, ?_⟩
    rw [← threadStatusBytes_takenBy t.sl p s]
    exact answer_takenBy _ _ _ _ _ rfl

/-! ### Reading opcodes of the records -/

theorem answered_taken {i : Sleeve} {p : Packet} {st : Byte} {s : State} {payload : List Byte} {b : State}
    (hb : b = answer s.nextCmd st payload (s.takenBy i p)) (hst : executed st = true) : Answered i p st payload s b :=
  hb ▸ answer_takenBy i p st payload s hst

theorem keyInfoBody_slot {c : Cmd} {s : State} (harg : c.arg.getLsbD 7 = false) (hown : (argSlot c.arg).val / 4 = c.sl.val) :
    keyInfoBody c s = answer c.id stOk (s.slotInfo (argSlot c.arg)) s := by
  unfold keyInfoBody
  rw [if_neg (by rw [harg]; nofun), if_neg (not_not.mpr hown)]

theorem keyInfoBody_cmdKey {c : Cmd} {s : State} (harg : c.arg.getLsbD 7 = true) (hslot : argSlot c.arg = 0) :
    keyInfoBody c s = answer c.id stOk (s.cmdKeyInfo c.sl) s := by
  unfold keyInfoBody
  rw [if_pos harg, if_neg (not_not.mpr hslot)]

theorem keyInfoBody_foreign {c : Cmd} {s : State} (harg : c.arg.getLsbD 7 = false) (hown : (argSlot c.arg).val / 4 ≠ c.sl.val) :
    keyInfoBody c s = answer c.id stNotOwner [] s := by
  unfold keyInfoBody
  rw [if_neg (by rw [harg]; nofun), if_pos hown]

theorem bistResultBody_target {c : Cmd} {s : State} (h : field c.arg 0 7 < 32) :
    bistResultBody c s = answer c.id stOk (s.bist.results.get ⟨field c.arg 0 7, h⟩).bytes s := dif_pos h

theorem logReadBody_range {c : Cmd} {s : State} {first : Word} (hp : c.params = [first]) (hn : field c.arg 0 3 ≠ 0) :
    logReadBody c s = answer c.id stOk
      (wordBytes (match (s.log.range first (field c.arg 0 3)).getLast? with
          | some e => e.seq + 1
          | none => s.log.next) ++
        ((s.log.range first (field c.arg 0 3)).filter (fun e => decide (c.sl = 0) || decide (e.src = c.sl.val))).flatMap
          LogEntry.bytes) s := by
  unfold logReadBody
  rw [hp]
  exact if_neg hn

/-- Settles O12. -/
theorem recordReads : Obligations.RecordReads := by
  intro t p s
  refine ⟨fun h ha hp => ?_, fun h ha hp hlt => ?_, fun h hp => ?_, fun h ha hp => ?_, fun first h h7 ha hp hn => ?_⟩
  · have hexec : exec (.keyInfo t) s = .next (keyInfoBody (s.cmdOf t.sl p) (s.takenBy t.sl p)) :=
      next_takeOp_argOnly h ha hp keyInfoBody
    refine ⟨fun h7 hown => ⟨_, hexec, ?_⟩, fun h7 hslot => ⟨_, hexec, ?_⟩, fun h7 hown => ⟨_, hexec, ?_⟩⟩
    · rw [keyInfoBody_slot (c := s.cmdOf t.sl p) h7 hown, slotInfo_takenBy]
      exact answer_takenBy _ _ _ _ _ rfl
    · rw [keyInfoBody_cmdKey (c := s.cmdOf t.sl p) h7 hslot]
      exact cmdKeyInfo_takenBy t.sl p s ▸ answer_takenBy _ _ _ _ _ rfl
    · rw [keyInfoBody_foreign (c := s.cmdOf t.sl p) h7 hown]
      exact (answer_takenBy_uncounted t.sl p stNotOwner [] s (by decide) (by decide)).1
  · refine ⟨_, next_takeOp_argOnly h ha hp bistResultBody, ?_⟩
    rw [bistResultBody_target (c := s.cmdOf t.sl p) hlt]
    exact answer_takenBy _ _ _ _ _ rfl
  · refine ⟨_, next_takeOp_noParams h hp getPowerBody, ?_⟩
    show Answered t.sl p stOk _ _ (answer s.nextCmd stOk ((s.takenBy t.sl p).powerBytes t.sl) _)
    rw [powerBytes_takenBy]
    by_cases h0 : t.sl = 0
    · rw [if_pos h0, if_pos (show (s.cmdOf t.sl p).sl = 0 from h0)]
      exact answered_change _ (clearWakeWhy s.power.wakeWhy 0) rfl rfl rfl
    · rw [if_neg h0, if_neg (show (s.cmdOf t.sl p).sl ≠ 0 from h0)]
      exact answer_takenBy _ _ _ _ _ rfl
  · refine ⟨_, next_takeOp_argOnly h ha hp pushStatusBody, ?_⟩
    unfold pushStatusBody
    show Answered t.sl p stOk _ (useFree s) (answer s.nextCmd stOk ((s.takenBy t.sl p).pushStatusBytes t.sl (argInst p.arg)) _)
    rw [pushStatusBytes_takenBy]
    exact answered_change _ useFree rfl rfl rfl
  · refine ⟨_, (congrArg Host.Outcome.next (takeWith_admitted t 0x80 p _ _ s h (by rw [h.opcode, h7]; rfl))).trans
      (congrArg Host.Outcome.next (argParams_taken (c := s.cmdOf t.sl p) ha _)), ?_⟩
    rw [logReadBody_range (c := s.cmdOf t.sl p) hp hn]
    exact answer_takenBy _ _ _ _ _ rfl

/-! ### Requests of a journal commit -/

theorem unmask_takenBy (i : Sleeve) (p : Packet) (s : State) : (s.takenBy i p).unmask (s.cmdOf i p) = s.unmask (s.cmdOf i p) := by
  have hkey := sleevePart_takenBy SleeveSt.cmdKey (fun _ _ _ => rfl) i i p s
  have hepoch := sleevePart_takenBy SleeveSt.epoch (fun _ _ _ => rfl) i i p s
  have hsl : (s.cmdOf i p).sl = i := rfl
  have hblock (key : List Byte × List Byte) : (s.takenBy i p).keyBlock (s.cmdOf i p) key = s.keyBlock (s.cmdOf i p) key := by
    funext n
    simp only [State.keyBlock, hsl, hepoch]
    rfl
  have hcmdKey : (s.takenBy i p).cmdKeyOf i = s.cmdKeyOf i := by simp only [State.cmdKeyOf, hkey]
  simp only [State.unmask, hsl, hcmdKey]
  split
  · rw [hblock]
  · rfl

theorem setRouteBody_requests {c : Cmd} {s : State} (h0 : c.params ≠ []) (hlen : c.params.length ≤ 10)
    (hok : c.params.all routeWordOk = true) (hnodup : (c.params.map routeSel).Nodup)
    (hkeep : routeKeepsS0 (routeTable c.params s.ports.routes) = true) :
    setRouteBody c s =
      requestCommit ⟨.route, .route (routeTable c.params s.ports.routes).toList, false, .route, some c.id⟩ s := by
  refine if_neg ?_
  simp only [Bool.or_eq_true, List.isEmpty_iff, Bool.not_eq_true', decide_eq_true_eq, decide_eq_false_iff_not, not_or, hok, hkeep]
  exact ⟨⟨⟨⟨h0, Nat.not_lt.mpr hlen⟩, nofun⟩, not_not.mpr hnodup⟩, nofun⟩

theorem setQuotaBody_requests {c : Cmd} {s : State} {w0 w1 w2 : Word} (ha : argBits c.arg 0x7 = true) (hp : c.params = [w0, w1, w2])
    (hok : s.quotaOk (nth8 (field c.arg 0 3)) w0 w1 w2 = true) :
    setQuotaBody c s = requestCommit ⟨.quotas, s.quotaBody (nth8 (field c.arg 0 3)) w0 w1, false,
      .quota (nth8 (field c.arg 0 3)) (field w2 0 10), some c.id⟩ s := by
  unfold setQuotaBody
  rw [hp]
  exact if_pos (by rw [ha, hok]; rfl)

theorem setCreditBody_requests {c : Cmd} {s : State} (hlen : c.params.length = 9) (hok : creditOk c.params = true) :
    setCreditBody c s = requestCommit ⟨.credit, s.creditBody c.params, false, .credit, some c.id⟩ s := if_pos ⟨hlen, hok⟩

theorem setPowerPolicyBody_requests {c : Cmd} {s : State} {w : Word} (hp : c.params = [w]) (hok : policyOk w = true) :
    setPowerPolicyBody c s = requestCommit ⟨.power, .power w, false, .power, some c.id⟩ s := by
  unfold setPowerPolicyBody
  rw [hp]
  exact if_pos hok

theorem keyLoadBody_requests {c : Cmd} {s : State} (ha : argBits c.arg 0x00FF031F = true) (halg : field c.arg 8 2 ≠ 3)
    (hlen : field c.arg 16 8 ≠ 0) (hmax : field c.arg 16 8 ≤ blockLen (field c.arg 8 2))
    (hp : c.params.length = (field c.arg 16 8 + 3) / 4) (hslot : s.slotRefusal c.sl (argSlot c.arg) = none)
    (hpad : ((s.unmask c).drop (field c.arg 16 8)).all (· == 0) = true) :
    let st := hmacStates (field c.arg 8 2) ((s.unmask c).take (field c.arg 16 8))
    keyLoadBody c s = requestCommit
      ⟨.slot (argSlot c.arg), .slot (field c.arg 8 2 + 1) st.1 st.2, true, .keyLoad (argSlot c.arg), some c.id⟩ s := by
  have hfits : ¬ (!argBits c.arg 0x00FF031F || decide (field c.arg 8 2 = 3) || decide (field c.arg 16 8 = 0) ||
      decide (blockLen (field c.arg 8 2) < field c.arg 16 8) || decide (c.params.length ≠ (field c.arg 16 8 + 3) / 4)) = true := by
    simp only [Bool.or_eq_true, Bool.not_eq_true', decide_eq_true_eq, not_or, ha]
    exact ⟨⟨⟨⟨nofun, halg⟩, hlen⟩, Nat.not_lt.mpr hmax⟩, not_not.mpr hp⟩
  unfold keyLoadBody
  simp only [if_neg hfits, hslot, hpad]
  rfl

theorem keyEraseBody_requests {c : Cmd} {s : State} (hslot : s.slotRefusal c.sl (argSlot c.arg) = none) :
    keyEraseBody c s = requestCommit ⟨.slot (argSlot c.arg), .slot 0 [] [], (s.slot (argSlot c.arg)).owned,
      .keyErase (argSlot c.arg), some c.id⟩ s := by
  unfold keyEraseBody
  dsimp only
  rw [hslot]

theorem sleeveKeyUpdateBody_requests {c : Cmd} {s : State} (hlen : c.params.length = 8) :
    let st := hmacStates 0 (s.unmask c)
    sleeveKeyUpdateBody c s =
      requestCommit ⟨.cmdKey c.sl, .cmdKey st.1 st.2, false, .cmdKeyUpdate c.sl, some c.id⟩ s := if_neg (not_not.mpr hlen)

theorem patchLoadBody_requests {c : Cmd} {s : State} {offset len : Word} {f0 f1 : List Byte} (hp : c.params = [offset, len])
    (halign : offset.toNat % 64 = 0) (hmin : 96 ≤ len.toNat) (hmax : len.toNat ≤ 65632) (hlines : (len.toNat - 96) % 64 = 0)
    (hend : offset.toNat + len.toNat ≤ 2 ^ 24) (hlen : f0.length = len.toNat) (hok : imageOk f0 = true)
    (hcode : len.toNat = 96 + imageCode f0) (hver : s.ports.xip.version < imageVersion f0) (hrom : imageRom f0 = 0x0103) :
    patchLoadBody f0 f1 c s = requestCommit
      ⟨.patch, .patch offset.toNat len.toNat (imageVersion f0) (f0.drop (len.toNat - 32)), false,
        .patch (imageVersion f0) false offset.toNat (imageCode f0) (lineChecks s.lining.boot offset.toNat f0), some c.id⟩
      (readImage false offset.toNat len.toNat s) := by
  unfold patchLoadBody
  rw [hp]
  dsimp only
  rw [if_neg (by omega), if_neg (by omega), if_pos ⟨hlen, hok⟩]
  unfold patchAccept
  rw [if_neg (not_not.mpr hcode)]
  exact if_neg fun hbad => hbad.elim (Nat.not_le.mpr hver) fun hne => hne hrom

/-- Settles O13. -/
theorem commitsRequested : Obligations.CommitsRequested := by
  intro t p s
  refine ⟨fun h h0 hlen hok hnodup hkeep => ?_, fun w0 w1 w2 h ha hp hok => ?_, fun h hlen hok => ?_, fun w h hp hok => ?_,
    fun h ha halg hlen hmax hp hslot hpad => ?_, fun h ha hp hslot => ?_, fun h hlen => ?_, ?_⟩
  · exact (next_takeOp h _).trans (congrArg _ (setRouteBody_requests (c := s.cmdOf t.sl p) h0 hlen hok hnodup hkeep))
  · exact (next_takeOp h _).trans (congrArg _ (setQuotaBody_requests (c := s.cmdOf t.sl p) (s := s.takenBy t.sl p) ha hp hok))
  · exact (next_takeOp h _).trans (congrArg _ (setCreditBody_requests (c := s.cmdOf t.sl p) hlen hok))
  · exact (next_takeOp h _).trans (congrArg _ (setPowerPolicyBody_requests (c := s.cmdOf t.sl p) hp hok))
  · have hbody := keyLoadBody_requests (c := s.cmdOf t.sl p) (s := s.takenBy t.sl p) ha halg hlen hmax hp hslot
      (by rw [unmask_takenBy]; exact hpad)
    rw [unmask_takenBy] at hbody
    exact (next_takeOp h _).trans (congrArg _ hbody)
  · exact (next_takeOp_argOnly h ha hp _).trans (congrArg _ (keyEraseBody_requests (c := s.cmdOf t.sl p) (s := s.takenBy t.sl p) hslot))
  · have hbody := sleeveKeyUpdateBody_requests (c := s.cmdOf t.sl p) (s := s.takenBy t.sl p) hlen
    rw [unmask_takenBy] at hbody
    exact (next_takeOp h _).trans (congrArg _ hbody)
  · intro offset len f0 f1 h hp halign hmin hmax hlines hend hlen hok hcode hver hrom
    exact (next_takeOp h _).trans (congrArg _ (patchLoadBody_requests (c := s.cmdOf t.sl p) (s := s.takenBy t.sl p)
      hp halign hmin hmax hlines hend hlen hok hcode hver hrom))

end Sys2Proof.Machine
end

section
/-! SUPPORT. The module as shipped, and the register frames of the custodian: Tally, wake reasons, result window, the software
reset, KEY_DOOR and MMF. -/

namespace Sys2Proof.Machine

/-! ### The module as shipped -/

theorem sleeve_reset (i : Sleeve) : State.reset.sleeve i = SleeveSt.reset := Vector.getElem_replicate _

theorem inst_reset (i : Sleeve) (k : Fin 4) : (State.reset.inst i k).owned = false := by
  revert i k
  decide

theorem page_reset (c : Sel) : (State.reset.sel c).page = pageReset (State.reset.route c) := by
  have hsel : State.reset.sel c = SelSt.reset (State.reset.route c) := Vector.getElem_map _ _
  rw [hsel]
  rfl

/-- Settles O7. -/
theorem resetState : Obligations.ResetState := by
  refine ⟨rfl, rfl, fun i => ?_, inst_reset, rfl, rfl, by decide, page_reset⟩
  rw [sleeve_reset]
  exact ⟨rfl, rfl, rfl⟩

/-! ### READ_REG frames shifted out in full -/

theorem earlyRead_served {c : Sel} {s : State} (h : s.early c = false) : s.earlyRead c = false := by
  rw [State.earlyRead, h]
  rfl

/-- S0 as its own host may read every word of the pages it is shown. -/
theorem mayRead_custodian {c : Sel} {s : State} (hrole : s.role c = 1) (hsl : s.selSleeve c = 0) {addr : Nat}
    (h : addr / 32 ≤ 16) : s.mayRead c addr = true := by
  simp [State.mayRead, State.pageOk, hrole, hsl, h]

theorem permitted_custodian {c : Sel} {s : State} (hrole : s.role c = 1) (hsl : s.selSleeve c = 0) (base n : Nat)
    (h : ∀ k < n, (base + k) / 32 ≤ 16) : s.permitted c base n = n := by
  have hall : (List.range n).takeWhile (fun k => s.mayRead c (base + k)) = List.range n :=
    List.takeWhile_eq_self_iff.mpr fun k hk => mayRead_custodian hrole hsl (h k (List.mem_range.mp hk))
  rw [State.permitted, hall, List.length_range]

theorem readWords_length (c : Sel) (base : Nat) (gone : List Nat) (out : Nat) (during : BitVec 5) (n k : Nat) (win : Bool) (s : State) :
    (readWords c base gone out during n k win s).1.length = n := by
  induction n generalizing k win s with
  | zero => rfl
  | succ n ih =>
    unfold readWords
    dsimp only
    split <;> simp only [List.length_cons, ih]

/-- A read that is served in full is answered with its words under OK. -/
theorem readFrame_custodian {c : Sel} {s : State} {page : Nat} (hserves : s.serves c = true) (hearly : s.early c = false)
    (hrole : s.role c = 1) (hsl : s.selSleeve c = 0) (hpage : (s.sel c).page.toNat = page) (word : Fin 32) (n : Nat)
    (during : BitVec 5) (h : 32 * page + word.val + n ≤ 544) :
    readFrame ⟨c, word, n, .full, during⟩ s =
      let r := readWords c (32 * page + word.val) [] (n + 1) during n 0 false s
      endFrame c (wordsBytes r.1) stOk 0 r.2 := by
  have hok := permitted_custodian hrole hsl (32 * page + word.val) n (by omega)
  have hout : (4 * n + 4) / 4 = n + 1 := by omega
  have hmin : min n ((4 * n + 4 + 3) / 4) = n := by omega
  unfold readFrame
  simp only [hserves, earlyRead_served hearly, hpage, hok, shiftedBytes, goneWords, hout, hmin]
  simp [readAnswer, shiftedBytes, goneWords]

theorem readWord_global {c : Sel} {s : State} {addr : Nat} (hw : addr % 32 ≠ 31) (hp : addr / 32 < 16) :
    s.readWord c addr = s.globalWord (addr / 32) (addr % 32) := by
  rw [State.readWord, if_neg hw, if_pos hp]

/-- Words outside the result window and the wake reasons are read without a trace. -/
theorem readWords_plain (c : Sel) (base out : Nat) (during : BitVec 5) (n k : Nat) (win : Bool) (s : State)
    (hwake : ∀ j < n, base + k + j ≠ wakeWhyAddr)
    (hsample : ∀ j < n, win = true ∨ ¬ (16 ≤ (base + k + j) / 32 ∧ 22 ≤ (base + k + j) % 32 ∧ (base + k + j) % 32 < 30)) :
    readWords c base [] out during n k win s = ((List.range n).map (fun j => s.readWord c (base + k + j)), s) := by
  induction n generalizing k win with
  | zero => rfl
  | succ n ih =>
    have hs : sampleWord c (base + k)
        ((decide (16 ≤ (base + k) / 32) && decide (22 ≤ (base + k) % 32) && decide ((base + k) % 32 < 30)) && !win) s = s := by
      refine if_neg fun hc => ?_
      obtain ⟨h16, h22, h30, hfirst⟩ := hc
      obtain hwin | hno := hsample 0 (Nat.succ_pos n)
      · simp [hwin] at hfirst
      · exact hno ⟨h16, h22, h30⟩
    have hw : ¬ (base + k = wakeWhyAddr ∧ k < out) := fun hc => hwake 0 (Nat.succ_pos n) hc.1
    have hstep (j : Nat) : base + (k + 1) + j = base + k + (j + 1) := by omega
    have hrest := fun win' hwin' => ih (k + 1) win' (fun j hj => hstep j ▸ hwake (j + 1) (by omega)) hwin'
    unfold readWords
    simp only [List.contains_nil, Bool.false_eq_true, hs, hw, if_false]
    rw [hrest _ fun j hj => by
      rw [hstep j]
      exact (hsample (j + 1) (by omega)).imp_left fun h => by rw [h, Bool.true_or]]
    rw [List.range_succ_eq_map, List.map_cons, List.map_map]
    simp only [Function.comp_def, hstep]
    rfl

theorem wordBytes_ofBytes (a b c d : Byte) : wordBytes (BitVec.ofNat 32 (bytesNat [a, b, c, d])) = [a, b, c, d] := by
  have ha := a.isLt
  have hb := b.isLt
  have hc := c.isLt
  have hd := d.isLt
  simp only [wordBytes, bytesNat, List.foldl_cons, List.foldl_nil, List.cons.injEq, and_true]
  refine ⟨?_, ?_, ?_, ?_⟩ <;> apply BitVec.eq_of_toNat_eq <;>
    simp only [BitVec.extractLsb'_toNat, BitVec.toNat_ofNat, Nat.shiftRight_eq_div_pow] <;> omega

/-- Bytes cut into words give the bytes back. -/
theorem wordsBytes_ofBytes (n : Nat) (bs : List Byte) (h : bs.length = 4 * n) :
    wordsBytes ((List.range n).map (fun j => BitVec.ofNat 32 (bytesNat ((bs.drop (4 * j)).take 4)))) = bs := by
  induction n generalizing bs with
  | zero => exact (List.length_eq_zero_iff.mp h).symm
  | succ n ih =>
    match bs, h with
    | a :: b :: c :: d :: r, h =>
      have hr : r.length = 4 * n := by simp only [List.length_cons] at h; omega
      have hdrop (j : Nat) : (a :: b :: c :: d :: r).drop (4 * (j + 1)) = r.drop (4 * j) := rfl
      rw [List.range_succ_eq_map, List.map_cons, List.map_map]
      simp only [Function.comp_def, Nat.succ_eq_add_one, hdrop]
      rw [wordsBytes, List.flatMap_cons]
      exact congrArg₂ (· ++ ·) (wordBytes_ofBytes a b c d) (ih r hr)

theorem tallyLow (t : BitVec 64) : BitVec.ofNat 32 t.toNat = t.extractLsb' 0 32 := by
  apply BitVec.eq_of_toNat_eq
  simp

theorem tallyHigh (t : BitVec 64) : BitVec.ofNat 32 (t.toNat / 2 ^ 32) = t.extractLsb' 32 32 := by
  apply BitVec.eq_of_toNat_eq
  simp [Nat.shiftRight_eq_div_pow]

theorem wakeWord_bytes (w : BitVec 5) : wordsBytes [pack [(0, 5, w.toNat)]] = natBytes 4 w.toNat := by
  revert w
  decide

theorem wakeWord_bits (w : BitVec 5) : (pack [(0, 5, w.toNat)]).extractLsb' 0 5 = w := by
  revert w
  decide

theorem window_length (s : State) (i : Sleeve) : (s.window i).1.length = 32 := by
  unfold State.window
  dsimp only
  (repeat' split) <;> simp

theorem window_dgtErr (s : State) (i : Sleeve) (bits : BitVec 5) : (dgtErr i bits s).window i = s.window i := by
  unfold State.window dgtErr
  rw [sleeve_modSleeve_same]
  rfl

theorem page_toNat {b : Byte} {n : Nat} (h : b = BitVec.ofNat 8 n) (hn : n < 256) : b.toNat = n := by
  rw [h, BitVec.toNat_ofNat, Nat.mod_eq_of_lt hn]

/-- The result window is read from one instant, and its read notes why it shows zeros. -/
theorem readWords_window {c : Sel} {s : State} (hsl : s.selSleeve c = 0) (during : BitVec 5) :
    readWords c 534 [] 9 during 8 0 false s =
      ((List.range 8).map (fun j => BitVec.ofNat 32 (bytesNat (((s.window 0).1.drop (4 * j)).take 4))),
        dgtErr 0 (s.window 0).2 s) := by
  have hword (u : State) (j : Nat) (hj : j < 8) :
      u.readWord c (534 + j) = BitVec.ofNat 32 (bytesNat (((u.window 0).1.drop (4 * j)).take 4)) := by
    interval_cases j <;> rfl
  have hsample : sampleWord c 534 true s = dgtErr 0 (s.window 0).2 s := by
    rw [← hsl]
    rfl
  have hrest := readWords_plain c 534 9 during 7 1 true (dgtErr 0 (s.window 0).2 s) (by simp [wakeWhyAddr]; omega)
    fun _ _ => .inl rfl
  unfold readWords
  simp only [List.contains_nil, Bool.false_eq_true, if_false, Nat.add_zero, Nat.reduceMod, Nat.reduceDiv, Nat.reduceLeDiff,
    Nat.reduceLT, decide_true, Bool.and_self, Bool.not_false, Bool.or_true, hsample]
  rw [if_neg (by decide), hrest]
  refine Prod.ext ?_ rfl
  dsimp only
  rw [show List.range 8 = 0 :: (List.range 7).map Nat.succ from rfl, List.map_cons, List.map_map]
  refine congrArg₂ List.cons (hword s 0 (by decide)) (List.map_congr_left fun j hj => ?_)
  have hj := List.mem_range.mp hj
  rw [Nat.add_assoc, Nat.add_comm 1 j, hword _ (j + 1) (by omega), window_dgtErr]
  rfl

/-- The wake reasons just shown are cleared, those set meanwhile stay (R573). -/
theorem clearWakeWhy_shown (during : BitVec 5) (s : State) :
    clearWakeWhy s.power.wakeWhy during s = modPower (fun p =>
      let w : BitVec 5 := if s.power.phase = .fold ∨ s.power.phase = .waking then during else 0
      { p with wakeWhy := w, wakePin := (p.wakePin || (w &&& 0x1C) != 0) && (w &&& 0x1C) != 0 }) s := by
  have hnone (d : BitVec 5) : s.power.wakeWhy &&& ~~~ s.power.wakeWhy ||| d = d := by
    ext j hj
    simp
  have hphase : (decide (s.power.phase = .fold) || decide (s.power.phase = .waking)) =
      decide (s.power.phase = .fold ∨ s.power.phase = .waking) := by
    simp only [Bool.decide_or]
  unfold clearWakeWhy modPower
  simp only [hnone, hphase, decide_eq_true_eq]

/-- Settles O33. -/
theorem readRows : Obligations.ReadRows := by
  intro c during s hserves hearly hrole hsl shown
  refine ⟨fun hpage => ?_, fun hpage => ?_, fun hpage => ?_⟩
  · have hread := readFrame_custodian hserves hearly hrole hsl (page_toNat hpage (by decide)) 0 2 during (by decide)
    have hwords := readWords_plain c 32 3 during 2 0 false s (by simp [wakeWhyAddr]; omega) (by omega)
    refine congrArg Host.Outcome.next (hread.trans ?_)
    dsimp only
    rw [show 32 * 1 + (0 : Fin 32).val = 32 from rfl, hwords, ← tallyLow, ← tallyHigh]
    rfl
  · have hread := readFrame_custodian hserves hearly hrole hsl (page_toNat hpage (by decide)) 7 1 during (by decide)
    refine congrArg Host.Outcome.next (hread.trans ?_)
    have hword : readWords c 263 [] 2 during 1 0 false s =
        ([pack [(0, 5, s.power.wakeWhy.toNat)]], clearWakeWhy ((pack [(0, 5, s.power.wakeWhy.toNat)]).extractLsb' 0 5) during s) := rfl
    dsimp only
    rw [show 32 * 8 + (7 : Fin 32).val = 263 from rfl, hword, wakeWord_bits, wakeWord_bytes]
    rw [clearWakeWhy_shown]
    rfl
  · have hread := readFrame_custodian hserves hearly hrole hsl (page_toNat hpage (by decide)) 22 8 during (by decide)
    refine congrArg Host.Outcome.next (hread.trans ?_)
    dsimp only
    rw [show 32 * 16 + (22 : Fin 32).val = 534 from rfl, readWords_window hsl]
    dsimp only
    rw [wordsBytes_ofBytes 8 _ (window_length s 0)]
    rfl

/-! ### The software reset -/

theorem exec_gblRstWrite {c : Sel} {s : State} (h : s.custodian c 0 = true) (v : Word) :
    exec (.gblRstWrite c v) s =
      .next (if v = resetKey then softReset (endFrame c [] stOk 0 s) else endFrame c [] stOk 0 s) :=
  congrArg Host.Outcome.next (writeOne_custodian h (by decide) 13 (by decide) v [])

/-- Operations that commute with `g` one by one commute with it as a run. -/
theorem forAll_comm {β : Type} {f : β → State → State} {g : State → State} (h : ∀ x s, f x (g s) = g (f x s)) (l : List β)
    (s : State) : forAll l f (g s) = g (forAll l f s) := by
  induction l generalizing s with
  | nil => rfl
  | cons x l ih => exact (congrArg (forAll l f) (h x s)).trans (ih (f x s))

theorem finishWriter_power (s : State) : (finishWriter s).power = s.power := by
  have hcopies (l : List Commit) (u : State) : (forAll l writeCopy u).power = u.power := by
    induction l generalizing u with
    | nil => rfl
    | cons x l ih => exact ih (writeCopy x u)
  unfold finishWriter
  split
  · exact hcopies _ s
  · rfl

section
variable (c : Sel) (f : SelSt → SelSt)

theorem readmitUnit_modSel (u : UnitRef) (s : State) : readmitUnit u (modSel c f s) = modSel c f (readmitUnit u s) := by
  cases u <;> rfl

theorem readmitStates_modSel (w : Why) (s : State) : readmitStates w (modSel c f s) = modSel c f (readmitStates w s) := by
  unfold readmitStates
  split
  · exact readmitUnit_modSel c f _ s
  · exact (congrArg _ (forAll_comm (readmitUnit_modSel c f) _ s)).trans (forAll_comm (f := readmitPockets) (fun _ _ => rfl) _ _)
  · exact forAll_comm (readmitUnit_modSel c f) _ s
  · rfl

theorem recordBody_modSel (r : RecId) (s : State) : (modSel c f s).recordBody r = s.recordBody r := by
  cases r <;> rfl

theorem copies_modSel (k : Commit) (s : State) : (modSel c f s).copies k = s.copies k := by
  unfold State.copies
  simp only [readmitStates_modSel, recordBody_modSel]

theorem finishWriter_modSel (s : State) : finishWriter (modSel c f s) = modSel c f (finishWriter s) := by
  unfold finishWriter
  rw [show (modSel c f s).lining = s.lining from rfl]
  split
  · unfold writeCopies
    rw [copies_modSel, forAll_comm (f := writeCopy) (g := modSel c f) fun _ _ => rfl]
    rfl
  · rfl

end

/-- A reset clears what a frame leaves on its select. -/
theorem enterReset_endFrame (c : Sel) (data : List Byte) (st : Byte) (detail : Nat) (s : State) :
    enterReset (endFrame c data st detail s) = enterReset s := by
  unfold enterReset endFrame
  rw [finishWriter_modSel]
  rfl

/-- RESET# low and high again is the software reset but for the cause it leaves. -/
theorem resetKey_as_pin {s : State} (hphase : s.ready = true ∨ s.power.phase = .fold) (htap : s.power.extest = false) :
    ∃ a b, exec .resetAssert s = .next a ∧ exec .resetRelease a = .next b ∧
      softReset s = { b with power := { b.power with cause := 2 } } := by
  have hlow : exec .resetAssert s = .next (settleTap (modPower (fun p => { p with rstLow := true }) (enterReset s))) := by
    refine congrArg (fun u => Host.Outcome.next (settleTap (modPower (fun p => { p with rstLow := true }) u))) ?_
    split
    all_goals simp_all [State.ready]
  refine ⟨_, _, hlow, rfl, ?_⟩
  dsimp only
  rw [if_pos (by rfl)]
  have hextest : (enterReset s).power.extest = false := (congrArg Power.extest (finishWriter_power s)).trans htap
  unfold softReset
  generalize enterReset s = r at hextest
  simp [leaveReset, settleTap, modPower, hextest]

/-- Settles O34. -/
theorem resetKeyWrites : Obligations.ResetKeyWrites := by
  intro c v s h
  have hexec := exec_gblRstWrite h v
  refine ⟨hexec, fun hv htap => ?_⟩
  obtain ⟨hserves, hearly, hfold, hrole, hsl, hshown⟩ := (State.custodian_iff s c 0).mp h
  have hready : s.ready = true := by
    rw [State.early, hfold] at hearly
    simpa using hearly
  obtain ⟨a, b, ha, hb, hreset⟩ := resetKey_as_pin (.inl hready) htap
  refine ⟨a, b, ha, hb, ?_⟩
  rw [hexec, if_pos hv, ← hreset, softReset, enterReset_endFrame, softReset]

/-! ### KEY_DOOR and MMF -/

/-- The door's word written: policy, MAINT and the time its minute runs from, and the writes that hardware overrode. -/
def doorPut (act maint maintAt drops : Nat) (s : State) : State :=
  { modLining (fun l => { l with act := act, maint := maint, maintAt := maintAt }) s with dropw := min 65535 (s.dropw + drops) }

theorem writeDoor_host {v : Word} {h : WordHw} (hm : h.mirror = none) (s : State) :
    writeDoor v h s =
      if field v 0 2 = s.lining.act then doorPut (field v 0 2) (field v 2 8) s.now 0 s
      else raise 0x4020 (pend ⟨.door, .empty, false, .door, none⟩ (doorPut (field v 0 2) (field v 2 8) s.now 0 s)) := by
  have hmaint : field v 2 8 % 256 = field v 2 8 := Nat.mod_mod _ _
  unfold writeDoor
  simp only [hm, stWrite, hmaint, Option.isSome_none, Bool.false_eq_true, if_false, decide_eq_true_eq, ne_eq, ite_not]
  rfl

theorem writeDoor_mirrored {v : Word} {h : WordHw} {n : Nat} (hm : h.mirror = some n) (hn : n < 256) {s : State}
    (hact : field v 0 2 = s.lining.act) :
    writeDoor v h s = doorPut (field v 0 2) n (s.lining.maintAt + 60000000) 1 s := by
  unfold writeDoor
  simp only [hm, stWrite, Nat.mod_eq_of_lt hn, Option.isSome_some, if_true, hact, ne_eq, not_true, decide_false, Bool.false_eq_true,
    if_false, doorPut, modLining, satAdd, Nat.reducePow, Nat.reduceSub]

theorem writeOne_door {c : Sel} {s : State} (h : s.custodian c 7 = true) (v : Word) (hw : List HwUpdate) :
    writeOne c 7 0 v hw s = writeDoor v (wordHw 0 hw) (endFrame c [] stOk 0 s) :=
  writeOne_custodian h (by decide) 0 (by decide) v hw

/-- Settles O35. -/
theorem doorWrites : Obligations.DoorWrites := by
  refine ⟨fun c v s h => ?_, fun c v again s h => ⟨?_, fun p hmmf => ?_⟩⟩
  · intro u put
    have hlining : u.lining = s.lining := rfl
    have hnow : u.now = s.now := rfl
    have hput (m t : Nat) : doorPut (field v 0 2) m t 0 u = { put m t u with dropw := min 65535 s.dropw } := rfl
    have hdrop (m t : Nat) : doorPut (field v 0 2) m t 1 u = { put m t u with dropw := min 65535 (s.dropw + 1) } := rfl
    have hhost : exec (.keyDoorActWrite c v) s = .next (writeDoor v (wordHw 0 []) u) := congrArg Host.Outcome.next (writeOne_door h v [])
    have hmirror : 0 < s.lining.maint → exec (.keyDoorMaintWrite c v true) s =
        .next (writeDoor v (wordHw 0 [.mirror 0 (s.lining.maint - 1)]) u) := fun hpos => by
      have hdec : (true && decide (0 < s.lining.maint)) = true := by simpa using hpos
      exact (congrArg (fun hw => Host.Outcome.next (writeOne c 7 0 v hw s)) (if_pos hdec)).trans
        (congrArg Host.Outcome.next (writeOne_door h v _))
    have hfree : exec (.keyDoorMaintWrite c v false) s = .next (writeDoor v (wordHw 0 []) u) :=
      congrArg Host.Outcome.next (writeOne_door h v [])
    refine ⟨fun hact => ?_, fun hact => ?_, fun hact hpos hmax => ?_, fun hact => ?_, fun hpos hdue => ?_⟩
    · rw [hhost, writeDoor_host rfl, hlining, if_pos hact, hput, hnow]
    · rw [hhost, writeDoor_host rfl, hlining, if_neg hact, hput, hnow]
    · rw [hmirror hpos, writeDoor_mirrored (s := u) (n := s.lining.maint - 1) rfl (by omega) hact, hlining, hdrop]
    · rw [hfree, writeDoor_host rfl, hlining, if_pos hact, hput, hnow]
    · exact congrArg Host.Outcome.next (if_pos ⟨hpos, hdue⟩)
  · refine congrArg Host.Outcome.next ((writeOne_custodian h (by decide) 3 (by decide) v _).trans ?_)
    have hset (j : Nat) (hj : j < 2) : (hwSets 0 [.setBits 0 (again.setWidth 32)]).getLsbD j = again.getLsbD j := by
      simp [hwSets, BitVec.getLsbD_setWidth]
      omega
    have hmmf (j : Nat) (hj : j < 2) (old : Bool) : hsBit j old v (wordHw 0 [.setBits 0 (again.setWidth 32)]) =
        ((old && !v.getLsbD j) || again.getLsbD j) := by
      rw [hsBit_eq, wordHw, hset j hj]
    show modPort 1 (fun p => { p with mmf := hsBit 1 p.mmf v _ }) (modPort 0 (fun p => { p with mmf := hsBit 0 p.mmf v _ }) _) = _
    simp only [hmmf 0 (by decide), hmmf 1 (by decide)]
  · simp [State.portMasters, hmmf]

end Sys2Proof.Machine
end

section
/-! SUPPORT. The log's opcodes and the ports' opcodes. -/

namespace Sys2Proof.Machine

section
variable {t : Take} {op : Byte} {p : Packet} {s : State}

theorem next_takeWith {kind : Byte → Word → Bool} (h : Admitted t op p s) (hk : kind p.op p.arg = true) (body : Cmd → State → State) :
    (.next (takeWith t kind body s) : Res) = .next (body (s.cmdOf t.sl p) (s.takenBy t.sl p)) :=
  congrArg Host.Outcome.next (takeWith_admitted t op p kind body s h hk)

theorem next_takeWith_argOnly {kind : Byte → Word → Bool} {mask : Word} (h : Admitted t op p s) (hk : kind p.op p.arg = true)
    (ha : argBits p.arg mask = true) (hp : p.params = []) (body : Cmd → State → State) :
    (.next (takeWith t kind (argOnly mask body) s) : Res) = .next (body (s.cmdOf t.sl p) (s.takenBy t.sl p)) :=
  (next_takeWith h hk _).trans (congrArg Host.Outcome.next (argOnly_taken (c := s.cmdOf t.sl p) ha hp _))

end

/-- A refusal that is neither AUTH_FAIL nor REPLAY only answers. -/
theorem refused_taken {i : Sleeve} {p : Packet} {st : Byte} {s u : State} (hu : u = answer s.nextCmd st [] (s.takenBy i p))
    (ha : st ≠ stAuthFail) (hr : st ≠ stReplay) : Replied i p st [] s u ∧ OnlyAnswered i s u :=
  hu ▸ answer_takenBy_uncounted i p st [] s ha hr

section
variable {i : Sleeve} {s t : State} (h : OnlyAnswered i s t)
include h

theorem OnlyAnswered.log : t.log = s.log := by rw [h]

theorem OnlyAnswered.fabric : t.fabric = s.fabric := by rw [h]

theorem OnlyAnswered.power : t.power = s.power := by rw [h]

theorem OnlyAnswered.ports : t.ports = s.ports := by rw [h]

theorem OnlyAnswered.capture : t.capture = s.capture := by rw [h]

theorem OnlyAnswered.bist : t.bist = s.bist := by rw [h]

theorem OnlyAnswered.threads : t.threads = s.threads := by rw [h]

theorem OnlyAnswered.digest : t.digest = s.digest := by rw [h]

theorem OnlyAnswered.pool : t.pool = s.pool := by rw [h]

theorem OnlyAnswered.lining : t.lining = s.lining := by rw [h]

theorem OnlyAnswered.floor : t.floor = s.floor := by rw [h]

theorem OnlyAnswered.pushes : (t.sleeve i).pushes = (s.sleeve i).pushes := by
  rw [h]
  simp [State.sleeve]

theorem OnlyAnswered.streams : (t.sleeve i).streams = (s.sleeve i).streams ∧ (t.sleeve i).runs = (s.sleeve i).runs := by
  rw [h]
  simp [State.sleeve]

end

/-! ### The log's opcodes -/

theorem logReadLrBody_custodian {c : Cmd} {s : State} (hlen : c.params.length = 1) (hmin : 1 ≤ field c.arg 0 3)
    (hmax : field c.arg 0 3 ≤ 4) (hsl : c.sl = 0) :
    logReadLrBody c s = answer c.id stOk (natBytes 4 s.log.overflow ++
        (((s.log.lr.filter (fun e => !e.2)).take (field c.arg 0 3)).map (·.1)).flatMap LogEntry.bytes)
      (modLog (fun l => { l with lr := markRead (field c.arg 0 3) l.lr }) s) := by
  unfold logReadLrBody
  dsimp only [argCount]
  rw [if_neg (by omega), if_neg (not_not.mpr hsl)]

theorem logReadLrBody_other {c : Cmd} {s : State} (hlen : c.params.length = 1) (hmin : 1 ≤ field c.arg 0 3)
    (hmax : field c.arg 0 3 ≤ 4) (hsl : c.sl ≠ 0) : logReadLrBody c s = answer c.id stNotOwner [] s := by
  unfold logReadLrBody
  dsimp only [argCount]
  rw [if_neg (by omega), if_pos hsl]

theorem logVerifyBody_waits {c : Cmd} {s : State} {first count : Word} (hp : c.params = [first, count]) (h0 : count.toNat ≠ 0)
    (hmax : count.toNat ≤ 8192) (hkey : s.log.keyOk = true) (hsusp : s.logSusp = false) (hfree : s.log.verify = none) :
    logVerifyBody c s = modLog (fun l => { l with verify := some (c.id, first, count.toNat) }) s := by
  unfold logVerifyBody
  rw [hp]
  dsimp only
  rw [if_neg (by omega), if_neg (by rw [hkey, hsusp]; nofun), if_neg (by rw [hfree]; nofun)]

theorem logVerifyBody_fenced {c : Cmd} {s : State} {first count : Word} (hp : c.params = [first, count]) (h0 : count.toNat ≠ 0)
    (hmax : count.toNat ≤ 8192) (hfenced : s.log.keyOk = false ∨ s.logSusp = true) :
    logVerifyBody c s = answer c.id stFenced [] s := by
  unfold logVerifyBody
  rw [hp]
  dsimp only
  rw [if_neg (by omega), if_pos]
  obtain h | h := hfenced <;> simp [h]

theorem logMarkBody_soon {c : Cmd} {s : State} {a b : Word} (hp : c.params = [a, b])
    (hsoon : everySecond (s.sleeve c.sl).lastMark s.now = false) : logMarkBody c s = answer c.id stBusy [] s := by
  unfold logMarkBody
  rw [hp]
  exact if_pos (by rw [hsoon]; rfl)

/-- The event of a LOG_MARK with the words `a` and `b`. -/
def markEv (s : State) (i : Sleeve) (id : Nat) (a b : Word) : Ev :=
  { mkEv s 0x8001 i.val (wordBytes a ++ wordBytes b) with cmd := some id }

/-- A mark's event is given to the handler as it is: its rank is neither 2 nor 3. -/
theorem offer_mark (s u : State) (i : Sleeve) (id : Nat) (a b : Word) :
    offer (markEv s i id a b) u =
      ({ u with log := (placeEv (markEv s i id a b) u.log).1 }, (placeEv (markEv s i id a b) u.log).2) := by
  have hrank : (markEv s i id a b).rank = 0 := show rankOf 0x8001 = 0 by decide
  simp [offer, hrank]

theorem placeEv_lost {e : Ev} {l : Log} (h : (placeEv e l).2 = false) : (placeEv e l).1 = countLost l := by
  revert h
  unfold placeEv
  (repeat' split) <;> simp

theorem logMarkBody_offers {c : Cmd} {s : State} {a b : Word} (hp : c.params = [a, b])
    (hsoon : everySecond (s.sleeve c.sl).lastMark s.now = true) :
    logMarkBody c s =
      let r := offer (markEv s c.sl c.id a b) s
      if r.2 then r.1 else answer c.id stBusy [] r.1 := by
  have hbytes : paramBytes c = wordBytes a ++ wordBytes b := by
    rw [paramBytes, hp]
    simp [wordsBytes]
  unfold logMarkBody
  rw [hp]
  dsimp only
  rw [if_neg (by rw [hsoon]; nofun), hbytes]
  rfl

/-- Settles O25. -/
theorem logOpcodes : Obligations.LogOpcodes := by
  refine ⟨fun t p s => ⟨fun h h7 ha hlen hmin hmax => ?_, fun first count h hp h0 hmax => ?_⟩, fun t p s a b h hp => ?_⟩
  · have hexec : exec (.logReadLr t) s = .next (logReadLrBody (s.cmdOf t.sl p) (s.takenBy t.sl p)) :=
      (next_takeWith h (by rw [h.opcode, h7]; rfl) _).trans (congrArg _ (argParams_taken (c := s.cmdOf t.sl p) ha _))
    refine ⟨fun hsl => ⟨_, hexec, ?_⟩, fun hsl => ⟨_, hexec, ?_⟩⟩
    · rw [logReadLrBody_custodian (c := s.cmdOf t.sl p) hlen hmin hmax hsl]
      exact answered_change _ (modLog fun l => { l with lr := markRead (field p.arg 0 3) l.lr }) rfl rfl rfl
    · obtain ⟨hrep, honly⟩ := refused_taken (logReadLrBody_other (c := s.cmdOf t.sl p) (s := s.takenBy t.sl p) hlen hmin hmax hsl)
        (by decide) (by decide)
      exact ⟨hrep, honly.log⟩
  · have hexec : exec (.logVerify t) s = .next (logVerifyBody (s.cmdOf t.sl p) (s.takenBy t.sl p)) := next_takeOp h _
    refine ⟨fun hkey hsusp hfree => ?_, fun hfenced => ⟨_, hexec, ?_⟩⟩
    · rw [hexec, logVerifyBody_waits (c := s.cmdOf t.sl p) (s := s.takenBy t.sl p) hp h0 hmax hkey hsusp hfree]
      rfl
    · obtain ⟨hrep, honly⟩ := refused_taken (logVerifyBody_fenced (c := s.cmdOf t.sl p) (s := s.takenBy t.sl p) hp h0 hmax hfenced)
        (by decide) (by decide)
      exact ⟨hrep, honly.log⟩
  · intro e
    have hexec : exec (.logMark t) s = .next (logMarkBody (s.cmdOf t.sl p) (s.takenBy t.sl p)) := next_takeOp h _
    have hlast : everySecond ((s.takenBy t.sl p).sleeve t.sl).lastMark (s.takenBy t.sl p).now =
        everySecond (s.sleeve t.sl).lastMark s.now := by
      rw [sleevePart_takenBy SleeveSt.lastMark fun _ _ _ => rfl]
      rfl
    have hbody (hsoon : everySecond (s.sleeve t.sl).lastMark s.now = true) :
        logMarkBody (s.cmdOf t.sl p) (s.takenBy t.sl p) =
          if (placeEv e s.log).2 then { s.takenBy t.sl p with log := (placeEv e s.log).1 }
          else answer s.nextCmd stBusy [] { s.takenBy t.sl p with log := (placeEv e s.log).1 } := by
      rw [logMarkBody_offers (c := s.cmdOf t.sl p) hp (hlast.trans hsoon), offer_mark]
      rfl
    refine ⟨fun hsoon hplaced => ?_, fun hsoon hplaced => ⟨_, hexec, ?_⟩, fun hsoon => ⟨_, hexec, ?_⟩⟩
    · rw [hexec, hbody hsoon, if_pos hplaced]
    · rw [hbody hsoon, if_neg (by rw [hplaced]; nofun)]
      obtain ⟨hrep, honly⟩ := answer_takenBy_uncounted t.sl p stBusy [] { s with log := (placeEv e s.log).1 } (by decide) (by decide)
      exact ⟨hrep, honly.log.trans (placeEv_lost hplaced)⟩
    · obtain ⟨hrep, honly⟩ := refused_taken (logMarkBody_soon (c := s.cmdOf t.sl p) (s := s.takenBy t.sl p) hp (hlast.trans hsoon))
        (by decide) (by decide)
      exact ⟨hrep, honly.log⟩

/-! ### A sleeve's parts that Tailor does not look at -/

/-- A change of a sleeve that Tailor's checks, its round and the take itself take no notice of. -/
structure Unseen (g : SleeveSt → SleeveSt) : Prop where
  health   : ∀ x, (g x).health = x.health
  removing : ∀ x, (g x).removing = x.removing
  replies  : ∀ x, (g x).replies = x.replies
  cmdq     : ∀ x, (g x).cmdq = x.cmdq
  tmo      : ∀ x, (g x).tmo = x.tmo
  taking   : ∀ x id p, g (SleeveSt.taking x id p) = SleeveSt.taking (g x) id p

/-- A part of a sleeve that a change leaves, read back in any sleeve. -/
theorem sleevePart_modSleeve {α : Type} {g : SleeveSt → SleeveSt} (part : SleeveSt → α) (hpart : ∀ x, part (g x) = part x)
    (i j : Sleeve) (s : State) : part ((modSleeve j g s).sleeve i) = part (s.sleeve i) := by
  by_cases h : j = i
  · subst h
    rw [sleeve_modSleeve_same, hpart]
  · rw [sleeve_modSleeve_ne _ _ _ _ h]

section
variable {g : SleeveSt → SleeveSt} (hg : Unseen g) (i j : Sleeve) (p : Packet) (s : State)
include hg

theorem Unseen.mayTake : (modSleeve j g s).mayTake i = s.mayTake i := by
  unfold State.mayTake
  simp only [sleevePart_modSleeve SleeveSt.health hg.health, sleevePart_modSleeve SleeveSt.removing hg.removing,
    sleevePart_modSleeve SleeveSt.replies hg.replies]
  rfl

theorem Unseen.noteTake : noteTake i (modSleeve j g s) = modSleeve j g (noteTake i s) := by
  have hleft : (modSleeve j g s).roundLeft = s.roundLeft := by
    simp only [State.roundLeft, hg.mayTake, sleevePart_modSleeve SleeveSt.cmdq hg.cmdq]
    rfl
  simp only [Machine.noteTake, hleft]
  rfl

theorem Unseen.cmdOf : (modSleeve j g s).cmdOf i p = s.cmdOf i p := by
  simp only [State.cmdOf, SleeveSt.tmoUs, sleevePart_modSleeve SleeveSt.tmo hg.tmo]
  rfl

theorem Unseen.takenBy : modSleeve i g (s.takenBy i p) = (modSleeve i g s).takenBy i p := by
  simp only [State.takenBy, hg.noteTake, hg.cmdOf]
  exact (congrArg (modCmd s.nextCmd (fun k => { k with accepted := true }))
    (modSleeve_comm (f := fun x => x.taking s.nextCmd p) (fun x => (hg.taking x s.nextCmd p).symm)
      { Machine.noteTake i s with cmds := s.cmdOf i p :: s.cmds, nextCmd := s.nextCmd + 1 })).symm

end

theorem answered_unseen {i : Sleeve} {p : Packet} {st : Byte} {s : State} (payload : List Byte) {g : SleeveSt → SleeveSt}
    (hg : Unseen g) (hst : executed st = true) :
    Answered i p st payload (modSleeve i g s) (answer s.nextCmd st payload (modSleeve i g (s.takenBy i p))) :=
  answered_change payload (modSleeve i g) (hg.takenBy i p s) rfl hst

theorem unseen_push (e : Fin 4) (f : PushEntry → PushEntry) : Unseen (fun x => { x with pushes := vmod x.pushes e f }) :=
  ⟨fun _ => rfl, fun _ => rfl, fun _ => rfl, fun _ => rfl, fun _ => rfl, fun _ _ _ => rfl⟩

/-! ### PUSH_SCHEDULE -/

theorem modPush_congr {i : Sleeve} {e : Fin 4} {f g : PushEntry → PushEntry} {s : State}
    (h : f ((s.sleeve i).pushes.get e) = g ((s.sleeve i).pushes.get e)) : modPush i e f s = modPush i e g s := by
  refine modSleeve_congr ?_
  simp only [vmod, h]

/-- PUSH_SCHEDULE takes its action and answers OK. -/
theorem pushSchedule_answered {t : Take} {p : Packet} {s : State} {a : Nat → PushAct} (g : PushEntry → PushEntry)
    (hact : field p.arg 8 2 ≠ 3)
    (hg : takeAct (a s.now) ((s.sleeve t.sl).pushes.get (argInst p.arg)) = g ((s.sleeve t.sl).pushes.get (argInst p.arg))) :
    Answered t.sl p stOk [] (modPush t.sl (argInst p.arg) g s)
      (pushScheduleBody a (s.cmdOf t.sl p) (s.takenBy t.sl p)) := by
  have hbody : pushScheduleBody a (s.cmdOf t.sl p) (s.takenBy t.sl p) =
      answer s.nextCmd stOk [] (modPush t.sl (argInst p.arg) (takeAct (a s.now)) (s.takenBy t.sl p)) := if_neg hact
  rw [hbody, ← modPush_congr hg]
  exact answered_unseen [] (unseen_push _ _) rfl

theorem takeAct_open {a : PushAct} {x : PushEntry} (h : x.opened = true) : takeAct a x = { x with acts := x.acts ++ [a] } :=
  if_pos h

theorem takeAct_closed {a : PushAct} {x : PushEntry} (h : x.opened = false) : takeAct a x = PushAct.apply x a :=
  if_neg (by rw [h]; nofun)

/-! ### LANE_CONFIG and LINK_TRAIN -/

theorem codeWidth_pow {n : Nat} (h0 : n ≠ 0) (h : n < 4) : codeWidth n = 2 ^ n := by
  interval_cases n
  · exact absurd rfl h0
  all_goals rfl

theorem field_lt (w : Word) (lo len : Nat) : field w lo len < 2 ^ len := Nat.mod_lt _ (Nat.two_pow_pos len)

theorem codeWidth_eq_zero (n : Nat) (h : n < 4) : codeWidth n = 0 ↔ n = 0 := by
  interval_cases n <;> decide

theorem codeWidth_eq_eight (n : Nat) (h : n < 4) : codeWidth n = 8 ↔ n = 3 := by
  interval_cases n <;> decide

theorem argPort_port {arg : Word} {k : Fin 3} (h : field arg 0 2 = k.val) : argPort arg = some k := by
  have hlt : field arg 0 2 < 3 := h ▸ k.isLt
  rw [argPort, dif_pos hlt]
  exact congrArg some (Fin.ext h)

theorem argPort_flash {arg : Word} (h : field arg 0 2 = 3) : argPort arg = none := dif_neg (by omega)

theorem laneConfigBody_flash {c : Cmd} {s : State} (hport : field c.arg 0 2 = 3) (hw : field c.arg 4 2 ≠ 0) :
    laneConfigBody c s = answer c.id stOk (natBytes 4 (2 ^ (2 ^ field c.arg 4 2) - 1))
      (modXip (fun x => { x with fWidth := 2 ^ field c.arg 4 2 }) s) := by
  have hlt := field_lt c.arg 4 2
  have hne : 2 ^ field c.arg 4 2 ≠ 0 := (Nat.two_pow_pos _).ne'
  unfold laneConfigBody
  simp only [argPort_flash hport, codeWidth_pow hw hlt, if_neg hne]

/-- A width that the port may be given. -/
theorem laneWidth_fits {k : Fin 3} {n : Nat} (hm : ¬ (k = 2 ∧ n = 3)) : ¬ (2 ^ n = 0 ∨ (k = 2 ∧ 2 ^ n = 8)) := by
  rintro (h | ⟨hk, h⟩)
  · exact (Nat.two_pow_pos n).ne' h
  · exact hm ⟨hk, Nat.pow_right_injective (le_refl 2) h⟩

theorem laneConfigBody_retrains {c : Cmd} {s : State} {k : Fin 3} (hport : field c.arg 0 2 = k.val) (hw : field c.arg 4 2 ≠ 0)
    (hm : ¬ (k = 2 ∧ field c.arg 4 2 = 3)) (hlanes : 2 ^ field c.arg 4 2 ≤ (s.lanesUp k).length)
    (hst : (s.ports.ports.get k).health.st ≠ .retired) :
    laneConfigBody c s = retrain c.id k (modPort k (fun x => { x with config := 2 ^ field c.arg 4 2 }) s) := by
  have hlt := field_lt c.arg 4 2
  unfold laneConfigBody
  simp only [argPort_port hport, codeWidth_pow hw hlt, if_neg (laneWidth_fits hm),
    if_neg (not_or.mpr ⟨Nat.not_lt.mpr hlanes, hst⟩)]

theorem laneConfigBody_fenced {c : Cmd} {s : State} {k : Fin 3} (hport : field c.arg 0 2 = k.val) (hw : field c.arg 4 2 ≠ 0)
    (hm : ¬ (k = 2 ∧ field c.arg 4 2 = 3))
    (hf : (s.lanesUp k).length < 2 ^ field c.arg 4 2 ∨ (s.ports.ports.get k).health.st = .retired) :
    laneConfigBody c s = answer c.id stFenced [] s := by
  have hlt := field_lt c.arg 4 2
  unfold laneConfigBody
  simp only [argPort_port hport, codeWidth_pow hw hlt, if_neg (laneWidth_fits hm), if_pos hf]

theorem laneConfigBody_badWidth {c : Cmd} {s : State} (h : field c.arg 4 2 = 0 ∨ field c.arg 0 2 = 2 ∧ field c.arg 4 2 = 3) :
    laneConfigBody c s = answer c.id stBadLength [] s := by
  have hlt := field_lt c.arg 4 2
  unfold laneConfigBody
  dsimp only
  cases hp : argPort c.arg with
  | none =>
    refine if_pos ((codeWidth_eq_zero _ hlt).mpr (h.resolve_right fun hm => ?_))
    rw [argPort_port (k := 2) hm.1] at hp
    exact nomatch hp
  | some k =>
    refine if_pos ?_
    rw [codeWidth_eq_zero _ hlt, codeWidth_eq_eight _ hlt]
    refine h.imp_right fun hm => ⟨?_, hm.2⟩
    rw [argPort_port (k := 2) hm.1] at hp
    exact (Option.some.inj hp).symm

theorem linkTrainBody_retrains {c : Cmd} {s : State} {k : Fin 3} (hport : field c.arg 0 2 = k.val)
    (hst : (s.ports.ports.get k).health.st ≠ .retired) : linkTrainBody c s = retrain c.id k s := by
  unfold linkTrainBody
  simp only [argPort_port hport, if_neg hst]

theorem linkTrainBody_fenced {c : Cmd} {s : State} {k : Fin 3} (hport : field c.arg 0 2 = k.val)
    (hst : (s.ports.ports.get k).health.st = .retired) : linkTrainBody c s = answer c.id stFenced [] s := by
  unfold linkTrainBody
  simp only [argPort_port hport, if_pos hst]

theorem linkTrainBody_flash {c : Cmd} {s : State} (hport : field c.arg 0 2 = 3) :
    linkTrainBody c s = answer c.id stBadLength [] s := by
  unfold linkTrainBody
  simp only [argPort_flash hport]

/-- Retraining takes the port down and has the command wait. -/
theorem retrain_port (id : Nat) (k : Fin 3) (s : State) :
    (retrain id k s).ports.ports.get k =
      { s.ports.ports.get k with trained := false, waiters := (s.ports.ports.get k).waiters ++ [id] } := by
  simp [retrain, untrain, modPort, modPorts, vget_vmod_same]

theorem modPort_port (k : Fin 3) (f : PortSt → PortSt) (s : State) :
    (modPort k f s).ports.ports.get k = f (s.ports.ports.get k) := vget_vmod_same _ _ _

/-- Settles O26. -/
theorem portOpcodes : Obligations.PortOpcodes := by
  refine ⟨fun t p s h ha hp => ?_, fun t p s hp => ⟨fun h ha hport hw => ?_, fun k hport hw hm h ha => ⟨fun hlanes hst => ?_,
    fun hf => ?_⟩, fun k hport h ha => ⟨fun hst => ?_, fun hst => ?_⟩, fun h ha hbad => ?_, fun h ha hport => ?_⟩⟩
  · intro e x
    have hrearm : field p.arg 8 2 = 0 ∨ field p.arg 8 2 = 3 → exec (.pushScheduleRearm t) s =
        .next (pushScheduleBody (fun _ => .rearm) (s.cmdOf t.sl p) (s.takenBy t.sl p)) := fun hact =>
      next_takeWith_argOnly h (by rw [h.opcode]; simpa [pushAction] using hact) ha hp _
    have hreepoch : field p.arg 8 2 = 1 → exec (.pushScheduleReepoch t) s =
        .next (pushScheduleBody .reepoch (s.cmdOf t.sl p) (s.takenBy t.sl p)) := fun hact =>
      next_takeWith_argOnly h (by rw [h.opcode]; simpa [pushAction] using hact) ha hp _
    have hsuspend : field p.arg 8 2 = 2 → exec (.pushScheduleSuspend t) s =
        .next (pushScheduleBody (fun _ => .suspend) (s.cmdOf t.sl p) (s.takenBy t.sl p)) := fun hact =>
      next_takeWith_argOnly h (by rw [h.opcode]; simpa [pushAction] using hact) ha hp _
    refine ⟨fun hact hx => ⟨_, hrearm (.inl hact), ?_⟩, fun hact hx => ⟨_, hrearm (.inl hact), ?_⟩,
      fun hact hx => ⟨_, hreepoch hact, ?_⟩, fun hact hx => ⟨_, hreepoch hact, ?_⟩, fun hact hx => ⟨_, hsuspend hact, ?_⟩,
      fun hact hx => ⟨_, hsuspend hact, ?_⟩, fun hact => ⟨_, hrearm (.inr hact), ?_⟩⟩
    · exact pushSchedule_answered _ (by omega) (takeAct_closed hx)
    · exact pushSchedule_answered _ (by omega) (takeAct_open hx)
    · exact pushSchedule_answered _ (by omega) (takeAct_closed hx)
    · exact pushSchedule_answered _ (by omega) (takeAct_open hx)
    · exact pushSchedule_answered _ (by omega) (takeAct_closed hx)
    · exact pushSchedule_answered _ (by omega) (takeAct_open hx)
    · have hbody : pushScheduleBody (fun _ => .rearm) (s.cmdOf t.sl p) (s.takenBy t.sl p) =
          answer s.nextCmd stBadLength [] (s.takenBy t.sl p) := if_pos hact
      obtain ⟨hrep, honly⟩ := refused_taken hbody (by decide) (by decide)
      exact ⟨hrep, honly.pushes⟩
  · refine ⟨_, next_takeOp_argOnly h ha hp laneConfigBody, ?_⟩
    rw [laneConfigBody_flash (c := s.cmdOf t.sl p) hport hw]
    exact answered_change _ (modXip fun x => { x with fWidth := 2 ^ field p.arg 4 2 }) rfl rfl rfl
  · have hexec := (next_takeOp_argOnly h ha hp laneConfigBody).trans (congrArg Host.Outcome.next
      (laneConfigBody_retrains (c := s.cmdOf t.sl p) (s := s.takenBy t.sl p) hport hw hm hlanes hst))
    refine ⟨hexec, _, hexec, ?_⟩
    rw [retrain_port, modPort_port]
    exact ⟨rfl, rfl, rfl⟩
  · obtain ⟨hrep, honly⟩ := refused_taken (laneConfigBody_fenced (c := s.cmdOf t.sl p) (s := s.takenBy t.sl p) hport hw hm hf)
      (by decide) (by decide)
    exact ⟨_, next_takeOp_argOnly h ha hp laneConfigBody, hrep, honly.ports⟩
  · have hexec := (next_takeOp_argOnly h ha hp linkTrainBody).trans (congrArg Host.Outcome.next
      (linkTrainBody_retrains (c := s.cmdOf t.sl p) (s := s.takenBy t.sl p) hport hst))
    refine ⟨hexec, _, hexec, ?_⟩
    rw [retrain_port]
    exact ⟨rfl, rfl, rfl⟩
  · obtain ⟨hrep, honly⟩ := refused_taken (linkTrainBody_fenced (c := s.cmdOf t.sl p) (s := s.takenBy t.sl p) hport hst)
      (by decide) (by decide)
    exact ⟨_, next_takeOp_argOnly h ha hp linkTrainBody, hrep, honly.ports⟩
  · obtain ⟨hrep, honly⟩ := refused_taken (laneConfigBody_badWidth (c := s.cmdOf t.sl p) (s := s.takenBy t.sl p) hbad)
      (by decide) (by decide)
    exact ⟨_, next_takeOp_argOnly h ha hp laneConfigBody, hrep, honly.ports⟩
  · obtain ⟨hrep, honly⟩ := refused_taken (linkTrainBody_flash (c := s.cmdOf t.sl p) (s := s.takenBy t.sl p) hport)
      (by decide) (by decide)
    exact ⟨_, next_takeOp_argOnly h ha hp linkTrainBody, hrep, honly.ports⟩

end Sys2Proof.Machine
end

section
/-! SUPPORT. Patterns, streams and fold: what the fabric's bookkeeping leaves. -/

namespace Sys2Proof.Machine

/-! ### What events and the pool's marks leave -/

/-- A sleeve without its alert bits. -/
def SleeveSt.unalerted (x : SleeveSt) : SleeveSt := { x with alrt := 0 }

/-- The state without its log, its pool and its alert bits: what events and the pool's own bookkeeping leave. -/
def State.calm (s : State) : State := { s with log := .reset, pool := .reset, sleeves := s.sleeves.map SleeveSt.unalerted }

@[simp] theorem calm_modPool (f : Pool → Pool) (s : State) : (modPool f s).calm = s.calm := rfl

@[simp] theorem calm_modLog (f : Log → Log) (s : State) : (modLog f s).calm = s.calm := rfl

@[simp] theorem calm_modPS (i : Sleeve) (f : PoolSleeve → PoolSleeve) (s : State) : (modPS i f s).calm = s.calm := rfl

/-- A sleeve changed in nothing that a map sees leaves the mapped sleeves. -/
theorem map_vmod {α β : Type} {n : Nat} (m : α → β) {g : α → α} (hg : ∀ x, m (g x) = m x) (v : Vector α n) (i : Fin n) :
    (vmod v i g).map m = v.map m := by
  ext j hj
  simp only [Vector.getElem_map]
  by_cases h : i.val = j
  · subst h
    rw [show (vmod v i g)[i.val] = g (v.get i) from vget_vmod_same v i g, hg]
    rfl
  · exact congrArg m (vget_vmod_ne v i ⟨j, hj⟩ g fun e => h (congrArg Fin.val e))

@[simp] theorem calm_alert (i : Sleeve) (bits : BitVec 7) (s : State) : (alert i bits s).calm = s.calm := by
  have hmap : (vmod s.sleeves i fun x => { x with alrt := x.alrt ||| bits }).map SleeveSt.unalerted =
      s.sleeves.map SleeveSt.unalerted := map_vmod _ (g := fun x : SleeveSt => { x with alrt := x.alrt ||| bits }) (fun _ => rfl) _ _
  unfold alert modSleeve State.calm
  simp only [hmap]

theorem calm_offer {e : Ev} (h : e.rank ≠ 3) (s : State) : (offer e s).1.calm = s.calm := by
  simp only [offer, if_neg h]
  rfl

theorem calm_offerEv {code : BitVec 16} (h : rankOf code ≠ 3) (u : State) (src : Nat) (data : List Byte) (s : State) :
    (offer (mkEv u code src data) s).1.calm = s.calm := calm_offer h s

theorem calm_raiseS {code : BitVec 16} (h : rankOf code ≠ 3) (i : Sleeve) (data : List Byte) (s : State) :
    (raiseS code i data s).calm = s.calm := calm_offerEv h s _ _ s

theorem calm_raiseD {code : BitVec 16} (h : rankOf code ≠ 3) (data : List Byte) (s : State) :
    (raiseD code data s).calm = s.calm := calm_offerEv h s _ _ s

theorem calm_raiseA {code : BitVec 16} (h : rankOf code ≠ 3) (data : List Byte) {act : State → State}
    (hact : ∀ u, (act u).calm = u.calm) (s : State) : (raiseA code data act s).calm = s.calm := by
  unfold raiseA
  dsimp only
  split
  · rw [hact, calm_offerEv h]
  · exact calm_offerEv h s _ _ s

theorem calm_forAll {β : Type} {f : β → State → State} (h : ∀ x s, (f x s).calm = s.calm) (l : List β) (s : State) :
    (forAll l f s).calm = s.calm := by
  induction l generalizing s with
  | nil => rfl
  | cons x l ih => exact (ih (f x s)).trans (h x s)

theorem calm_judgeSleeve (i : Sleeve) (s : State) : (judgeSleeve i s).calm = s.calm := by
  unfold judgeSleeve
  extract_lets x a t x' u
  have ht : t.calm = s.calm := by
    unfold t
    split
    · unfold when'
      split
      · exact (calm_modPS _ _ _).trans ((calm_raiseS (by decide) _ _ _).trans (calm_modPS _ _ _))
      · exact calm_modPS _ _ _
    · rfl
  have hu : u.calm = t.calm := by
    unfold u
    split
    · exact (calm_raiseS (by decide) _ _ _).trans (calm_modPS _ _ _)
    · rfl
  refine Eq.trans ?_ (hu.trans ht)
  split
  · split
    · rw [calm_alert, calm_offerEv (by decide), calm_modPS]
    · rw [calm_offerEv (by decide), calm_modPS]
  · rfl

theorem calm_judgeGlobal (s : State) : (judgeGlobal s).calm = s.calm := by
  unfold judgeGlobal
  dsimp only
  split
  · exact (calm_raiseA (by decide) _ (calm_alert 0 2) _).trans (calm_modPool _ _)
  · split <;> rfl

@[simp] theorem calm_judge (s : State) : (judge s).calm = s.calm :=
  (calm_judgeGlobal _).trans (calm_forAll calm_judgeSleeve _ s)

@[simp] theorem calm_addUsed (i : Sleeve) (k : Nat) (s : State) : (addUsed i k s).calm = s.calm := calm_judge _

@[simp] theorem calm_subUsed (i : Sleeve) (k : Nat) (s : State) : (subUsed i k s).calm = s.calm := by
  unfold subUsed
  split
  · rfl
  · exact calm_judge _

@[simp] theorem calm_releasePockets (ks : List Nat) (s : State) : (releasePockets ks s).calm = s.calm := rfl

/-! ### What the fabric's bookkeeping leaves -/

/-- A sleeve without what answers and alerts write. -/
def SleeveSt.still (x : SleeveSt) : SleeveSt :=
  { x with replies := [], consumed := [], cache := [], authf := 0, replay := 0, lastAuth := none, lastReplay := none, alrt := 0 }

/-- A sleeve without its streams either. -/
def SleeveSt.unstreamed (x : SleeveSt) : SleeveSt := { x.still with streams := Vector.replicate 4 .reset }

/-- The state without what the fabric's bookkeeping, its answers and its events write, its sleeves seen through `m`. -/
def State.seenBy (m : SleeveSt → SleeveSt) (s : State) : State :=
  { s with
    log := .reset, pool := .reset, fabric := .reset, yoke := .reset, lining := .reset, cmds := []
    sleeves := s.sleeves.map m }

/-- The state without what the fabric's bookkeeping, its answers and its events write. -/
def State.still (s : State) : State := s.seenBy SleeveSt.still

theorem cmds_of_calm {s t : State} (h : t.calm = s.calm) : t.cmds = s.cmds := by
  simpa only [State.calm] using congrArg State.cmds h

theorem fabric_of_calm {s t : State} (h : t.calm = s.calm) : t.fabric = s.fabric := by
  simpa only [State.calm] using congrArg State.fabric h

theorem still_of_calm {s t : State} (h : t.calm = s.calm) : t.still = s.still := by
  have hcalm (u : State) : u.still = u.calm.still := by
    simp only [State.still, State.seenBy, State.calm, Vector.map_map]
    rfl
  rw [hcalm t, hcalm s, h]

theorem seenBy_modSleeve {m g : SleeveSt → SleeveSt} (hg : ∀ x, m (g x) = m x) (i : Sleeve) (s : State) :
    (modSleeve i g s).seenBy m = s.seenBy m := by
  have hmap : (vmod s.sleeves i g).map m = s.sleeves.map m := map_vmod _ hg _ _
  simp only [modSleeve, State.seenBy, hmap]

theorem still_modSleeve {g : SleeveSt → SleeveSt} (hg : ∀ x, (g x).still = x.still) (i : Sleeve) (s : State) :
    (modSleeve i g s).still = s.still := seenBy_modSleeve hg i s

theorem still_noteStatus (i : Sleeve) (st : Byte) (s : State) : (noteStatus i st s).still = s.still := by
  have hraise {code : BitVec 16} (h : rankOf code ≠ 3) (u : State) : (raiseS code i [] u).still = u.still :=
    still_of_calm (calm_raiseS h i [] u)
  unfold noteStatus
  split
  · extract_lets t
    have ht : t.still = s.still := still_modSleeve (by intro x; rfl) _ _
    split
    · exact (hraise (by decide) _).trans ((still_modSleeve (by intro x; rfl) _ _).trans ht)
    · exact ht
  · split
    · extract_lets t
      have ht : t.still = s.still := still_modSleeve (by intro x; rfl) _ _
      split
      · exact (hraise (by decide) _).trans ((still_modSleeve (by intro x; rfl) _ _).trans ht)
      · exact ht
    · rfl

theorem still_answerWith (key : Option (List Byte × List Byte)) (id : Nat) (st : Byte) (payload : List Byte) (pockets : List Nat)
    (plen : Nat) (s : State) : (answerWith key id st payload pockets plen s).still = s.still := by
  have hcache (c : Cmd) (r : Reply) (u : State) : (settleCache c r u).still = u.still := by
    refine still_modSleeve (fun x => ?_) _ _
    split <;> rfl
  unfold answerWith
  split
  · rfl
  · exact (still_noteStatus _ _ _).trans ((hcache _ _ _).trans (still_modSleeve (by intro x; rfl) _ _))

theorem still_answer (id : Nat) (st : Byte) (payload : List Byte) (s : State) : (answer id st payload s).still = s.still := by
  unfold answer answerP
  split
  · rfl
  · exact still_answerWith _ _ _ _ _ _ _

theorem still_answerOpt (id : Option Nat) (st : Byte) (payload : List Byte) (s : State) :
    (answerOpt id st payload s).still = s.still := by
  cases id with
  | none => rfl
  | some k => exact still_answer k st payload s

/-! The commands in flight, but for those of the fabric's operations -/

/-- From `s` to `t` the fabric's bookkeeping ran, its sleeves seen through `m`: operations may end and change, no command is theirs
that was not before, and the command `id`, where it is none of theirs, stays in flight. -/
structure Bookkeeps (m : SleeveSt → SleeveSt) (id : Nat) (s t : State) : Prop where
  seen : t.seenBy m = s.seenBy m
  cmd  : t.findCmd id = s.findCmd id
  ops  : ∀ o ∈ t.fabric.ops, o.cmd = none ∨ ∃ o' ∈ s.fabric.ops, o.cmd = o'.cmd

/-- The bookkeeping left the streams. -/
abbrev Settles : Nat → State → State → Prop := Bookkeeps SleeveSt.still

/-- The bookkeeping may have changed streams. -/
abbrev Restreams : Nat → State → State → Prop := Bookkeeps SleeveSt.unstreamed

/-- No operation of the fabric is the command's. -/
def State.noOpOf (s : State) (id : Nat) : Prop := ∀ o ∈ s.fabric.ops, o.cmd ≠ some id

section
variable {id : Nat} {m : SleeveSt → SleeveSt}

theorem Bookkeeps.refl (s : State) : Bookkeeps m id s s := ⟨rfl, rfl, fun o ho => .inr ⟨o, ho, rfl⟩⟩

theorem Bookkeeps.trans {s t u : State} (h : Bookkeeps m id s t) (h' : Bookkeeps m id t u) : Bookkeeps m id s u where
  seen := h'.seen.trans h.seen
  cmd := h'.cmd.trans h.cmd
  ops o ho := by
    obtain hnone | ⟨o', ho', he⟩ := h'.ops o ho
    · exact .inl hnone
    · rw [he]
      exact h.ops o' ho'

theorem Bookkeeps.noOp {s t : State} (h : Bookkeeps m id s t) (hs : s.noOpOf id) : t.noOpOf id := fun o ho => by
  obtain hnone | ⟨o', ho', he⟩ := h.ops o ho
  · rw [hnone]
    nofun
  · exact he ▸ hs o' ho'

theorem Bookkeeps.of_eq {s t : State} (h : t.seenBy m = s.seenBy m) (hc : t.cmds = s.cmds) (ho : t.fabric.ops = s.fabric.ops) :
    Bookkeeps m id s t := ⟨h, by rw [State.findCmd, hc]; rfl, fun o hm => .inr ⟨o, ho ▸ hm, rfl⟩⟩

theorem Settles.of_calm {s t : State} (h : t.calm = s.calm) : Settles id s t :=
  .of_eq (still_of_calm h) (cmds_of_calm h) (congrArg Fabric.ops (fabric_of_calm h))

/-- What leaves the streams may be seen without them. -/
theorem Settles.restreams {s t : State} (h : Settles id s t) : Restreams id s t where
  seen := by
    have hsee (u : State) : u.seenBy SleeveSt.unstreamed = (u.seenBy SleeveSt.still).seenBy SleeveSt.unstreamed := by
      simp only [State.seenBy, Vector.map_map]
      rfl
    rw [hsee t, hsee s, h.seen]
  cmd := h.cmd
  ops := h.ops

/-- A part of a sleeve that the view shows is left. -/
theorem Bookkeeps.sleevePart {α : Type} {part : SleeveSt → α} (hpart : ∀ x, part (m x) = part x) {s t : State}
    (h : Bookkeeps m id s t) (i : Sleeve) : part (t.sleeve i) = part (s.sleeve i) := by
  have hmap : t.sleeves.map m = s.sleeves.map m := by simpa only [State.seenBy] using congrArg State.sleeves h.seen
  have hget : m (t.sleeve i) = m (s.sleeve i) := by
    have hi := congrArg (fun v => v[i.val]) hmap
    simp only [Vector.getElem_map] at hi
    exact hi
  rw [← hpart, hget, hpart]

/-- Operations run one after another, while a command is none of theirs. -/
theorem bookkeeps_forAll {β : Type} {f : β → State → State} {l : List β}
    (h : ∀ x ∈ l, ∀ s : State, s.noOpOf id → Bookkeeps m id s (f x s)) {s : State} (hs : s.noOpOf id) :
    Bookkeeps m id s (forAll l f s) := by
  induction l generalizing s with
  | nil => exact .refl s
  | cons x l ih =>
    have hx := h x List.mem_cons_self s hs
    exact hx.trans (ih (fun y hy => h y (List.mem_cons_of_mem _ hy)) (hx.noOp hs))

/-- Operations of which each runs the bookkeeping alone, one after another. -/
theorem Bookkeeps.forAll {β : Type} {f : β → State → State} (h : ∀ x s, Bookkeeps m id s (f x s)) (l : List β) (s : State) :
    Bookkeeps m id s (forAll l f s) := by
  induction l generalizing s with
  | nil => exact .refl s
  | cons x l ih => exact (h x s).trans (ih (f x s))

theorem settles_modOp (n : Nat) {f : Op → Op} (hf : ∀ o, (f o).cmd = o.cmd) (s : State) : Settles id s (modOp n f s) where
  seen := rfl
  cmd := rfl
  ops o ho := by
    obtain ⟨o', ho', rfl⟩ := List.mem_map.mp ho
    refine .inr ⟨o', ho', ?_⟩
    split
    · exact hf o'
    · rfl

/-- The fabric changed but for its operations. -/
theorem settles_modFabric {f : Fabric → Fabric} (hf : ∀ x, (f x).ops = x.ops) (s : State) : Settles id s (modFabric f s) :=
  .of_eq rfl rfl (hf s.fabric)

theorem settles_modInst (i : Sleeve) (k : Fin 4) (f : Inst → Inst) (s : State) : Settles id s (modInst i k f s) :=
  .of_eq rfl rfl rfl

theorem settles_raiseD {code : BitVec 16} (h : rankOf code ≠ 3) (data : List Byte) (s : State) :
    Settles id s (raiseD code data s) := .of_calm (calm_raiseD h data s)

theorem settles_raiseS {code : BitVec 16} (h : rankOf code ≠ 3) (i : Sleeve) (data : List Byte) (s : State) :
    Settles id s (raiseS code i data s) := .of_calm (calm_raiseS h i data s)

theorem settles_releaseTags (i : Sleeve) (k : Nat) (s : State) : Settles id s (releaseTags i k s) := settles_modFabric (by intro _; rfl) s

theorem settles_removeOp (n : Nat) (s : State) : Settles id s (removeOp n s) := by
  unfold removeOp
  split
  · exact .refl s
  · rename_i o _
    extract_lets clearLane t u
    have ht : Settles id s t := ⟨rfl, rfl, fun p hp => .inr ⟨p, List.mem_of_mem_filter hp, rfl⟩⟩
    have hu : Settles id t u := .of_calm (calm_subUsed _ _ _)
    refine (ht.trans hu).trans ?_
    split
    · exact .refl u
    · exact .refl u
    · exact settles_releaseTags _ _ u

theorem noteStatus_calmParts (i : Sleeve) (st : Byte) (s : State) :
    (noteStatus i st s).cmds = s.cmds ∧ (noteStatus i st s).fabric = s.fabric := by
  unfold noteStatus
  split
  · extract_lets t
    split
    · have h := calm_raiseS (code := 0x0010) (by decide) i [] (modSleeve i (fun x => { x with lastAuth := some t.now }) t)
      exact ⟨(cmds_of_calm h).trans rfl, (fabric_of_calm h).trans rfl⟩
    · exact ⟨rfl, rfl⟩
  · split
    · extract_lets t
      split
      · have h := calm_raiseS (code := 0x0011) (by decide) i [] (modSleeve i (fun x => { x with lastReplay := some t.now }) t)
        exact ⟨(cmds_of_calm h).trans rfl, (fabric_of_calm h).trans rfl⟩
      · exact ⟨rfl, rfl⟩
    · exact ⟨rfl, rfl⟩

/-- An answered command is no longer in flight; the fabric stays. -/
theorem answer_cmds (k : Nat) (st : Byte) (payload : List Byte) (s : State) :
    (answer k st payload s).cmds = s.cmds.filter (fun c => c.id != k) ∧ (answer k st payload s).fabric = s.fabric := by
  unfold answer answerP
  cases hk : s.findCmd k with
  | none =>
    refine ⟨(List.filter_eq_self.mpr fun c hc => ?_).symm, rfl⟩
    have := List.find?_eq_none.mp hk c hc
    simpa using this
  | some c =>
    simp only [answerWith, hk]
    obtain ⟨hcmds, hfabric⟩ := noteStatus_calmParts c.sl st (settleCache c (s.sealReply c.sl c.sealed (s.cmdKeyOf c.sl)
      (replyFor c st payload [] 0)) (post c.sl (s.sealReply c.sl c.sealed (s.cmdKeyOf c.sl) (replyFor c st payload [] 0)) (dropCmd k s)))
    exact ⟨hcmds, hfabric⟩

/-- Answering another command leaves this one. -/
theorem settles_answer {k : Nat} (hk : k ≠ id) (st : Byte) (payload : List Byte) (s : State) :
    Settles id s (answer k st payload s) where
  seen := still_answer k st payload s
  cmd := by
    rw [State.findCmd, (answer_cmds k st payload s).1, List.find?_filter, State.findCmd]
    refine congrArg (fun q => s.cmds.find? q) (funext fun c => ?_)
    by_cases h : c.id = id
    · simp [h, Ne.symm hk]
    · simp [h]
  ops o ho := .inr ⟨o, (answer_cmds k st payload s).2 ▸ ho, rfl⟩

theorem settles_answerOpt {c : Option Nat} (hc : c ≠ some id) (st : Byte) (payload : List Byte) (s : State) :
    Settles id s (answerOpt c st payload s) := by
  cases c with
  | none => exact .refl s
  | some k => exact settles_answer (fun h => hc (congrArg some h)) st payload s

theorem settles_refuseOp {o : Op} (ho : o.cmd ≠ some id) (st : Byte) (s : State) : Settles id s (refuseOp o st s) :=
  (settles_removeOp o.id s).trans (settles_answerOpt ho st [] _)

theorem settles_dropDrawer (n : Nat) (s : State) : Settles id s (modFabric (fun f => f.dropDrawer n) s) :=
  settles_modFabric (by intro f; unfold Fabric.dropDrawer; dsimp only; split <;> rfl) s

theorem settles_requeue (o : Op) (s : State) : Settles id s (requeue o s) :=
  ((Settles.of_calm (calm_subUsed _ _ s)).trans (settles_modOp _ (by intro _; rfl) _)).trans (settles_dropDrawer _ _)

theorem settles_noteShort (s : State) : Settles id s (noteShort s) := by
  unfold noteShort
  extract_lets was t
  have ht : Settles id s t := .of_eq rfl rfl rfl
  split
  · exact ht
  · exact ht.trans (settles_raiseD (by decide) [] t)

theorem settles_joinDrawers (o : Op) (units : Nat) (s : State) : Settles id s (joinDrawers o units s) := by
  unfold joinDrawers
  extract_lets t
  have ht : Settles id s t := (settles_modOp o.id (by intro _; rfl) s).trans (settles_modFabric (by intro f; split <;> rfl) _)
  split
  · exact ht.trans (settles_noteShort t)
  · exact ht

theorem settles_afterBooking (o : Op) (s : State) : Settles id s (afterBooking o s) := by
  unfold afterBooking
  split
  · exact settles_joinDrawers o _ s
  · split
    · exact settles_joinDrawers o 3 s
    · split
      · exact settles_modOp o.id (by intro _; rfl) s
      · exact settles_modOp o.id (by intro _; rfl) s

theorem settles_tryBook (o : Op) (s : State) : Settles id s (tryBook o s) := by
  unfold tryBook
  split
  · exact ((Settles.of_calm (calm_addUsed _ _ s)).trans (settles_modOp _ (by intro _; rfl) _)).trans (settles_afterBooking o _)
  · exact settles_modOp o.id (by intro _; rfl) s

theorem settles_exhaust {o : Op} (ho : o.cmd ≠ some id) (s : State) : Settles id s (exhaust o s) := by
  unfold exhaust
  extract_lets x t
  have ht : Settles id s t := by
    unfold t
    split
    · exact .refl s
    · exact (settles_modInst _ _ _ s).trans (settles_raiseS (by decide) _ _ _)
  split
  · exact ht
  · exact ht.trans (settles_refuseOp ho _ t)

theorem settles_startHead {o : Op} (ho : o.cmd ≠ some id) (s : State) : Settles id s (startHead o s) := by
  have hrefuse (st : Byte) := settles_refuseOp ho st s
  unfold startHead
  extract_lets x
  split
  · (repeat' split) <;> first | exact hrefuse _ | exact settles_joinDrawers o 3 s
  · (repeat' split) <;> first | exact hrefuse _ | exact settles_joinDrawers o 3 s
  · split
    · exact hrefuse _
    · split
      · exact hrefuse _
      · exact (settles_modOp o.id (by intro _; rfl) s).trans (.of_eq rfl rfl rfl)
  · split
    · exact hrefuse _
    · exact settles_tryBook o s
  · (repeat' split) <;> first | exact hrefuse _ | exact settles_exhaust ho s | exact settles_tryBook o s
  · (repeat' split) <;> first | exact hrefuse _ | exact settles_exhaust ho s | exact settles_tryBook o s
  · split
    · exact settles_tryBook o s
    · exact .refl s

theorem settles_fenceWaiting {s : State} (hs : s.noOpOf id) : Settles id s (fenceWaiting s) := by
  refine bookkeeps_forAll (fun o ho t _ => ?_) hs
  have hcmd := hs o (List.mem_of_mem_filter ho)
  split
  · exact settles_requeue o t
  · exact settles_refuseOp hcmd _ t

theorem settles_settleHeads (n : Nat) {s : State} (hs : s.noOpOf id) : Settles id s (settleHeads n s) := by
  induction n generalizing s with
  | zero => exact .refl s
  | succ n ih =>
    unfold settleHeads
    split
    · exact .refl s
    · rename_i o ho
      have h := settles_startHead (hs o (List.mem_of_find?_eq_some ho)) s
      exact h.trans (ih (h.noOp hs))

/-- Settling the fabric leaves every command that is none of its operations', and what the bookkeeping does not write. -/
theorem settles_settleFabric {s : State} (hs : s.noOpOf id) : Settles id s (settleFabric s) := by
  unfold settleFabric
  split
  · have h := settles_fenceWaiting hs
    exact h.trans (settles_settleHeads _ (h.noOp hs))
  · exact .refl s

end

/-! ### The reply to a command still in flight -/

theorem lastReply_answer {i : Sleeve} {p : Packet} {s u : State} (hcmd : u.findCmd s.nextCmd = some { s.cmdOf i p with accepted := true })
    (st : Byte) (payload : List Byte) (ha : st ≠ stAuthFail) (hr : st ≠ stReplay) :
    LastReply i p st payload (answer s.nextCmd st payload u) := by
  let c : Cmd := { s.cmdOf i p with accepted := true }
  obtain ⟨tag, ns, hseal, -⟩ := sealReply_fields u i p.sealed (u.cmdKeyOf i) (replyFor c st payload [] 0)
  obtain ⟨consumed, cache, hcache⟩ := settleCache_eq (i := i) (c := c) rfl
    { replyFor c st payload [] 0 with sealTag := tag, noseal := ns }
    (post i { replyFor c st payload [] 0 with sealTag := tag, noseal := ns } (dropCmd s.nextCmd u))
  have hans : answer s.nextCmd st payload u = modSleeve i (fun x => { x with consumed := consumed, cache := cache })
      (post i { replyFor c st payload [] 0 with sealTag := tag, noseal := ns } (dropCmd s.nextCmd u)) := by
    rw [← hcache, ← hseal]
    simp only [answer, answerP, answerWith, hcmd, noteStatus_uncounted _ _ _ ha hr]
    rfl
  refine ⟨{ replyFor c st payload [] 0 with sealTag := tag, noseal := ns }, ?_, rfl, rfl, rfl, ?_, rfl, rfl⟩
  · rw [hans]
    simp only [post, sleeve_modSleeve_same]
    exact List.getLast?_concat
  · show (if p.echo then p.bytes.take 12 ++ payload else payload) = _
    split <;> rfl

/-- A part of a sleeve that answers do not write. -/
theorem sleevePart_answer {α : Type} {part : SleeveSt → α} (hpart : ∀ x, part x.still = part x) (id : Nat) (st : Byte)
    (payload : List Byte) (s : State) (i : Sleeve) : part ((answer id st payload s).sleeve i) = part (s.sleeve i) :=
  Bookkeeps.sleevePart (m := SleeveSt.still) hpart (settles_answer (id := id + 1) (Nat.succ_ne_self id).symm st payload s) i

/-! ### Streams and patterns in the fabric -/

section
variable {id : Nat}

theorem settles_spoilInst (i : Sleeve) (k : Fin 4) (s : State) : Settles id s (spoilInst i k s) := settles_modInst i k _ s

theorem settles_withdrawOp (n : Nat) (worked : Op → Bool) (s : State) : Settles id s (withdrawOp n worked s) := by
  unfold withdrawOp
  split
  · exact .refl s
  · rename_i o _
    extract_lets lane t
    have ht : Settles id s t := (settles_removeOp n s).trans (Settles.of_calm (calm_releasePockets _ _))
    split
    · exact ht.trans (settles_spoilInst _ _ t)
    · exact ht

theorem settles_newRequest (i : Sleeve) (n k : Fin 4) (s : State) : Settles id s (newRequest i n k s) where
  seen := rfl
  cmd := rfl
  ops o ho := by
    obtain hold | hnew := List.mem_append.mp ho
    · exact .inr ⟨o, hold, rfl⟩
    · exact .inl (by rw [List.mem_singleton.mp hnew])

theorem restreams_modStream (i : Sleeve) (n : Fin 4) (f : Stream → Stream) (s : State) : Restreams id s (modStream i n f s) :=
  .of_eq (seenBy_modSleeve (by intro x; rfl) i s) rfl rfl

theorem settles_unbind (i : Sleeve) (n : Fin 4) (o : Op) (s : State) : Settles id s (unbind i n o s) := by
  unfold unbind
  split
  · exact settles_modOp o.id (by intro _; rfl) s
  · exact settles_withdrawOp o.id _ s

theorem settles_renewRequest (i : Sleeve) (n : Fin 4) (o : Op) (s : State) : Settles id s (renewRequest i n o s) := by
  unfold renewRequest
  extract_lets x bytes
  split
  · exact .refl s
  · exact (settles_requeue o s).trans (settles_modOp o.id (by intro _; rfl) _)

theorem restreams_settlePattern (i : Sleeve) (n : Fin 4) {s : State} (hs : s.noOpOf id) : Restreams id s (settlePattern i n s) := by
  unfold settlePattern
  extract_lets x
  split
  · unfold applyPattern
    extract_lets live p0 p1 new gone added mine t u v w
    have ht : Restreams id s t := restreams_modStream i n _ s
    have hu : Settles id t u := bookkeeps_forAll (fun o _ a _ => settles_unbind i n o a) (ht.noOp hs)
    have hv : Settles id u v := bookkeeps_forAll (fun o _ a _ => settles_renewRequest i n o a) (hu.noOp (ht.noOp hs))
    have hw : Settles id v w := settles_releaseTags i _ v
    have hx := (hu.trans hv).trans hw
    exact (ht.trans (Settles.restreams hx)).trans
      (Settles.restreams (bookkeeps_forAll (fun k _ a _ => settles_newRequest i n k a) (hx.noOp (ht.noOp hs))))
  · exact .refl s

end

/-! ### PATTERN_COMMIT -/

theorem addedTags_taking (x : SleeveSt) (id : Nat) (p : Packet) (bank : Vector Word 32) (n : Fin 4) :
    addedTags (x.taking id p) bank n = addedTags x bank n := rfl

/-- The tags that a commit of the shadow bank adds. -/
def State.commitTags (s : State) (i : Sleeve) : Nat :=
  (allFours.map (fun n => bitCount (addedTags (s.sleeve i) (s.sleeve i).shadow n))).sum

theorem commitTags_takenBy (i : Sleeve) (p : Packet) (s : State) : (s.takenBy i p).commitTags i = s.commitTags i := by
  unfold State.commitTags
  rw [sleeve_takenBy]
  rfl

/-- The state of a PATTERN_COMMIT whose tags are taken, before its answer. -/
def commitBank (i : Sleeve) (k : Nat) (s : State) : State :=
  settleFabric <| forAll allFours (settlePattern i) <| raiseS 0x2001 i (wordBytes (bankCrc (s.sleeve i).shadow)) <|
    modSleeve i (fun y => { y with
      live := y.shadow
      streams := y.streams.mapFinIdx (fun n z hn =>
        if z.running then { z with tags := z.tags ||| addedTags y y.shadow ⟨n, hn⟩, pend := true } else z) }) (takeTags i k s)

theorem patternCommitBody_commits {c : Cmd} {s : State} (h : s.fabric.tagRefusal c.sl (s.commitTags c.sl) = none) :
    patternCommitBody c s =
      answer c.id stOk (wordBytes (bankCrc (s.sleeve c.sl).shadow)) (commitBank c.sl (s.commitTags c.sl) s) := by
  unfold State.commitTags at h
  unfold patternCommitBody
  dsimp only
  rw [h]
  rfl

theorem patternCommitBody_quota {c : Cmd} {s : State} (h0 : 0 < s.commitTags c.sl)
    (hq : s.fabric.quotaOf c.sl < s.fabric.held.get c.sl + s.commitTags c.sl) :
    patternCommitBody c s = answer c.id stQuota [] s := by
  have h : s.fabric.tagRefusal c.sl (s.commitTags c.sl) = some stQuota := by
    rw [Fabric.tagRefusal, if_neg h0.ne', if_pos hq]
  unfold State.commitTags at h
  unfold patternCommitBody
  dsimp only
  rw [h]
  rfl

/-- A commit copies the bank and leaves every command that is no operation's. -/
theorem commitBank_copies {i : Sleeve} {k id : Nat} {s : State} (hs : s.noOpOf id) :
    ((commitBank i k s).sleeve i).live = (s.sleeve i).shadow ∧ ((commitBank i k s).sleeve i).shadow = (s.sleeve i).shadow ∧
      (commitBank i k s).findCmd id = s.findCmd id := by
  unfold commitBank
  generalize hv : modSleeve i _ (takeTags i k s) = v
  have hvno : v.noOpOf id := hv ▸ hs
  have hlive : (v.sleeve i).live = (s.sleeve i).shadow ∧ (v.sleeve i).shadow = (s.sleeve i).shadow := by
    rw [← hv, sleeve_modSleeve_same]
    exact ⟨rfl, rfl⟩
  have hraise := settles_raiseS (id := id) (code := 0x2001) (by decide) i (wordBytes (bankCrc (s.sleeve i).shadow)) v
  have hpat : Restreams id v (forAll allFours (settlePattern i) (raiseS 0x2001 i (wordBytes (bankCrc (s.sleeve i).shadow)) v)) :=
    (Settles.restreams hraise).trans (bookkeeps_forAll (fun n _ a ha => restreams_settlePattern i n ha) (hraise.noOp hvno))
  have hall := hpat.trans (Settles.restreams (settles_settleFabric (hpat.noOp hvno)))
  refine ⟨?_, ?_, ?_⟩
  · exact (Bookkeeps.sleevePart (m := SleeveSt.unstreamed) (part := SleeveSt.live) (fun _ => rfl) hall i).trans hlive.1
  · exact (Bookkeeps.sleevePart (m := SleeveSt.unstreamed) (part := SleeveSt.shadow) (fun _ => rfl) hall i).trans hlive.2
  · exact hall.cmd.trans (by rw [← hv]; rfl)

/-- Settles O17. -/
theorem patternCommitCopies : Obligations.PatternCommitCopies := by
  intro t p s h hp hops k
  have hexec : exec (.patternCommit t) s = .next (patternCommitBody (s.cmdOf t.sl p) (s.takenBy t.sl p)) :=
    next_takeOp_noParams h hp patternCommitBody
  have hk : (s.takenBy t.sl p).commitTags t.sl = k := commitTags_takenBy t.sl p s
  refine ⟨fun htags => ⟨_, hexec, ?_⟩, fun h0 hq => ⟨_, hexec, ?_⟩⟩
  · rw [patternCommitBody_commits (c := s.cmdOf t.sl p) (s := s.takenBy t.sl p) (hk ▸ htags)]
    have hshadow := sleevePart_takenBy SleeveSt.shadow (fun _ _ _ => rfl) t.sl t.sl p s
    obtain ⟨hlive, hsh, hcmd⟩ := commitBank_copies (i := t.sl) (k := (s.takenBy t.sl p).commitTags t.sl) (id := s.nextCmd)
      (s := s.takenBy t.sl p) hops
    refine ⟨?_, ?_, ?_⟩
    · exact (sleevePart_answer (fun _ => rfl) _ _ _ _ _).trans (hlive.trans hshadow)
    · exact (sleevePart_answer (fun _ => rfl) _ _ _ _ _).trans (hsh.trans hshadow)
    · rw [show ((s.takenBy t.sl p).sleeve (s.cmdOf t.sl p).sl).shadow = (s.sleeve t.sl).shadow from hshadow]
      exact lastReply_answer (hcmd.trans (findCmd_takenBy t.sl p s)) _ _ (by decide) (by decide)
  · obtain ⟨hrep, honly⟩ := refused_taken (patternCommitBody_quota (c := s.cmdOf t.sl p) (s := s.takenBy t.sl p) (hk ▸ h0)
      (hk ▸ hq)) (by decide) (by decide)
    exact ⟨hrep, honly.banks.2, honly.banks.1⟩

/-! ### STREAM_START -/

section
variable {id : Nat}

theorem settles_takeTags (i : Sleeve) (k : Nat) (s : State) : Settles id s (takeTags i k s) := settles_modFabric (by intro _; rfl) s

theorem settles_releasePockets (ks : List Nat) (s : State) : Settles id s (releasePockets ks s) := .of_calm (calm_releasePockets ks s)

end

theorem forAll_sleevePart {α β : Type} {part : SleeveSt → α} {f : β → State → State}
    (h : ∀ x s i, part ((f x s).sleeve i) = part (s.sleeve i)) (l : List β) (s : State) (i : Sleeve) :
    part ((forAll l f s).sleeve i) = part (s.sleeve i) := by
  induction l generalizing s with
  | nil => rfl
  | cons x l ih => exact (ih (f x s)).trans (h x s i)

/-- A part of a sleeve that a change of one sleeve does not write. -/
theorem modSleeve_sleevePart {α : Type} {part : SleeveSt → α} {f : SleeveSt → SleeveSt} (hf : ∀ x, part (f x) = part x) (i : Sleeve)
    (s : State) (j : Sleeve) : part ((modSleeve i f s).sleeve j) = part (s.sleeve j) := by
  by_cases h : j = i
  · subst h
    rw [sleeve_modSleeve_same, hf]
  · rw [sleeve_modSleeve_ne _ _ _ _ (Ne.symm h)]

theorem newEpoch_sleevePart {α : Type} {part : SleeveSt → α} (hpart : ∀ x v, part { x with pushes := v } = part x) (i : Sleeve)
    (n : Fin 4) (s : State) (j : Sleeve) : part ((newEpoch i n s).sleeve j) = part (s.sleeve j) :=
  forAll_sleevePart (fun _ t j => modSleeve_sleevePart (fun x => hpart x _) i t j) _ s j

/-- A new epoch of a stream's pushes is the pushes' own change. -/
theorem newEpoch_rest (i : Sleeve) (n : Fin 4) (s : State) :
    (newEpoch i n s).cmds = s.cmds ∧ (newEpoch i n s).fabric = s.fabric := by
  unfold newEpoch
  generalize allFours.filter _ = l
  induction l generalizing s with
  | nil => exact ⟨rfl, rfl⟩
  | cons e l ih => exact ih _

/-- The stream that a start begins. -/
def Stream.begun (x : SleeveSt) (n : Fin 4) (now : Nat) : Stream :=
  { Stream.reset with
    running := true, run := x.runs + 1, pat0 := x.live.get ⟨2 * n.val, by omega⟩
    pat1 := x.live.get ⟨2 * n.val + 1, by omega⟩, tags := patInst (x.live.get ⟨2 * n.val, by omega⟩), epoch := now }

/-- The state of a STREAM_START whose tags are taken, before its answer. -/
def startStream (i : Sleeve) (n : Fin 4) (s : State) : State :=
  let inst := patInst ((s.sleeve i).live.get ⟨2 * n.val, by omega⟩)
  s |> takeTags i (bitCount inst)
    |> releasePockets (((s.sleeve i).streams.get n).chain.map (·.pocket))
    |> modSleeve i (fun z => { z with runs := (s.sleeve i).runs + 1 })
    |> modStream i n (fun _ => Stream.begun (s.sleeve i) n s.now)
    |> newEpoch i n
    |> forAll (allFours.filter (fun k => inst.getLsbD k.val)) (newRequest i n)
    |> settleFabric

theorem streamStartBody_starts {c : Cmd} {s : State} (hstop : ((s.sleeve c.sl).streams.get (argInst c.arg)).running = false)
    (hruns : (s.sleeve c.sl).runs ≠ BitVec.allOnes 32) (haes : s.noAes = false)
    (htags : s.fabric.tagRefusal c.sl (bitCount (patInst ((s.sleeve c.sl).live.get ⟨2 * (argInst c.arg).val, by omega⟩))) = none) :
    streamStartBody c s = answer c.id stOk (wordBytes ((s.sleeve c.sl).runs + 1)) (startStream c.sl (argInst c.arg) s) := by
  unfold streamStartBody
  dsimp only
  rw [if_neg (not_or.mpr ⟨by simp [hstop], hruns⟩), if_neg (by simp [haes]), htags]
  rfl

theorem streamStartBody_running {c : Cmd} {s : State} (hrun : ((s.sleeve c.sl).streams.get (argInst c.arg)).running = true) :
    streamStartBody c s = answer c.id stBadOpcode [] s := if_pos (.inl hrun)

theorem startStream_begins {i : Sleeve} {n : Fin 4} {id : Nat} {s : State} (hs : s.noOpOf id) :
    ((startStream i n s).sleeve i).runs = (s.sleeve i).runs + 1 ∧
      ((startStream i n s).sleeve i).streams.get n = Stream.begun (s.sleeve i) n s.now ∧
      (startStream i n s).findCmd id = s.findCmd id := by
  unfold startStream
  dsimp only
  generalize hv : modStream i n _ _ = v
  have hv' : (v.sleeve i).runs = (s.sleeve i).runs + 1 ∧ (v.sleeve i).streams.get n = Stream.begun (s.sleeve i) n s.now ∧
      v.cmds = s.cmds ∧ v.fabric.ops = s.fabric.ops := by
    refine hv ▸ ⟨?_, ?_, rfl, rfl⟩
    · rw [modStream, sleeve_modSleeve_same]
      show (SleeveSt.runs (State.sleeve (modSleeve i _ _) i)) = _
      rw [sleeve_modSleeve_same]
    · rw [modStream, sleeve_modSleeve_same]
      exact vget_vmod_same _ _ _
  obtain ⟨hruns, hstream, hcmds, hops⟩ := hv'
  obtain ⟨hecmds, hefab⟩ := newEpoch_rest i n v
  have hno : (newEpoch i n v).noOpOf id := by
    intro o ho
    rw [hefab, hops] at ho
    exact hs o ho
  have hreq := bookkeeps_forAll (id := id) (l := allFours.filter (fun k =>
    (patInst ((s.sleeve i).live.get ⟨2 * n.val, by omega⟩)).getLsbD k.val)) (fun k _ a _ => settles_newRequest i n k a) hno
  have hall := hreq.trans (settles_settleFabric (hreq.noOp hno))
  refine ⟨?_, ?_, ?_⟩
  · exact (Bookkeeps.sleevePart (m := SleeveSt.still) (part := SleeveSt.runs) (fun _ => rfl) hall i).trans
      ((newEpoch_sleevePart (fun _ _ => rfl) i n v i).trans hruns)
  · exact (Bookkeeps.sleevePart (m := SleeveSt.still) (part := fun x => x.streams.get n) (fun _ => rfl) hall i).trans
      ((newEpoch_sleevePart (part := fun x => x.streams.get n) (fun _ _ => rfl) i n v i).trans hstream)
  · rw [hall.cmd, State.findCmd, hecmds, hcmds]
    rfl

/-! ### STREAM_STOP -/

/-- The chain that a stopped stream keeps. -/
def Stream.kept (y : Stream) : List Place :=
  match y.frames with
  | f :: _ => if wholeFrame f && f.all (fun q => q.filled && !q.dropped) then f else []
  | [] => []

theorem stopStream_stopped {i : Sleeve} {n : Fin 4} {s : State} (h : ((s.sleeve i).streams.get n).running = false) :
    stopStream i n s = s := by
  unfold stopStream
  dsimp only
  rw [h]
  rfl

/-- A stop's withdrawals leave the streams; then the stream is stopped. -/
theorem stopStream_stops {i : Sleeve} {n : Fin 4} {id : Nat} {s : State}
    (h : ((s.sleeve i).streams.get n).running = true) :
    let y := (s.sleeve i).streams.get n
    let z := ((stopStream i n s).sleeve i).streams.get n
    Restreams id s (stopStream i n s) ∧ z.running = false ∧ z.tags = 0 ∧ z.record = y.record ∧ z.chain = y.kept ∧
      (s.fabric.ops = [] → (stopStream i n s).fabric.ops = [] ∧ (stopStream i n s).fabric.held = vmod s.fabric.held i (· - bitCount y.tags)) := by
  intro y z
  have hrun : stopStream i n s = _ := if_neg (c := (!((s.sleeve i).streams.get n).running) = true) (by simp [h])
  generalize hw : forAll (s.fabric.ops.filter (fun o => o.kind == .stream n && o.sl == i)) (fun o => withdrawOp o.id Op.begun) s = w at hrun
  have hset : Settles id s w := hw ▸ Bookkeeps.forAll (fun (o : Op) a => settles_withdrawOp o.id Op.begun a) _ s
  have hy : (w.sleeve i).streams.get n = y := Bookkeeps.sleevePart (m := SleeveSt.still) (part := fun x => x.streams.get n) (fun _ => rfl) hset i
  have hz : ∃ seals, z = { (w.sleeve i).streams.get n with
      running := false, chain := ((w.sleeve i).streams.get n).kept, tags := 0, pend := false, seals := seals } := by
    show ∃ seals, ((stopStream i n s).sleeve i).streams.get n = _
    rw [hrun, modStream, sleeve_modSleeve_same]
    exact ⟨_, vget_vmod_same _ _ _⟩
  obtain ⟨seals, hz⟩ := hz
  rw [hy] at hz
  refine ⟨?_, hz ▸ rfl, hz ▸ rfl, hz ▸ rfl, hz ▸ rfl, fun hops => ?_⟩
  · rw [hrun]
    refine Bookkeeps.trans ?_ (restreams_modStream i n _ _)
    refine Settles.restreams (hset.trans (Bookkeeps.trans ?_ (settles_releaseTags i _ _)))
    exact settles_releasePockets _ w
  · have hws : w = s := by
      rw [← hw, hops]
      rfl
    rw [hrun, hws]
    exact ⟨hops, rfl⟩

theorem settleFabric_empty {s : State} (h : s.fabric.ops = []) : settleFabric s = s := by
  have hfence : fenceWaiting s = s := by
    rw [fenceWaiting, h]
    rfl
  rw [settleFabric, hfence, h]
  have hheads : settleHeads (([] : List Op).length + 1) s = s := by
    simp only [settleHeads, h, List.find?_nil]
  rw [hheads, ite_self]

theorem restreams_stopStream (i : Sleeve) (n : Fin 4) {id : Nat} (s : State) : Restreams id s (stopStream i n s) := by
  cases h : ((s.sleeve i).streams.get n).running with
  | true => exact (stopStream_stops h).1
  | false =>
    rw [stopStream_stopped h]
    exact .refl s

section
variable {t : Take} {p : Packet} {s : State} {n : Fin 4}

theorem exec_streamStart_starts (h : Admitted t 0x23 p s) (harg : argBits p.arg 0x3 = true) (hp : p.params = [])
    (hops : s.noOpOf s.nextCmd) (hn : argInst p.arg = n) (hstop : ((s.sleeve t.sl).streams.get n).running = false)
    (hruns : (s.sleeve t.sl).runs ≠ BitVec.allOnes 32) (haes : s.noAes = false)
    (htags : s.fabric.tagRefusal t.sl (bitCount (patInst ((s.sleeve t.sl).live.get ⟨2 * n.val, by omega⟩))) = none) :
    ∃ u, exec (.streamStart t) s = .next u ∧ (u.sleeve t.sl).runs = (s.sleeve t.sl).runs + 1 ∧
      LastReply t.sl p stOk (wordBytes ((s.sleeve t.sl).runs + 1)) u ∧
      (u.sleeve t.sl).streams.get n = Stream.begun (s.sleeve t.sl) n s.now := by
  subst hn
  have hlive := sleevePart_takenBy SleeveSt.live (fun _ _ _ => rfl) t.sl t.sl p s
  have hstreams := sleevePart_takenBy SleeveSt.streams (fun _ _ _ => rfl) t.sl t.sl p s
  have hr := sleevePart_takenBy SleeveSt.runs (fun _ _ _ => rfl) t.sl t.sl p s
  have hbody := streamStartBody_starts (c := s.cmdOf t.sl p) (s := s.takenBy t.sl p) (hstreams ▸ hstop) (hr ▸ hruns) haes
    (by rw [show ((s.takenBy t.sl p).sleeve (s.cmdOf t.sl p).sl).live = (s.sleeve t.sl).live from hlive]; exact htags)
  obtain ⟨hru, hst, hcmd⟩ := startStream_begins (i := t.sl) (n := argInst p.arg) (s := s.takenBy t.sl p) hops
  refine ⟨_, (next_takeOp_argOnly h harg hp streamStartBody).trans (congrArg Host.Outcome.next hbody), ?_, ?_, ?_⟩
  · exact (sleevePart_answer (part := SleeveSt.runs) (fun _ => rfl) _ _ _ _ _).trans (hru.trans (congrArg (· + 1) hr))
  · have hrep := lastReply_answer (hcmd.trans (findCmd_takenBy t.sl p s)) stOk
      (wordBytes (((s.takenBy t.sl p).sleeve t.sl).runs + 1)) (by decide) (by decide)
    rwa [← hr]
  · refine (sleevePart_answer (part := fun x => x.streams.get (argInst p.arg)) (fun _ => rfl) _ _ _ _ _).trans (hst.trans ?_)
    rw [Stream.begun, hr, hlive]
    rfl

theorem exec_streamStart_running (h : Admitted t 0x23 p s) (harg : argBits p.arg 0x3 = true) (hp : p.params = [])
    (hrun : ((s.sleeve t.sl).streams.get (argInst p.arg)).running = true) :
    ∃ u, exec (.streamStart t) s = .next u ∧ Replied t.sl p stBadOpcode [] s u ∧
      (u.sleeve t.sl).streams = (s.sleeve t.sl).streams ∧ (u.sleeve t.sl).runs = (s.sleeve t.sl).runs := by
  have hstreams := sleevePart_takenBy SleeveSt.streams (fun _ _ _ => rfl) t.sl t.sl p s
  obtain ⟨hrep, honly⟩ := refused_taken (streamStartBody_running (c := s.cmdOf t.sl p) (s := s.takenBy t.sl p)
    (hstreams ▸ hrun)) (by decide) (by decide)
  exact ⟨_, next_takeOp_argOnly h harg hp streamStartBody, hrep, honly.streams.1, honly.streams.2⟩

theorem exec_streamStop_stops (h : Admitted t 0x24 p s) (harg : argBits p.arg 0x3 = true) (hp : p.params = [])
    (hops : s.noOpOf s.nextCmd) (hn : argInst p.arg = n) :
    let y := (s.sleeve t.sl).streams.get n
    ∃ u, exec (.streamStop t) s = .next u ∧ LastReply t.sl p stOk (natBytes 4 (y.record.toNat % 65536)) u ∧
      (y.running = false → (u.sleeve t.sl).streams = (s.sleeve t.sl).streams) ∧
      (y.running = true → let z := (u.sleeve t.sl).streams.get n
        z.running = false ∧ z.tags = 0 ∧ z.record = y.record ∧ z.chain = y.kept ∧
        (s.fabric.ops = [] → u.fabric.held = vmod s.fabric.held t.sl (· - bitCount y.tags))) := by
  subst hn
  intro y
  have hstreams := sleevePart_takenBy SleeveSt.streams (fun _ _ _ => rfl) t.sl t.sl p s
  generalize hv : stopStream t.sl (argInst p.arg) (s.takenBy t.sl p) = v
  have hexec : exec (.streamStop t) s = .next (answer s.nextCmd stOk
      (natBytes 4 (((v.sleeve t.sl).streams.get (argInst p.arg)).record.toNat % 65536)) (settleFabric v)) :=
    hv ▸ next_takeOp_argOnly h harg hp streamStopBody
  have hstop : Restreams s.nextCmd (s.takenBy t.sl p) v := hv ▸ restreams_stopStream t.sl (argInst p.arg) _
  have hno : v.noOpOf s.nextCmd := hstop.noOp hops
  have hset := settles_settleFabric hno
  have hlast : ((answer s.nextCmd stOk (natBytes 4 (((v.sleeve t.sl).streams.get (argInst p.arg)).record.toNat % 65536)) (settleFabric v)).sleeve
      t.sl).streams = (v.sleeve t.sl).streams :=
    (sleevePart_answer (fun _ => rfl) _ _ _ _ _).trans
      (Bookkeeps.sleevePart (m := SleeveSt.still) (part := SleeveSt.streams) (fun _ => rfl) hset t.sl)
  have hcmd := hset.cmd.trans (hstop.cmd.trans (findCmd_takenBy t.sl p s))
  refine ⟨_, hexec, ?_, fun hy => ?_, fun hy => ?_⟩
  · have hrec : ((v.sleeve t.sl).streams.get (argInst p.arg)).record = y.record := by
      cases hrun : y.running with
      | false =>
        rw [← hv, stopStream_stopped (hstreams ▸ hrun), hstreams]
      | true =>
        obtain ⟨-, -, -, hrec, -⟩ := stopStream_stops (i := t.sl) (n := argInst p.arg) (id := s.nextCmd) (s := s.takenBy t.sl p) (hstreams ▸ hrun)
        rw [← hv, hrec, hstreams]
    rw [hrec]
    exact lastReply_answer hcmd _ _ (by decide) (by decide)
  · rw [hlast, ← hv, stopStream_stopped (hstreams ▸ hy), hstreams]
  · intro z
    obtain ⟨-, hrun, htags, hrec, hchain, hheld⟩ :=
      stopStream_stops (i := t.sl) (n := argInst p.arg) (id := s.nextCmd) (s := s.takenBy t.sl p) (hstreams ▸ hy)
    rw [hv] at hrun htags hrec hchain hheld
    rw [hstreams] at hrec hchain hheld
    have hz : z = (v.sleeve t.sl).streams.get (argInst p.arg) := congrArg (fun q => q.get (argInst p.arg)) hlast
    rw [hz]
    refine ⟨hrun, htags, hrec, hchain, fun hnone => ?_⟩
    obtain ⟨hvops, hheld⟩ := hheld hnone
    rw [(answer_cmds _ _ _ _).2, settleFabric_empty hvops]
    exact hheld

end

/-- Settles O18. -/
theorem streamsStartAndStop : Obligations.StreamsStartAndStop :=
  ⟨fun _ _ _ h harg hp hops => ⟨exec_streamStart_starts h harg hp hops rfl, exec_streamStart_running h harg hp⟩,
    fun _ _ _ h harg hp hops => exec_streamStop_stops h harg hp hops rfl⟩

/-! ### FOLD and RESUME -/

/-- A part of a sleeve that events leave. -/
theorem sleevePart_of_calm {α : Type} {part : SleeveSt → α} (hpart : ∀ x, part x.unalerted = part x) {s t : State}
    (h : t.calm = s.calm) (i : Sleeve) : part (t.sleeve i) = part (s.sleeve i) := by
  have hmap : t.sleeves.map SleeveSt.unalerted = s.sleeves.map SleeveSt.unalerted := by
    simpa only [State.calm] using congrArg State.sleeves h
  have hget : (t.sleeve i).unalerted = (s.sleeve i).unalerted := by
    have hi := congrArg (fun v => v[i.val]) hmap
    simp only [Vector.getElem_map] at hi
    exact hi
  rw [← hpart, hget, hpart]

theorem power_of_calm {s t : State} (h : t.calm = s.calm) : t.power = s.power := by
  simpa only [State.calm] using congrArg State.power h

theorem Bookkeeps.power {m : SleeveSt → SleeveSt} {id : Nat} {s t : State} (h : Bookkeeps m id s t) : t.power = s.power := by
  simpa only [State.seenBy] using congrArg State.power h.seen

theorem Bookkeeps.now {m : SleeveSt → SleeveSt} {id : Nat} {s t : State} (h : Bookkeeps m id s t) : t.now = s.now := by
  have htally : t.tally = s.tally := by simpa only [State.seenBy] using congrArg State.tally h.seen
  rw [State.now, htally]
  rfl

/-- What one step of a run over a list establishes and the others keep holds after the run. -/
theorem forAll_establishes {β : Type} {f : β → State → State} {P : State → Prop} {x : β} {l : List β} (hx : x ∈ l)
    (hest : ∀ s, P (f x s)) (hkeep : ∀ y s, P s → P (f y s)) (s : State) : P (forAll l f s) := by
  have hrest (l : List β) : ∀ s, P s → P (forAll l f s) := by
    induction l with
    | nil => exact fun _ h => h
    | cons y l ih => exact fun s h => ih _ (hkeep y s h)
  induction l generalizing s with
  | nil => nomatch hx
  | cons y l ih =>
    obtain rfl | hl := List.mem_cons.mp hx
    · exact hrest l _ (hest s)
    · exact ih hl _

/-- The stream does not run. -/
def State.stopped (s : State) (i : Sleeve) (n : Fin 4) : Prop := ((s.sleeve i).streams.get n).running = false

theorem stopped_stopStream (i : Sleeve) (n : Fin 4) (s : State) : (stopStream i n s).stopped i n := by
  cases h : ((s.sleeve i).streams.get n).running with
  | true =>
    obtain ⟨-, hrun, -⟩ := stopStream_stops (id := 0) h
    exact hrun
  | false =>
    rw [stopStream_stopped h]
    exact h

/-- A stop leaves the streams to its withdrawals, then stops its own. -/
theorem stopStream_eq (id : Nat) {i : Sleeve} {n : Fin 4} {s : State} (h : ((s.sleeve i).streams.get n).running = true) :
    ∃ (w : State) (f : Stream → Stream), Settles id s w ∧ (∀ y, (f y).running = false) ∧ stopStream i n s = modStream i n f w :=
  ⟨_, _, Bookkeeps.trans (Bookkeeps.trans (Bookkeeps.forAll (fun (o : Op) a => settles_withdrawOp o.id Op.begun a) _ s)
    (settles_releasePockets _ _)) (settles_releaseTags i _ _), by intro _; rfl, if_neg (by simp [h])⟩

theorem stopped_modStream {f : Stream → Stream} (hf : ∀ y, (f y).running = false) {j : Sleeve} {m : Fin 4} (i : Sleeve) (n : Fin 4)
    {s : State} (h : s.stopped i n) : (modStream j m f s).stopped i n := by
  unfold State.stopped modStream
  by_cases hi : j = i
  · subst hi
    rw [sleeve_modSleeve_same]
    by_cases hn : m = n
    · subst hn
      exact (congrArg Stream.running (vget_vmod_same _ _ _)).trans (hf _)
    · exact (congrArg Stream.running (vget_vmod_ne _ _ _ _ hn)).trans h
  · rw [sleeve_modSleeve_ne _ _ _ _ hi]
    exact h

theorem stopStream_keeps_stopped (i : Sleeve) (n : Fin 4) (j : Sleeve) (m : Fin 4) (s : State) (h : s.stopped i n) :
    (stopStream j m s).stopped i n := by
  cases hrun : ((s.sleeve j).streams.get m).running with
  | false => rwa [stopStream_stopped hrun]
  | true =>
    obtain ⟨w, f, hset, hf, heq⟩ := stopStream_eq 0 hrun
    have hw : w.stopped i n :=
      (congrArg Stream.running (Bookkeeps.sleevePart (m := SleeveSt.still) (part := fun x => x.streams.get n) (fun _ => rfl) hset i)).trans h
    rw [heq]
    exact stopped_modStream hf i n hw

/-- Stopping every stream. -/
def stopAllStreams : State → State := forAll allSleeves (fun i => forAll allFours (stopStream i))

theorem restreams_stopAllStreams (id : Nat) (s : State) : Restreams id s (stopAllStreams s) :=
  Bookkeeps.forAll (fun i a => Bookkeeps.forAll (fun n b => restreams_stopStream i n b) _ a) _ s

theorem stopSleeve_keeps_stopped (i : Sleeve) (n : Fin 4) (j : Sleeve) (s : State) (h : s.stopped i n) :
    (forAll allFours (stopStream j) s).stopped i n := by
  generalize allFours = l
  induction l generalizing s with
  | nil => exact h
  | cons m l ih => exact ih _ (stopStream_keeps_stopped i n j m s h)

theorem stopSleeve_stops (i : Sleeve) (n : Fin 4) (s : State) : (forAll allFours (stopStream i) s).stopped i n :=
  forAll_establishes (f := stopStream i) (P := fun s => s.stopped i n) (List.mem_finRange n) (stopped_stopStream i n)
    (fun m u hu => stopStream_keeps_stopped i n i m u hu) s

theorem stopped_stopAllStreams (i : Sleeve) (n : Fin 4) (s : State) : (stopAllStreams s).stopped i n :=
  forAll_establishes (f := fun i => forAll allFours (stopStream i)) (P := fun s => s.stopped i n) (List.mem_finRange i)
    (stopSleeve_stops i n) (fun j u hu => stopSleeve_keeps_stopped i n j u hu) s

/-- FOLD's request, before steps 3 and 4 of R349. -/
def askFold (c : Cmd) : State → State :=
  modPower (fun w => { w with
    phase := .folding, foldCmd := some c.id, foldReply := false, foldTherm := false, wakeS := field c.arg 0 24 })

theorem foldBody_free {c : Cmd} {s : State} (hcap : s.capture.active = false) (hbist : s.bist.active = []) :
    foldBody c s = foldReplyNow (askFold c s) := by
  unfold foldBody
  rw [if_neg (by simp [hcap, hbist])]
  rfl

theorem foldBody_busy {c : Cmd} {s : State} (h : s.capture.active = true ∨ s.bist.active ≠ []) :
    foldBody c s = answer c.id stBusy [] s := by
  unfold foldBody
  rw [if_pos (by simpa using h)]

theorem foldReplyNow_waits {c k : Cmd} {s : State} (hk : k ∈ s.cmds) (hne : k.id ≠ c.id) :
    foldReplyNow (askFold c s) = askFold c s := by
  have hothers : ((askFold c s).cmds.any fun c' => some c'.id != (askFold c s).power.foldCmd) = true :=
    List.any_eq_true.mpr ⟨k, hk, by simpa [askFold, modPower] using hne⟩
  unfold foldReplyNow
  dsimp only
  rw [hothers, if_neg (by simp)]

/-- Step 3 of R349 in the power state. -/
def Power.posted (now : Nat) (w : Power) : Power :=
  { w with foldReply := true, foldAt := now, wakeAt := if w.wakeS = 0 then none else some (now + 1000000 * w.wakeS) }

theorem foldReplyNow_posts {c : Cmd} {s : State} (h : ∀ k ∈ s.cmds, k.id = c.id) :
    foldReplyNow (askFold c s) =
      raise 0xF041 (modPower (Power.posted s.now) (answer c.id stOk [] (stopAllStreams (askFold c s)))) := by
  have hothers : ((askFold c s).cmds.any fun c' => some c'.id != (askFold c s).power.foldCmd) = false :=
    List.any_eq_false.mpr fun k hk => by simpa [askFold, modPower] using h k hk
  unfold foldReplyNow
  dsimp only
  rw [hothers, if_pos ⟨rfl, rfl, rfl⟩]
  rfl

/-- What FOLD leaves where nothing else was in flight. -/
theorem foldReplyNow_alone {i : Sleeve} {p : Packet} {s : State} (hcmds : s.cmds = []) :
    let u := foldReplyNow (askFold (s.cmdOf i p) (s.takenBy i p))
    u.power.phase = .folding ∧ u.power.foldReply = true ∧ u.power.foldAt = s.now ∧
      u.power.wakeAt = (if field p.arg 0 24 = 0 then none else some (s.now + 1000000 * field p.arg 0 24)) ∧
      LastReply i p stOk [] u ∧ (∀ j n, u.stopped j n) := by
  intro u
  have halone : ∀ k ∈ (s.takenBy i p).cmds, k.id = (s.cmdOf i p).id := by
    intro k hk
    obtain ⟨k', hk', rfl⟩ := List.mem_map.mp hk
    rw [show k' = s.cmdOf i p from by simpa [hcmds] using hk']
    split <;> rfl
  obtain ⟨a, ha⟩ : ∃ a, askFold (s.cmdOf i p) (s.takenBy i p) = a := ⟨_, rfl⟩
  obtain ⟨b, hb⟩ : ∃ b, stopAllStreams a = b := ⟨_, rfl⟩
  obtain ⟨v, hv⟩ : ∃ v, answer s.nextCmd stOk [] b = v := ⟨_, rfl⟩
  have hu : u = raise 0xF041 (modPower (Power.posted s.now) v) := by
    rw [← hv, ← hb, ← ha]
    exact foldReplyNow_posts halone
  have hab : Restreams s.nextCmd a b := hb ▸ restreams_stopAllStreams _ a
  have hbv : Settles (s.nextCmd + 1) b v := hv ▸ settles_answer (Nat.succ_ne_self _).symm stOk [] b
  have hcalm : u.calm = (modPower (Power.posted s.now) v).calm := hu ▸ calm_raiseD (code := 0xF041) (by decide) [] _
  have hpow : u.power = Power.posted s.now a.power := by
    rw [power_of_calm hcalm, ← hab.power, ← hbv.power]
    rfl
  have hrep : LastReply i p stOk [] v := hv ▸ lastReply_answer (hab.cmd.trans (ha ▸ findCmd_takenBy i p s)) _ _ (by decide) (by decide)
  rw [hpow, ← ha]
  refine ⟨rfl, rfl, rfl, rfl, ?_, fun j n => ?_⟩
  · obtain ⟨r, hlast, hrest⟩ := hrep
    exact ⟨r, (sleevePart_of_calm (part := fun x => x.replies.getLast?) (fun _ => rfl) hcalm i).trans hlast, hrest⟩
  · have hb' : b.stopped j n := hb ▸ stopped_stopAllStreams j n a
    refine (sleevePart_of_calm (part := fun x => (x.streams.get n).running) (fun _ => rfl) hcalm j).trans ?_
    exact (Bookkeeps.sleevePart (m := SleeveSt.still) (part := fun x => (x.streams.get n).running) (fun _ => rfl) hbv j).trans hb'

theorem resumeBody_joins {c : Cmd} {s : State} (hphase : s.power.phase = .fold) (hcool : s.hostOnly = false ∨ s.hot = false) :
    resumeBody c s = wakeSource 0 (modPower (fun p => { p with resumes := p.resumes ++ [c.id] }) s) := by
  unfold resumeBody
  rw [if_pos hphase, if_neg]
  simpa [or_iff_not_imp_left] using hcool

theorem resumeBody_hot {c : Cmd} {s : State} (hphase : s.power.phase = .fold) (hhost : s.hostOnly = true) (hhot : s.hot = true) :
    resumeBody c s = answer c.id stBusy [] s := by
  unfold resumeBody
  rw [if_pos hphase, hhost, hhot]
  rfl

theorem mem_cmds_takenBy {i : Sleeve} {p : Packet} {s : State} {k : Cmd} (hk : k ∈ s.cmds) (hne : k.id ≠ s.nextCmd) :
    k ∈ (s.takenBy i p).cmds :=
  List.mem_map.mpr ⟨k, List.mem_cons_of_mem _ hk, if_neg (by simpa using hne)⟩

/-- Settles O24. -/
theorem foldAndResume : Obligations.FoldAndResume := by
  refine ⟨fun t p s h harg hp => ⟨fun hcap hbist hcmds => ?_, fun hcap hbist hother => ?_, fun hbusy => ?_⟩,
    fun t p s h hp => ⟨fun hphase => ?_, fun hphase hcool => ?_, fun hphase hhost hhot => ?_⟩⟩
  · exact ⟨_, (next_takeOp_argOnly h harg hp foldBody).trans
      (congrArg Host.Outcome.next (foldBody_free (s := s.takenBy t.sl p) hcap hbist)), foldReplyNow_alone hcmds⟩
  · obtain ⟨k, hk, hne⟩ := hother
    refine (next_takeOp_argOnly h harg hp foldBody).trans (congrArg Host.Outcome.next ?_)
    exact (foldBody_free (s := s.takenBy t.sl p) hcap hbist).trans (foldReplyNow_waits (mem_cmds_takenBy hk hne) hne)
  · obtain ⟨hrep, honly⟩ := refused_taken (foldBody_busy (c := s.cmdOf t.sl p) (s := s.takenBy t.sl p) hbusy) (by decide) (by decide)
    exact ⟨_, next_takeOp_argOnly h harg hp foldBody, hrep, honly.power⟩
  · refine ⟨_, (next_takeOp_noParams h hp resumeBody).trans (congrArg Host.Outcome.next (if_neg hphase)), ?_⟩
    exact answer_takenBy _ _ _ _ _ rfl
  · exact (next_takeOp_noParams h hp resumeBody).trans
      (congrArg Host.Outcome.next (resumeBody_joins (s := s.takenBy t.sl p) hphase hcool))
  · obtain ⟨hrep, honly⟩ := refused_taken (resumeBody_hot (c := s.cmdOf t.sl p) (s := s.takenBy t.sl p) hphase hhost hhot)
      (by decide) (by decide)
    exact ⟨_, next_takeOp_noParams h hp resumeBody, hrep, honly.power⟩

end Sys2Proof.Machine
end

section
/-! SUPPORT. BIST requests, captures and the custodian's holds. -/

namespace Sys2Proof.Machine

/-! ### BIST_RUN -/

/-! A take is none of what a BIST request is judged by. -/

section
variable (i : Sleeve) (p : Packet) (s : State)

theorem sliceBusy_takenBy (k : Fin 32) : (s.takenBy i p).sliceBusy k = s.sliceBusy k := by
  obtain ⟨x, cs, n, tk, h⟩ := takenBy_withIntake i p s
  rw [h]
  rfl

theorem lanesUp_takenBy (q : Fin 3) : (s.takenBy i p).lanesUp q = s.lanesUp q := by
  obtain ⟨x, cs, n, tk, h⟩ := takenBy_withIntake i p s
  rw [h]
  rfl

theorem wouldFall_takenBy (ts : List Thread) : (s.takenBy i p).wouldFall ts = s.wouldFall ts := by
  obtain ⟨x, cs, n, tk, h⟩ := takenBy_withIntake i p s
  rw [h]
  rfl

theorem lastOfClass_takenBy (k : Fin 32) : (s.takenBy i p).lastOfClass k = s.lastOfClass k := by
  simp only [State.lastOfClass, health_takenBy, lanesUp_takenBy]
  rfl

theorem openVerdict_takenBy (k : Fin 32) (req : Nat) : (s.takenBy i p).openVerdict k req = s.openVerdict k req := by
  simp only [State.openVerdict, sliceBusy_takenBy, lastOfClass_takenBy, wouldFall_takenBy]
  rfl

theorem readmitUnits_takenBy (k : Fin 32) : (s.takenBy i p).readmitUnits k = s.readmitUnits k := by
  simp only [State.readmitUnits, health_takenBy]

theorem readmittable_takenBy (k : Fin 32) : (s.takenBy i p).readmittable k = s.readmittable k := by
  simp only [State.readmittable, readmitUnits_takenBy]
  rfl

theorem readmitting_takenBy (u : UnitRef) : (s.takenBy i p).readmitting u = s.readmitting u := by
  obtain ⟨x, cs, n, tk, h⟩ := takenBy_withIntake i p s
  rw [h]
  rfl

end

section
variable {c : Cmd} {s : State}

theorem bistRunBody_queues {k : Fin 32} (hk : argTarget c.arg = k.val) (hb : budgetsOk c.arg = true)
    (hv : s.openVerdict k c.sl.val = none) :
    bistRunBody c s = answer c.id stAccepted [] (queueOpen k c.sl.val (argLogic c.arg) (argAnalog c.arg) s) := by
  have hlt : argTarget c.arg < 32 ∧ budgetsOk c.arg = true := ⟨hk ▸ k.isLt, hb⟩
  have hfin : (⟨argTarget c.arg, hlt.1⟩ : Fin 32) = k := Fin.ext hk
  unfold bistRunBody
  dsimp only
  rw [dif_pos hlt]
  simp only [hfin, hv]

theorem openVerdict_busy {k : Fin 32} (h : s.sliceBusy k = true) (req : Nat) : s.openVerdict k req = some stBusy := by
  rw [State.openVerdict, h]
  rfl

theorem bistRunBody_busy {k : Fin 32} (hk : argTarget c.arg = k.val) (hb : budgetsOk c.arg = true) (h : s.sliceBusy k = true) :
    bistRunBody c s = answer c.id stBusy [] s := by
  have hlt : argTarget c.arg < 32 ∧ budgetsOk c.arg = true := ⟨hk ▸ k.isLt, hb⟩
  have hfin : (⟨argTarget c.arg, hlt.1⟩ : Fin 32) = k := Fin.ext hk
  unfold bistRunBody
  dsimp only
  rw [dif_pos hlt]
  simp only [hfin, openVerdict_busy h]

/-! Readmissions -/

theorem bistReadmitBody_slice {k : Fin 32} (hk : argTarget c.arg = k.val) (h16 : 16 ≤ k.val) (hb : budgetsOk c.arg = true) :
    bistReadmitBody c s =
      if !s.readmittable k then answer c.id stFenced [] s
      else if s.sliceBusy k || (s.readmitUnits k).any s.readmitting then answer c.id stBusy [] s
      else queueReadmit k c.sl.val (budget (argLogic c.arg) 4) (budget (argAnalog c.arg) 2) (some c.id) s := by
  have hlt : 16 ≤ argTarget c.arg ∧ argTarget c.arg < 32 := ⟨hk ▸ h16, hk ▸ k.isLt⟩
  have hfin : (⟨argTarget c.arg, hlt.2⟩ : Fin 32) = k := Fin.ext hk
  unfold bistReadmitBody
  dsimp only
  rw [hb, if_neg (by decide), dif_pos hlt, hfin]

theorem bistReadmitBody_inst {i : Sleeve} {k : Fin 4} (hk : argTarget c.arg = 32 + 4 * i.val + k.val) (hb : budgetsOk c.arg = true) :
    bistReadmitBody c s = readmitStored (.inst i k) c s := by
  have hlt : 32 ≤ argTarget c.arg ∧ argTarget c.arg < 64 := by omega
  unfold bistReadmitBody
  dsimp only
  rw [hb, if_neg (by decide), dif_neg (by omega), dif_pos hlt]
  congr 2 <;> apply Fin.ext <;> simp only [hk] <;> omega

theorem bistReadmitBody_slot {k : Fin 32} (hk : argTarget c.arg = 64 + k.val) (hb : budgetsOk c.arg = true) :
    bistReadmitBody c s = readmitStored (.slot k) c s := by
  have hlt : 64 ≤ argTarget c.arg ∧ argTarget c.arg < 96 := by omega
  unfold bistReadmitBody
  dsimp only
  rw [hb, if_neg (by decide), dif_neg (by omega), dif_neg (by omega), dif_pos hlt]
  congr 2
  apply Fin.ext
  simp only [hk]
  omega

theorem readmitStored_erases {u : UnitRef} {x : Commit} (hst : (s.health u).st = .retired) (hused : (s.health u).used < 3)
    (hre : s.readmitting u = false) (hx : eraseCommit u (some c.id) = some x) : readmitStored u c s = requestCommit x s := by
  unfold readmitStored
  dsimp only
  rw [if_neg (by simp [hst]; omega), hre, if_neg (by decide), hx]

end

/-- Settles O23. -/
theorem bistRequested : Obligations.BistRequested := by
  refine ⟨fun t p s h h7 harg hp hb hlt => ?_, fun t p s h h7 harg hp hb => ?_⟩
  · have hexec : exec (.bistRun t) s = .next (bistRunBody (s.cmdOf t.sl p) (s.takenBy t.sl p)) :=
      next_takeWith_argOnly h (by rw [h.opcode, h7]; rfl) harg hp bistRunBody
    intro k
    refine ⟨fun hv => ⟨_, hexec, ?_⟩, fun hbusy => ?_⟩
    · rw [bistRunBody_queues (c := s.cmdOf t.sl p) (k := k) rfl hb (by rw [openVerdict_takenBy]; exact hv)]
      exact answered_change _ (queueOpen k t.sl.val (argLogic p.arg) (argAnalog p.arg)) rfl rfl rfl
    · obtain ⟨hrep, honly⟩ := refused_taken (bistRunBody_busy (c := s.cmdOf t.sl p) (k := k) (s := s.takenBy t.sl p) rfl hb hbusy)
        (by decide) (by decide)
      exact ⟨_, hexec, hrep, honly.bist⟩
  · have hexec : exec (.bistRunReadmit t) s = .next (bistReadmitBody (s.cmdOf t.sl p) (s.takenBy t.sl p)) :=
      next_takeWith_argOnly h (by rw [h.opcode, h7]; rfl) harg hp bistReadmitBody
    rw [hexec]
    refine ⟨fun k hk h16 => ⟨fun hre hbusy hnone => ?_, fun hre => ?_⟩, fun i k hk hst hused hre => ?_, fun k hk hst hused hre => ?_⟩
    · rw [bistReadmitBody_slice (c := s.cmdOf t.sl p) hk h16 hb, readmittable_takenBy, hre, sliceBusy_takenBy, hbusy, readmitUnits_takenBy]
      rw [show (s.readmitUnits k).any (s.takenBy t.sl p).readmitting = false from
        (congrArg _ (funext (readmitting_takenBy t.sl p s))).trans hnone]
      rfl
    · obtain ⟨hrep, honly⟩ := refused_taken (i := t.sl) (p := p) (st := stFenced) (s := s)
        ((bistReadmitBody_slice (c := s.cmdOf t.sl p) (s := s.takenBy t.sl p) hk h16 hb).trans
          (if_pos (by rw [readmittable_takenBy, hre]; rfl))) (by decide) (by decide)
      exact ⟨_, rfl, hrep, honly.bist⟩
    · rw [bistReadmitBody_inst (c := s.cmdOf t.sl p) hk hb, readmitStored_erases (u := .inst i k) (health_takenBy t.sl p s _ ▸ hst)
        (health_takenBy t.sl p s _ ▸ hused) ((readmitting_takenBy t.sl p s _).trans hre) rfl]
      rfl
    · rw [bistReadmitBody_slot (c := s.cmdOf t.sl p) hk hb, readmitStored_erases (u := .slot k) (health_takenBy t.sl p s _ ▸ hst)
        (health_takenBy t.sl p s _ ▸ hused) ((readmitting_takenBy t.sl p s _).trans hre) rfl]
      rfl

/-! ### Pockets: what a verdict on the pool leaves, and how many are free -/

/-- The pool without the sleeves' counts and the verdicts on them. -/
def Pool.stores (p : Pool) : Pool := { p with per := Vector.replicate 8 .reset, glow := false, evt := 0 }

theorem pool_offerEv {code : BitVec 16} (h : rankOf code ≠ 3) (u : State) (src : Nat) (data : List Byte) (s : State) :
    (offer (mkEv u code src data) s).1.pool = s.pool := by
  simp only [offer, if_neg (show (mkEv u code src data).rank ≠ 3 from h)]

theorem pool_raiseS {code : BitVec 16} (h : rankOf code ≠ 3) (i : Sleeve) (data : List Byte) (s : State) :
    (raiseS code i data s).pool = s.pool := pool_offerEv h s _ _ s

theorem pool_raiseD {code : BitVec 16} (h : rankOf code ≠ 3) (data : List Byte) (s : State) :
    (raiseD code data s).pool = s.pool := pool_offerEv h s _ _ s

theorem pool_raiseA {code : BitVec 16} (h : rankOf code ≠ 3) (data : List Byte) {act : State → State}
    (hact : ∀ u, (act u).pool = u.pool) (s : State) : (raiseA code data act s).pool = s.pool := by
  unfold raiseA
  dsimp only
  split
  · rw [hact, pool_offerEv h]
  · exact pool_offerEv h s _ _ s

theorem stores_judgeSleeve (i : Sleeve) (s : State) : (judgeSleeve i s).pool.stores = s.pool.stores := by
  unfold judgeSleeve
  extract_lets x a t x' u
  have ht : t.pool.stores = s.pool.stores := by
    unfold t when'
    split
    · split
      · show (raiseS 0x2086 i [] _).pool.stores = _
        rw [pool_raiseS (by decide)]
        rfl
      · rfl
    · rfl
  have hu : u.pool.stores = t.pool.stores := by
    unfold u
    split
    · rw [pool_raiseS (by decide)]
      rfl
    · rfl
  refine Eq.trans ?_ (hu.trans ht)
  split
  · split
    · show (offer _ _).1.pool.stores = _
      rw [pool_offerEv (by decide)]
      rfl
    · rw [pool_offerEv (by decide)]
      rfl
  · rfl

theorem stores_judgeGlobal (s : State) : (judgeGlobal s).pool.stores = s.pool.stores := by
  unfold judgeGlobal
  dsimp only
  split
  · rw [pool_raiseA (code := 0x2087) (by decide) _ (act := alert 0 0x02) (fun _ => rfl)]
    rfl
  · split <;> rfl

theorem stores_judge (s : State) : (judge s).pool.stores = s.pool.stores := by
  refine (stores_judgeGlobal _).trans ?_
  generalize allSleeves = l
  induction l generalizing s with
  | nil => rfl
  | cons i l ih => exact (ih _).trans (stores_judgeSleeve i s)

theorem stores_addUsed (i : Sleeve) (k : Nat) (s : State) : (addUsed i k s).pool.stores = s.pool.stores := stores_judge _

theorem free_of_stores {p q : Pool} (h : p.stores = q.stores) : p.free = q.free := by
  simpa only [Pool.stores] using congrArg Pool.free h

theorem free_addUsed (i : Sleeve) (k : Nat) (s : State) : (addUsed i k s).pool.free = s.pool.free :=
  free_of_stores (stores_addUsed i k s)

theorem firstFree_none {free : BitVec 4096} {n k : Nat} (h : firstFree free n k = none) (j : Nat) (hk : k ≤ j) (hj : j < k + n) :
    free.getLsbD j = false := by
  induction n generalizing k with
  | zero => exact absurd hj (Nat.not_lt.mpr hk)
  | succ n ih =>
    rw [firstFree] at h
    cases hfree : free.getLsbD k with
    | true => exact absurd ((if_pos hfree).symm.trans h) (Option.some_ne_none k)
    | false =>
      have hrest : firstFree free n (k + 1) = none := (if_neg (ne_true_of_eq_false hfree)).symm.trans h
      obtain heq | hlt := Nat.eq_or_lt_of_le hk
      · exact by rw [← heq, hfree]
      · exact ih hrest hlt (by omega)

/-- Pockets free among the first `n`. -/
def freeUnder (free : BitVec 4096) (n : Nat) : Nat := ((List.range n).filter fun k => free.getLsbD k).length

theorem freeUnder_clear (free : BitVec 4096) {n : Nat} (hn : n ≤ 4096) (k : Nat) : freeUnder free n ≤ freeUnder (clearPBit free k) n + 1 := by
  have herase : (List.range n).filter (fun j => (clearPBit free k).getLsbD j) =
      ((List.range n).filter fun j => free.getLsbD j).filter (· != k) := by
    rw [List.filter_filter]
    refine List.filter_congr fun j hj => ?_
    have hlt : j < 4096 := (List.mem_range.mp hj).trans_le hn
    by_cases hk : k = j
    · simp [clearPBit, hk]
    · simp [clearPBit, Ne.symm hk, hlt]
  unfold freeUnder
  rw [herase, ← List.Nodup.erase_eq_filter (List.nodup_range.filter _), List.length_erase]
  split <;> omega

/-- While a pocket is free there is a lowest one. -/
theorem lowestFree_exists {p : Pool} (h : 0 < p.freeCount) : ∃ k, p.lowestFree = some k := by
  cases hlow : p.lowestFree with
  | some k => exact ⟨k, rfl⟩
  | none =>
    obtain ⟨k, hk⟩ := List.exists_mem_of_length_pos h
    obtain ⟨hrange, hfree⟩ := List.mem_filter.mp hk
    rw [firstFree_none hlow k (Nat.zero_le k) (by have := List.mem_range.mp hrange; omega)] at hfree
    nomatch hfree

theorem claimMany_length (n : Nat) (s : State) (h : n ≤ s.pool.freeCount) : (claimMany n s).1.length = n := by
  induction n generalizing s with
  | zero => rfl
  | succ n ih =>
    obtain ⟨k, hk⟩ := lowestFree_exists (p := s.pool) (by omega)
    have hstep := freeUnder_clear s.pool.free (Nat.le_refl 4096) k
    unfold claimMany claimPocket
    rw [hk]
    dsimp only
    rw [List.length_cons, ih]
    exact Nat.le_of_succ_le_succ (h.trans hstep)

theorem calm_claimMany (n : Nat) (s : State) : (claimMany n s).2.calm = s.calm := by
  induction n generalizing s with
  | zero => rfl
  | succ n ih =>
    unfold claimMany claimPocket
    cases s.pool.lowestFree with
    | none => rfl
    | some k => exact (ih _).trans (calm_modPool _ s)

/-! ### RAW_CAPTURE -/

theorem capture_of_calm {s t : State} (h : t.calm = s.calm) : t.capture = s.capture := by
  simpa only [State.calm] using congrArg State.capture h

theorem threads_of_calm {s t : State} (h : t.calm = s.calm) : t.threads = s.threads := by
  simpa only [State.calm] using congrArg State.threads h

/-- The capture that a start records. -/
def Capture.begun (c : Capture) (t : Thread) (mode samples restarts : Nat) (pockets : List Nat) (wasOut : Bool) (now : Nat) : Capture :=
  { Capture.reset with
    thread := t, mode := mode, active := true, done := c.done, samples := samples, restarts := restarts
    seq := (c.seq + 1) % 65536, pockets := pockets, wasOut := wasOut, holdUntil := if mode = 2 then now + 10 else 0
    older := c.older ++ (if c.readPos < c.bytes.length then [(c.bytes.drop c.readPos, c.pockets, c.records)] else []) }

/-- The pockets that a start claims. -/
def State.capturePockets (s : State) (n : Nat) : List Nat := (claimMany n (addUsed 0 n s)).1

theorem capturePockets_length {n : Nat} {s : State} (h : n ≤ s.pool.freeCount) : (s.capturePockets n).length = n := by
  refine claimMany_length n _ ?_
  rw [Pool.freeCount, free_addUsed]
  exact h

theorem startCapture_begins (t : Thread) (mode samples restarts n : Nat) (s : State) :
    let u := startCapture t mode samples restarts n s
    u.capture = s.capture.begun t mode samples restarts (s.capturePockets n) (decide ((s.thread t).health.st ≠ .inService)) s.now ∧
      u.thread t = (s.thread t).intoCapture ∧ u.cmds = s.cmds := by
  intro u
  obtain ⟨v, hv⟩ : ∃ v, (claimMany n (addUsed 0 n s)).2 = v := ⟨_, rfl⟩
  have hcalm : v.calm = s.calm := hv ▸ (calm_claimMany n _).trans (calm_addUsed 0 n s)
  obtain ⟨w, hw⟩ : ∃ w, modThread t ThreadSt.intoCapture (modCapture (fun c => c.begun t mode samples restarts (s.capturePockets n)
    (decide ((s.thread t).health.st ≠ .inService)) s.now) v) = w := ⟨_, rfl⟩
  have hu : u = raiseD 0x5010 [BitVec.ofNat 8 t.val] w := by
    rw [← hw, ← hv]
    rfl
  have huw : u.calm = w.calm := hu ▸ calm_raiseD (by decide) _ w
  refine ⟨?_, ?_, ?_⟩
  · rw [capture_of_calm huw, ← capture_of_calm hcalm, ← hw]
    rfl
  · rw [State.thread, threads_of_calm huw, ← hw]
    show (vmod v.threads t ThreadSt.intoCapture).get t = _
    rw [threads_of_calm hcalm]
    exact vget_vmod_same _ _ _
  · rw [cmds_of_calm huw, ← cmds_of_calm hcalm, ← hw]
    rfl

theorem intoCapture_cuts {x : ThreadSt} (h : x.readmit = false) : x.intoCapture.bits = [] ∧ x.intoCapture.test = .none := by
  rw [ThreadSt.intoCapture, h]
  exact ⟨rfl, rfl⟩

section
variable {c : Cmd} {s : State} {m r : Word}

theorem rawCaptureBody_starts (hp : c.params = [m, r]) (harg : argBits c.arg 0x3F = true) (hm : m.toNat ≠ 0)
    (hok : captureOk (argThread c.arg) (field c.arg 4 2) m.toNat r.toNat = true) (hidle : s.capture.active = false)
    (hent : (s.thread (argThread c.arg)).health.st = .inService → s.floor.below = false ∧ s.wouldFall [argThread c.arg] = false)
    (hbanks : s.pool.allFenced = false) (havail : capturePockets (field c.arg 4 2) r.toNat m.toNat ≤ s.pool.avail 0)
    (hfree : capturePockets (field c.arg 4 2) r.toNat m.toNat + s.fabric.claims.length ≤ s.pool.freeCount)
    {u : State} (hu : startCapture (argThread c.arg) (field c.arg 4 2) m.toNat r.toNat
      (capturePockets (field c.arg 4 2) r.toNat m.toNat) s = u) :
    rawCaptureBody c s = answer c.id stAccepted (wordBytes (pack
      [(0, 13, capturePockets (field c.arg 4 2) r.toNat m.toNat), (16, 16, u.capture.seq)])) u := by
  subst hu
  unfold rawCaptureBody
  rw [hp]
  dsimp only
  rw [harg, if_neg (by decide), if_neg hm, hok, if_neg (by decide), hidle, if_neg (by decide), if_neg, hbanks,
    if_neg (by decide), if_neg (by omega)]
  cases hst : decide ((s.thread (argThread c.arg)).health.st = .inService) with
  | false => exact Bool.false_ne_true
  | true =>
    obtain ⟨hbelow, hfall⟩ := hent (of_decide_eq_true hst)
    rw [hbelow, hfall]
    decide

theorem rawCaptureBody_busy (hp : c.params = [m, r]) (harg : argBits c.arg 0x3F = true) (hm : m.toNat ≠ 0)
    (hok : captureOk (argThread c.arg) (field c.arg 4 2) m.toNat r.toNat = true) (hbusy : s.capture.active = true) :
    rawCaptureBody c s = answer c.id stBusy [] s := by
  unfold rawCaptureBody
  rw [hp]
  dsimp only
  rw [harg, if_neg (by decide), if_neg hm, hok, if_neg (by decide), hbusy, if_pos rfl]

end

theorem capture_answer (id : Nat) (st : Byte) (payload : List Byte) (s : State) :
    (answer id st payload s).capture = s.capture ∧ ∀ k, (answer id st payload s).thread k = s.thread k := by
  have h := still_answer id st payload s
  exact ⟨by simpa only [State.still, State.seenBy] using congrArg State.capture h,
    fun k => congrArg (fun v : Vector ThreadSt 16 => v.get k) (by simpa only [State.still, State.seenBy] using congrArg State.threads h)⟩

/-- Settles O22. -/
theorem captureStarts : Obligations.CaptureStarts := by
  intro t p s m r h harg hp hm hok k n
  have hexec : exec (.rawCapture t) s = .next (rawCaptureBody (s.cmdOf t.sl p) (s.takenBy t.sl p)) := next_takeOp h rawCaptureBody
  refine ⟨fun hidle hent hbanks havail hfree => ?_, fun hbusy => ?_⟩
  · obtain ⟨hcap, hthread, hcmds⟩ := startCapture_begins k (field p.arg 4 2) m.toNat r.toNat n (s.takenBy t.sl p)
    obtain ⟨u, hu⟩ : ∃ u, startCapture k (field p.arg 4 2) m.toNat r.toNat n (s.takenBy t.sl p) = u := ⟨_, rfl⟩
    rw [hu] at hcap hthread hcmds
    have hbody := rawCaptureBody_starts (c := s.cmdOf t.sl p) (s := s.takenBy t.sl p) hp harg hm hok hidle
      (fun hst => (wouldFall_takenBy t.sl p s [k]).symm ▸ hent hst) hbanks havail hfree hu
    have hseq : u.capture.seq = (s.capture.seq + 1) % 65536 := by
      rw [hcap]
      rfl
    have hcmd : u.findCmd s.nextCmd = some { s.cmdOf t.sl p with accepted := true } := by
      rw [State.findCmd, hcmds]
      exact findCmd_takenBy t.sl p s
    have hlen : ((s.takenBy t.sl p).capturePockets n).length = n := capturePockets_length (by
      show n ≤ s.pool.freeCount
      omega)
    obtain ⟨pl, hpl⟩ : ∃ pl, wordBytes (pack
      [(0, 13, capturePockets (field p.arg 4 2) r.toNat m.toNat), (16, 16, u.capture.seq)]) = pl := ⟨_, rfl⟩
    replace hbody := hbody.trans (congrArg (fun b => answer s.nextCmd stAccepted b u) hpl)
    rw [hseq] at hpl
    obtain ⟨hacap, hathr⟩ := capture_answer s.nextCmd stAccepted pl u
    refine ⟨_, hexec.trans (congrArg Host.Outcome.next hbody), hpl ▸ lastReply_answer hcmd _ _ (by decide) (by decide), ?_⟩
    rw [hacap, hcap]
    refine ⟨rfl, rfl, rfl, rfl, rfl, rfl, hlen, rfl, rfl, fun hre => ?_⟩
    rw [hathr, hthread]
    exact intoCapture_cuts hre
  · obtain ⟨hrep, honly⟩ := refused_taken (rawCaptureBody_busy (c := s.cmdOf t.sl p) (s := s.takenBy t.sl p) hp harg hm hok hbusy)
      (by decide) (by decide)
    exact ⟨_, hexec, hrep, honly.capture⟩

/-! ### THREAD_QUARANTINE and THREAD_READMIT -/

theorem handleUnit_handled {u : UnitRef} {s : State} (h : (s.health u).st = .inService ∨ (s.health u).unhandled = false) (at_ : Nat) :
    handleUnit u at_ s = s := by
  unfold handleUnit
  dsimp only
  rw [if_neg]
  rintro ⟨hst, hun⟩
  obtain h | h := h
  · exact absurd (h.symm.trans hst) (by decide)
  · exact absurd (h.symm.trans hun) (by decide)

theorem handleUnit_again {t : Thread} {s : State} (hst : (s.thread t).health.st = .quarantined)
    (hun : (s.thread t).health.unhandled = true) (hhold : (s.thread t).custHold = false) (hagain : (s.thread t).health.again = true)
    (at_ : Nat) : handleUnit (.thread t) at_ s = retireUnit (.thread t) s := by
  unfold handleUnit
  dsimp only
  rw [if_pos ⟨hst, hun⟩, show s.custHeld (.thread t) = false from hhold, if_neg (by decide),
    show (s.health (.thread t)).again = true from hagain, if_pos rfl]
  rfl

/-- The commands in flight and the threads. -/
def State.duties (s : State) : List Cmd × Vector ThreadSt 16 := (s.cmds, s.threads)

theorem duties_of_calm {s t : State} (h : t.calm = s.calm) : t.duties = s.duties :=
  Prod.ext (cmds_of_calm h) (threads_of_calm h)

theorem duties_raiseD {code : BitVec 16} (h : rankOf code ≠ 3) (data : List Byte) (s : State) :
    (raiseD code data s).duties = s.duties := duties_of_calm (calm_raiseD h data s)

theorem duties_pend (x : Commit) (s : State) : (pend x s).duties = s.duties := by
  unfold pend
  split
  · rfl
  · exact duties_raiseD (by decide) [] s

theorem duties_retireEvent (t : Thread) (s : State) : (retireEvent (.thread t) s).duties = s.duties :=
  duties_raiseD (by decide) _ _

/-- A retired thread; no command is answered by it. -/
theorem retireUnit_thread (t : Thread) (s : State) :
    (retireUnit (.thread t) s).cmds = s.cmds ∧ ((retireUnit (.thread t) s).thread t).health.st = .retired := by
  obtain ⟨v, hv⟩ : ∃ v, dropTest (.thread t) (modHealth (.thread t) (fun h => { h with
    st := .retired, retest := false, unhandled := false, again := false }) s) = v := ⟨_, rfl⟩
  have hvst : (v.threads.get t).health.st = .retired := by
    rw [← hv]
    show (ThreadSt.health ((modThread t _ (modThread t _ s)).thread t)).st = _
    rw [thread_modThread_same, thread_modThread_same]
  have hduties : (retireUnit (.thread t) s).duties = v.duties := by
    unfold retireUnit
    dsimp only
    rw [hv]
    refine (duties_pend _ _).trans (Eq.trans ?_ (duties_retireEvent t v))
    unfold when'
    split
    · exact duties_raiseD (by decide) [] _
    · rfl
  obtain ⟨hcmds, hthreads⟩ := Prod.mk.inj hduties
  exact ⟨hcmds.trans (hv ▸ rfl), by rw [State.thread, hthreads, hvst]⟩

/-- What a hold makes of a thread. -/
def ThreadSt.held (x : ThreadSt) : ThreadSt :=
  { ThreadSt.fresh x with
    custHold := true, test := .none, passed := false
    health := { x.health with st := .quarantined, retest := false, unhandled := false, again := false } }

/-- A hold, with its event. -/
def holdNow (k : Thread) (s : State) : State := raiseD 0x5034 [BitVec.ofNat 8 k.val] (modThread k ThreadSt.held s)

/-- An event that is no alarm takes no notice of a take. -/
theorem raiseD_takenBy {code : BitVec 16} (h : rankOf code ≠ 3) (data : List Byte) (i : Sleeve) (p : Packet) (s : State) :
    raiseD code data (s.takenBy i p) = (raiseD code data s).takenBy i p := by
  have hoffer (u v : State) : (offer (mkEv u code 15 data) v).1 =
      { v with log := (if (placeEv (mkEv u code 15 data) v.log).2 && decide (2 = rankOf code) then
        { (placeEv (mkEv u code 15 data) v.log).1 with loss := true } else (placeEv (mkEv u code 15 data) v.log).1) } := by
    simp only [offer, if_neg (show (mkEv u code 15 data).rank ≠ 3 from h)]
    rfl
  exact (hoffer _ _).trans (congrArg (fun v => State.takenBy v i p) (hoffer s s)).symm

theorem holdNow_takenBy (k : Thread) (i : Sleeve) (p : Packet) (s : State) : holdNow k (s.takenBy i p) = (holdNow k s).takenBy i p :=
  raiseD_takenBy (by decide) _ i p (modThread k ThreadSt.held s)

section
variable {c : Cmd} {s : State}

theorem threadQuarantineBody_holds (h : (s.thread (argThread c.arg)).health.st = .inService ∨
      (s.thread (argThread c.arg)).health.st = .quarantined ∧ (s.thread (argThread c.arg)).health.unhandled = false) :
    threadQuarantineBody c s = answer c.id stOk [] (holdNow (argThread c.arg) s) := by
  have hne : (s.thread (argThread c.arg)).health.st ≠ .retired := by
    obtain h | ⟨h, -⟩ := h <;> (rw [h]; decide)
  have hhandle : handleUnit (.thread (argThread c.arg)) (s.faultAt (.thread (argThread c.arg))) s = s :=
    handleUnit_handled (u := .thread (argThread c.arg)) (h.imp id And.right) _
  have hhold : holdThread (argThread c.arg) s = holdNow (argThread c.arg) s := by
    unfold holdThread
    rw [hhandle]
    exact if_neg hne
  have hthread : ((holdNow (argThread c.arg) s).thread (argThread c.arg)).health.st = .quarantined := by
    have hthr : (holdNow (argThread c.arg) s).threads = vmod s.threads (argThread c.arg) ThreadSt.held :=
      threads_of_calm (calm_raiseD (code := 0x5034) (by decide) _ _)
    rw [State.thread, hthr, vget_vmod_same]
    rfl
  unfold threadQuarantineBody
  dsimp only
  rw [if_neg hne, hhold, hthread]
  rfl

theorem threadQuarantineBody_again (hst : (s.thread (argThread c.arg)).health.st = .quarantined)
    (hhold : (s.thread (argThread c.arg)).custHold = false) (hun : (s.thread (argThread c.arg)).health.unhandled = true)
    (hagain : (s.thread (argThread c.arg)).health.again = true) :
    threadQuarantineBody c s = answer c.id stFenced [] (retireUnit (.thread (argThread c.arg)) s) := by
  have hret := (retireUnit_thread (argThread c.arg) s).2
  have hheld : holdThread (argThread c.arg) s = retireUnit (.thread (argThread c.arg)) s := by
    unfold holdThread
    rw [handleUnit_again hst hun hhold hagain]
    exact if_pos hret
  unfold threadQuarantineBody
  dsimp only
  rw [if_neg (by rw [hst]; decide), hheld, if_pos hret]

theorem threadQuarantineBody_retired (hst : (s.thread (argThread c.arg)).health.st = .retired) :
    threadQuarantineBody c s = answer c.id stFenced [] s := if_pos hst

theorem threadReadmitBody_inService (hst : (s.thread (argThread c.arg)).health.st = .inService) :
    threadReadmitBody c s = answer c.id stOk [] s := by
  unfold threadReadmitBody
  dsimp only
  rw [hst]

/-- A release from the custodian's hold, to the 1024-sample test. -/
def releaseHold (k : Thread) (s : State) : State :=
  startRetest (.thread k) (modThread k (fun x => { x with
    custHold := false, health := { x.health with unhandled := false, again := false } }) s)

theorem threadReadmitBody_held (hst : (s.thread (argThread c.arg)).health.st = .quarantined)
    (hhold : (s.thread (argThread c.arg)).custHold = true) :
    threadReadmitBody c s = answer c.id stOk [] (releaseHold (argThread c.arg) s) := by
  unfold threadReadmitBody
  dsimp only
  rw [hst]
  exact if_pos hhold

theorem threadReadmitBody_waits (hst : (s.thread (argThread c.arg)).health.st = .quarantined)
    (hhold : (s.thread (argThread c.arg)).custHold = false) : threadReadmitBody c s = answer c.id stOk [] s := by
  unfold threadReadmitBody
  dsimp only
  rw [hst]
  exact if_neg (by rw [hhold]; decide)

theorem threadReadmitBody_queues (hst : (s.thread (argThread c.arg)).health.st = .retired)
    (hused : (s.thread (argThread c.arg)).health.used < 3)
    (hbusy : s.sliceBusy ⟨(argThread c.arg).val, by omega⟩ = false) (hre : s.readmitting (.thread (argThread c.arg)) = false) :
    threadReadmitBody c s = queueReadmit ⟨(argThread c.arg).val, by omega⟩ c.sl.val 4 2 (some c.id) s := by
  unfold threadReadmitBody
  dsimp only
  rw [hst]
  dsimp only
  rw [if_neg (by omega), hbusy, hre]
  rfl

theorem threadReadmitBody_spent (hst : (s.thread (argThread c.arg)).health.st = .retired)
    (hused : 3 ≤ (s.thread (argThread c.arg)).health.used) : threadReadmitBody c s = answer c.id stFenced [] s := by
  unfold threadReadmitBody
  dsimp only
  rw [hst]
  exact if_pos hused

end

/-- A capture of the thread puts its test off. -/
theorem startRetest_thread (k : Thread) (s : State) : startRetest (.thread k) s =
    if s.capture.active && decide (s.capture.thread = k) then modHealth (.thread k) (fun h => { h with retest := true }) s
    else startShort k (modHealth (.thread k) (fun h => { h with retest := true }) s) := rfl

theorem startRetest_takenBy (k : Thread) (i : Sleeve) (p : Packet) (s : State) :
    startRetest (.thread k) (s.takenBy i p) = (startRetest (.thread k) s).takenBy i p := by
  rw [startRetest_thread, startRetest_thread, show (s.takenBy i p).capture = s.capture from rfl]
  split <;> rfl

theorem releaseHold_takenBy (k : Thread) (i : Sleeve) (p : Packet) (s : State) :
    releaseHold k (s.takenBy i p) = (releaseHold k s).takenBy i p :=
  startRetest_takenBy k i p (modThread k (fun x => { x with
    custHold := false, health := { x.health with unhandled := false, again := false } }) s)

theorem releaseHold_nextCmd (k : Thread) (s : State) : (releaseHold k s).nextCmd = s.nextCmd := by
  rw [releaseHold, startRetest_thread]
  split <;> rfl

/-- Settles O21. -/
theorem threadsHeldAndReadmitted : Obligations.ThreadsHeldAndReadmitted := by
  refine ⟨fun t p s h harg hp => ?_, fun t p s h harg hp => ?_⟩
  · have hexec : exec (.threadQuarantine t) s = .next (threadQuarantineBody (s.cmdOf t.sl p) (s.takenBy t.sl p)) :=
      next_takeOp_argOnly h harg hp threadQuarantineBody
    intro k
    refine ⟨fun hst => ⟨_, hexec, ?_⟩, fun hst hhold hun hagain => ?_, fun hst => ?_⟩
    · rw [threadQuarantineBody_holds (c := s.cmdOf t.sl p) (s := s.takenBy t.sl p) hst]
      exact answered_change _ (holdNow k) (holdNow_takenBy k t.sl p s) rfl rfl
    · have hbody := threadQuarantineBody_again (c := s.cmdOf t.sl p) (s := s.takenBy t.sl p) hst hhold hun hagain
      obtain ⟨hcmds, hret⟩ := retireUnit_thread k (s.takenBy t.sl p)
      have hcmd : (retireUnit (.thread k) (s.takenBy t.sl p)).findCmd s.nextCmd = some { s.cmdOf t.sl p with accepted := true } := by
        rw [State.findCmd, hcmds]
        exact findCmd_takenBy t.sl p s
      refine ⟨_, hexec.trans (congrArg Host.Outcome.next hbody), lastReply_answer hcmd _ _ (by decide) (by decide), ?_⟩
      exact (congrArg (fun x => x.health.st) ((capture_answer _ _ _ _).2 k)).trans hret
    · obtain ⟨hrep, honly⟩ := refused_taken (threadQuarantineBody_retired (c := s.cmdOf t.sl p) (s := s.takenBy t.sl p) hst)
        (by decide) (by decide)
      exact ⟨_, hexec, hrep, honly.threads⟩
  · have hexec : exec (.threadReadmit t) s = .next (threadReadmitBody (s.cmdOf t.sl p) (s.takenBy t.sl p)) :=
      next_takeOp_argOnly h harg hp threadReadmitBody
    intro k slice
    refine ⟨fun hst => ⟨_, hexec, ?_⟩, fun hst hhold => ⟨_, hexec, ?_⟩, fun hst hhold => ⟨_, hexec, ?_⟩, fun hst hused hbusy hre => ?_,
      fun hst hused => ?_⟩
    · rw [threadReadmitBody_inService (c := s.cmdOf t.sl p) (s := s.takenBy t.sl p) hst]
      exact answer_takenBy _ _ _ _ _ rfl
    · rw [threadReadmitBody_held (c := s.cmdOf t.sl p) (s := s.takenBy t.sl p) hst hhold]
      exact answered_change _ (releaseHold k) (releaseHold_takenBy k t.sl p s) (releaseHold_nextCmd k s) rfl
    · rw [threadReadmitBody_waits (c := s.cmdOf t.sl p) (s := s.takenBy t.sl p) hst hhold]
      exact answer_takenBy _ _ _ _ _ rfl
    · exact hexec.trans (congrArg Host.Outcome.next (threadReadmitBody_queues (c := s.cmdOf t.sl p) (s := s.takenBy t.sl p) hst hused
        ((sliceBusy_takenBy t.sl p s slice).trans hbusy) ((readmitting_takenBy t.sl p s _).trans hre)))
    · obtain ⟨hrep, honly⟩ := refused_taken (threadReadmitBody_spent (c := s.cmdOf t.sl p) (s := s.takenBy t.sl p) hst hused)
        (by decide) (by decide)
      exact ⟨_, hexec, hrep, honly.threads, honly.bist⟩

end Sys2Proof.Machine
end

section
/-! SUPPORT. The frames of a slave select: pushes, pops, stream reads, STATUS and TRAIN. -/

namespace Sys2Proof.Machine

/-! ### Events write the log alone -/

/-- An event that is no alarm writes the log alone. -/
theorem offer_log {e : Ev} (h : e.rank ≠ 3) (s : State) : ∃ l, (offer e s).1 = { s with log := l } := by
  simp only [offer, if_neg h]
  exact ⟨_, rfl⟩

theorem raiseD_log {code : BitVec 16} (h : rankOf code ≠ 3) (data : List Byte) (s : State) :
    ∃ l, raiseD code data s = { s with log := l } := offer_log h s

theorem raiseS_log {code : BitVec 16} (h : rankOf code ≠ 3) (i : Sleeve) (data : List Byte) (s : State) :
    ∃ l, raiseS code i data s = { s with log := l } := offer_log h s

/-- The handler's element takes an event where it is free, or holds one of lower rank. -/
def Log.yields (l : Log) (rank : Nat) : Bool :=
  match l.hand with
  | none => true
  | some h => decide (h.rank < rank)

theorem offer_hand {e : Ev} (h : e.rank ≠ 3) {s : State} (ht : s.log.yields e.rank = true) : (offer e s).1.log.hand = some e := by
  have hplace : (placeEv e s.log).1.hand = some e := by
    unfold Log.yields at ht
    cases hhand : s.log.hand with
    | none => simp only [placeEv, hhand]
    | some x =>
      rw [hhand] at ht
      simp only [placeEv, hhand, of_decide_eq_true ht, if_true]
  simp only [offer, if_neg h]
  split <;> exact hplace

/-- A unit's fault as an event. -/
def faultEv (u : UnitRef) (code : BitVec 16) (src : Nat) (data : List Byte) (s : State) : Ev :=
  { mkEv s code src data with unit := some u }

theorem offerUnit_eq (u : UnitRef) (code : BitVec 16) (src : Nat) (data : List Byte) (s : State) :
    offerUnit u code src data s =
      if s.log.yields (rankOf code) then handleHand (offer (faultEv u code src data s) s).1 else (offer (faultEv u code src data s) s).1 := rfl

/-- A unit's fault is an event, and its handling where it reaches the element. -/
theorem offerUnit_cases {code : BitVec 16} (h : rankOf code ≠ 3) (u : UnitRef) (src : Nat) (data : List Byte) (s : State) :
    ∃ l, offerUnit u code src data s = { s with log := l } ∨ ∃ at_, offerUnit u code src data s = handleUnit u at_ { s with log := l } := by
  obtain ⟨l, hl⟩ := offer_log (e := faultEv u code src data s) h s
  refine ⟨l, ?_⟩
  rw [offerUnit_eq]
  split
  · rename_i htaken
    have hhand := offer_hand (e := faultEv u code src data s) h htaken
    refine .inr ⟨s.now, ?_⟩
    rw [handleHand, hhand, hl]
    rfl
  · exact .inl hl

/-! ### The parts of the state that a lane's fault leaves -/

/-- What a port counts and whom it is to answer. -/
def PortSt.mail (x : PortSt) : Nat × List Nat := (x.fail, x.waiters)

/-- The sleeves but for their alert bits, the selects, the routes and the ports' failure counters and waiting commands:
what lanes' faults leave. -/
def State.postbox (s : State) : Vector SleeveSt 8 × Vector SelSt 10 × Vector Route 10 × Vector (Nat × List Nat) 3 :=
  (s.sleeves.map SleeveSt.unalerted, s.ports.sels, s.ports.routes, s.ports.ports.map PortSt.mail)

theorem postbox_of_calm {s t : State} (h : t.calm = s.calm) : t.postbox = s.postbox := by
  have hsleeves : t.sleeves.map SleeveSt.unalerted = s.sleeves.map SleeveSt.unalerted := by
    simpa only [State.calm] using congrArg State.sleeves h
  have hports : t.ports = s.ports := by simpa only [State.calm] using congrArg State.ports h
  rw [State.postbox, hsleeves, hports]
  rfl

theorem postbox_modPort {f : PortSt → PortSt} (hf : ∀ x, (f x).mail = x.mail) (p : Fin 3) (s : State) :
    (modPort p f s).postbox = s.postbox := by
  have hmap : (vmod s.ports.ports p f).map PortSt.mail = s.ports.ports.map PortSt.mail := map_vmod _ hf _ _
  simp only [State.postbox, modPort, modPorts, hmap]

@[simp] theorem postbox_modLane (k : Fin 20) (f : Lane → Lane) (s : State) : (modLane k f s).postbox = s.postbox := rfl

@[simp] theorem postbox_untrain (p : Fin 3) (s : State) : (untrain p s).postbox = s.postbox := postbox_modPort (by intro _; rfl) p s

theorem calm_alertLane (p : Fin 3) (s : State) : (alertLane p s).calm = s.calm := calm_forAll (fun i t => calm_alert i 8 t) _ s

/-- Lanes and ports. -/
def UnitRef.ofPorts : UnitRef → Bool
  | .lane _ | .port _ => true
  | _ => false

section
variable {u : UnitRef} (hu : u.ofPorts = true)
include hu

theorem postbox_modHealth (f : Health → Health) (s : State) : (modHealth u f s).postbox = s.postbox := by
  cases u with
  | lane k => rfl
  | port p => exact postbox_modPort (by intro _; rfl) p s
  | _ => nomatch hu

theorem postbox_retireUnit (s : State) : (retireUnit u s).postbox = s.postbox := by
  have hdrop (t : State) : dropTest u t = t := by
    cases u with
    | lane _ | port _ => rfl
    | _ => nomatch hu
  have hevent (t : State) : (retireEvent u t).calm = t.calm := by
    cases u with
    | lane k => exact calm_raiseA (by decide) _ (fun t => calm_alertLane _ t) t
    | port p => exact calm_raiseA (by decide) _ (fun t => calm_alertLane _ t) t
    | _ => nomatch hu
  have hpend (x : Commit) (t : State) : (pend x t).postbox = t.postbox := by
    unfold pend
    split
    · rfl
    · exact postbox_of_calm (calm_raiseD (code := 0xF012) (by decide) [] t)
  have hnote (b : Bool) (t : State) :
      (when' b (fun t => raise 0x5033 (modFloor (fun f => { f with evt := f.evt ||| 0x04 }) t)) t).postbox = t.postbox := by
    cases b with
    | false => rfl
    | true => exact (postbox_of_calm (calm_raiseD (code := 0x5033) (by decide) [] _)).trans rfl
  unfold retireUnit
  dsimp only
  refine (hpend _ _).trans ((hnote _ _).trans ((postbox_of_calm (hevent _)).trans ?_))
  rw [hdrop]
  exact postbox_modHealth hu _ s

theorem postbox_startRetest (s : State) : (startRetest u s).postbox = s.postbox := by
  cases u with
  | lane k => rfl
  | port p => exact postbox_modPort (by intro _; rfl) p s
  | _ => nomatch hu

end

theorem postbox_checkPort (p : Fin 3) (s : State) : (checkPort p s).postbox = s.postbox := by
  unfold checkPort
  dsimp only
  split
  · exact (postbox_retireUnit rfl _).trans (postbox_untrain p s)
  · rfl

theorem postbox_retireNow {u : UnitRef} (hu : u.ofPorts = true) (s : State) : (retireNow u s).postbox = s.postbox := by
  unfold retireNow
  split
  · exact (postbox_checkPort _ _).trans (postbox_retireUnit hu s)
  · exact postbox_retireUnit hu s

/-- What the handling of a unit's fault leaves: a view of the state that its health, its re-test and its retirement leave. -/
theorem handleUnit_keeps {α : Type} {view : State → α} {u : UnitRef} (hhealth : ∀ f s, view (modHealth u f s) = view s)
    (hretest : ∀ s, view (startRetest u s) = view s) (hretire : ∀ s, view (retireNow u s) = view s) (at_ : Nat) (s : State) :
    view (handleUnit u at_ s) = view s := by
  unfold handleUnit
  dsimp only
  split
  · split
    · exact hhealth _ s
    · split
      · exact hretire s
      · split
        · exact (hretest _).trans (hhealth _ s)
        · split
          · exact hretire s
          · exact (hretest _).trans (hhealth _ s)
  · rfl

/-- A unit's fault leaves such a view, where the log is none of it. -/
theorem faultUnit_keeps {α : Type} {view : State → α} {u : UnitRef} (hlog : ∀ l s, view { s with log := l } = view s)
    (hhealth : ∀ f s, view (modHealth u f s) = view s) (hretest : ∀ s, view (startRetest u s) = view s)
    (hretire : ∀ s, view (retireNow u s) = view s) {code : BitVec 16} (h : rankOf code ≠ 3) (src : Nat) (data : List Byte) (s : State) :
    view (faultUnit u code src data s) = view s := by
  have hoffer (t : State) : view (offerUnit u code src data t) = view t := by
    obtain ⟨l, heq | ⟨at_, heq⟩⟩ := offerUnit_cases h u src data t
    · rw [heq, hlog]
    · rw [heq, handleUnit_keeps hhealth hretest hretire, hlog]
  unfold faultUnit
  split
  · rfl
  · dsimp only
    split
    · exact hhealth _ s
    · exact (hoffer _).trans (hhealth _ s)
  · exact (hoffer _).trans (hhealth _ s)

theorem postbox_handleUnit {u : UnitRef} (hu : u.ofPorts = true) (at_ : Nat) (s : State) : (handleUnit u at_ s).postbox = s.postbox :=
  handleUnit_keeps (postbox_modHealth hu) (postbox_startRetest hu) (postbox_retireNow hu) at_ s

theorem postbox_faultUnit {u : UnitRef} (hu : u.ofPorts = true) {code : BitVec 16} (h : rankOf code ≠ 3) (src : Nat) (data : List Byte)
    (s : State) : (faultUnit u code src data s).postbox = s.postbox :=
  faultUnit_keeps (fun _ _ => rfl) (postbox_modHealth hu) (postbox_startRetest hu) (postbox_retireNow hu) h src data s

theorem postbox_laneFault (p : Fin 3) (l : Fin 8) (s : State) : (laneFault p l s).postbox = s.postbox := by
  have hnote (b : Bool) (t : State) : (when' b (alertLane p) t).postbox = t.postbox := by
    cases b with
    | false => rfl
    | true => exact postbox_of_calm (calm_alertLane p t)
  unfold laneFault
  dsimp only
  split
  · rfl
  · exact (postbox_checkPort p _).trans ((postbox_faultUnit rfl (by decide) _ _ _).trans
      ((hnote _ _).trans ((postbox_untrain p _).trans (postbox_modLane _ _ s))))

theorem postbox_charge (p : Fin 3) (l : Fin 8) (s : State) : (charge p l s).postbox = s.postbox := by
  unfold charge
  dsimp only
  split
  · exact postbox_laneFault p l _
  · rfl

theorem postbox_forAll {β : Type} {f : β → State → State} (h : ∀ x s, (f x s).postbox = s.postbox) (l : List β) (s : State) :
    (forAll l f s).postbox = s.postbox := by
  induction l generalizing s with
  | nil => rfl
  | cons x l ih => exact (ih _).trans (h x s)

/-! ### PUSH_CMD -/

theorem vmod_vmod {α : Type} {n : Nat} (v : Vector α n) (i : Fin n) (f g : α → α) :
    vmod (vmod v i g) i f = vmod v i (fun x => f (g x)) := by
  rw [vmod, vget_vmod_same, vmod, vset_vset]
  rfl

/-- Two changes of a select are one. -/
theorem modSel_modSel (c : Sel) (f g : SelSt → SelSt) (s : State) : modSel c f (modSel c g s) = modSel c (fun x => f (g x)) s := by
  unfold modSel modPorts
  dsimp only
  rw [vmod_vmod]

/-! Tracking the lanes of a frame moves sampling points alone. -/

theorem trackLanes_lanes (f : FrameIn) (s : State) : ∃ lanes, trackLanes f s = modPorts (fun x => { x with lanes := lanes }) s := by
  unfold trackLanes
  dsimp only
  split
  · exact ⟨s.ports.lanes, rfl⟩
  · generalize f.lanes.filter _ = l
    suffices h : ∀ u : State, (∃ lanes, u = modPorts (fun x => { x with lanes := lanes }) s) →
        ∃ lanes, forAll l _ u = modPorts (fun x => { x with lanes := lanes }) s from h s ⟨s.ports.lanes, rfl⟩
    induction l with
    | nil => exact fun _ h => h
    | cons x l ih =>
      rintro u ⟨lanes, rfl⟩
      exact ih _ ⟨_, rfl⟩

theorem endFrame_eq (c : Sel) (data : List Byte) (st : Byte) (detail : Nat) (s : State) :
    endFrame c data st detail s = modSel c (fun x => { x with frames := x.frames + 1, out := ⟨data, s.trailer c st detail, []⟩ }) s := rfl

/-! Parts that the postbox shows -/

section
variable {s u : State} (h : u.postbox = s.postbox)
include h

theorem role_of_postbox (c : Sel) : u.role c = s.role c := by
  have hroutes : u.ports.routes = s.ports.routes := congrArg (fun q => q.2.2.1) h
  rw [State.role, State.route, hroutes]
  rfl

theorem selSleeve_of_postbox (c : Sel) : u.selSleeve c = s.selSleeve c := by
  have hroutes : u.ports.routes = s.ports.routes := congrArg (fun q => q.2.2.1) h
  rw [State.selSleeve, State.route, hroutes]
  rfl

theorem sel_of_postbox (c : Sel) : u.sel c = s.sel c := by
  have hsels : u.ports.sels = s.ports.sels := congrArg (fun q => q.2.1) h
  rw [State.sel, hsels]
  rfl

theorem sleevePart_of_postbox {α : Type} {part : SleeveSt → α} (hpart : ∀ x, part x.unalerted = part x) (i : Sleeve) :
    part (u.sleeve i) = part (s.sleeve i) := by
  have hmap : u.sleeves.map SleeveSt.unalerted = s.sleeves.map SleeveSt.unalerted := congrArg (fun q => q.1) h
  have hget : (u.sleeve i).unalerted = (s.sleeve i).unalerted := by
    have hi := congrArg (fun v => v[i.val]) hmap
    simp only [Vector.getElem_map] at hi
    exact hi
  rw [← hpart, hget, hpart]

theorem mail_of_postbox (p : Fin 3) : (u.ports.ports.get p).mail = (s.ports.ports.get p).mail := by
  have hmap : u.ports.ports.map PortSt.mail = s.ports.ports.map PortSt.mail := congrArg (fun q => q.2.2.2) h
  have hi := congrArg (fun v => v[p.val]) hmap
  simp only [Vector.getElem_map] at hi
  exact hi

theorem fencedSleeve_of_postbox (c : Sel) : u.fencedSleeve c = s.fencedSleeve c := by
  unfold State.fencedSleeve
  rw [selSleeve_of_postbox h, sleevePart_of_postbox h (part := SleeveSt.health) fun _ => rfl]

end

/-- A CRC failure counts on the port and the select; the lanes' charges leave the postbox. -/
theorem postbox_crcFailed (f : FrameIn) (s : State) : (crcFailed f true s).postbox =
    (modSel f.sel (fun x => { x with fails := x.fails + 1 }) (modPort (selPort f.sel) (fun x => { x with fail := satAdd 16 x.fail 1 }) s)).postbox := by
  have hcharge (l : List (Fin 8)) (u : State) : (forAll l (charge (selPort f.sel)) u).postbox = u.postbox :=
    postbox_forAll (postbox_charge _) l u
  unfold crcFailed
  dsimp only
  rw [if_pos rfl]
  split
  · exact (hcharge _ _).trans (hcharge _ _)
  · exact hcharge _ _

section
variable {f : FrameIn} {low : Fin 32} {count : Byte} {packet : List Byte} {s : State}

theorem exec_pushCmd_aborted (hserve : s.serves f.sel = true) (h : f.aborted = true) :
    exec (.pushCmd f ⟨low, count⟩ packet) s = .next (setLastPush f.sel 3 (drive f.sel [] [] (trackLanes f s))) := by
  show execPushCmd _ _ _ _ = _
  unfold execPushCmd
  dsimp only
  rw [hserve, h]
  rfl

theorem exec_pushCmd_right (hserve : s.serves f.sel = true) (hend : f.aborted = false)
    (hcrc : f.crc = crc32 (cmdByte 2 low :: count :: packet)) (hfence : s.role f.sel = 1 → s.fencedSleeve f.sel = false)
    (h2 : 2 ≤ count.toNat) (h69 : count.toNat ≤ 69) :
    exec (.pushCmd f ⟨low, count⟩ packet) s = .next (
      if s.role f.sel ≠ 1 then noteAccess f.sel (endFrame f.sel [] stAccessFault 0 (setLastPush f.sel 3 (trackLanes f s)))
      else commitPush f.sel packet (endFrame f.sel [] stOk 0 (trackLanes f s))) := by
  obtain ⟨lanes, hlanes⟩ := trackLanes_lanes f s
  have hgood : crcOk f (cmdByte 2 low) count packet = true := by simp [crcOk, hcrc]
  show execPushCmd _ _ _ _ = _
  unfold execPushCmd
  dsimp only
  rw [hserve, hend, if_neg (by decide), if_neg (by decide), hgood, if_pos rfl, hlanes]
  have hopen : ¬ (decide (s.role f.sel = 1) && s.fencedSleeve f.sel) = true := by
    by_cases hrole : s.role f.sel = 1
    · rw [hfence hrole, Bool.and_false]
      decide
    · simp [hrole]
  exact congrArg Host.Outcome.next ((if_neg hopen).trans ((if_neg (by omega)).trans (if_neg (by decide))))

theorem exec_pushCmd_wrong (hserve : s.serves f.sel = true) (hend : f.aborted = false)
    (hcrc : f.crc ≠ crc32 (cmdByte 2 low :: count :: packet)) (hfence : s.fencedSleeve f.sel = false)
    (h2 : 2 ≤ count.toNat) (h69 : count.toNat ≤ 69) :
    exec (.pushCmd f ⟨low, count⟩ packet) s =
      .next (endFrame f.sel [] trCrcFail 0 (setLastPush f.sel 3 (crcFailed f true (trackLanes f s)))) := by
  have hbad : crcOk f (cmdByte 2 low) count packet = false := by simp [crcOk, hcrc]
  have hbox : (crcFailed f true (trackLanes f s)).fencedSleeve f.sel = false := by
    obtain ⟨lanes, hlanes⟩ := trackLanes_lanes f s
    rw [fencedSleeve_of_postbox (postbox_crcFailed f (trackLanes f s)), hlanes]
    exact hfence
  show execPushCmd _ _ _ _ = _
  unfold execPushCmd
  dsimp only
  rw [hserve, hend, if_neg (by decide), if_neg (by decide), hbad, if_neg Bool.false_ne_true, hbox, Bool.and_false,
    if_neg Bool.false_ne_true, if_neg (by omega)]
  rfl

end

/-- What a release tells on a push's select, with LASTPUSH `v`. -/
def pushTold (c : Sel) (s : State) (v : Nat) : State → State :=
  modSel c (fun y => { y with
    frames := y.frames + 1, out := ⟨[], s.trailer c stOk 0, []⟩, lastPush := v, fails := if v = 1 then 0 else y.fails })

section
variable {c : Sel} {packet : List Byte} {s : State}

theorem fails_endFrame (data : List Byte) (st : Byte) (detail : Nat) :
    ((endFrame c data st detail s).sel c).fails = (s.sel c).fails := by
  rw [endFrame_eq, sel_modSel_same]

theorem pushTold_accepted (i : Sleeve) (g : SleeveSt → SleeveSt) :
    modSel c (fun y => { y with lastPush := 1, fails := 0 }) (modSleeve i g (endFrame c [] stOk 0 s)) = pushTold c s 1 (modSleeve i g s) := by
  show modSel c _ (modSel c (fun x => { x with frames := x.frames + 1, out := ⟨[], s.trailer c stOk 0, []⟩ }) (modSleeve i g s)) = _
  rw [modSel_modSel]
  rfl

theorem commitPush_enters (h : (s.sleeve (s.selSleeve c)).cmdq.length + bit (s.sleeve (s.selSleeve c)).removing < s.queuePlaces) :
    commitPush c packet (endFrame c [] stOk 0 s) = pushTold c s 1 (modSleeve (s.selSleeve c) (fun y => { y with
      cmdq := y.cmdq ++ [⟨packet, min 3 (s.sel c).fails⟩] }) s) := by
  unfold commitPush
  dsimp only
  rw [fails_endFrame]
  exact (if_pos h).trans (pushTold_accepted (s.selSleeve c) _)

theorem commitPush_waits (h : s.queuePlaces ≤ (s.sleeve (s.selSleeve c)).cmdq.length + bit (s.sleeve (s.selSleeve c)).removing)
    (hrem : (s.sleeve (s.selSleeve c)).removing = true) (hheld : (s.sleeve (s.selSleeve c)).heldPush = []) :
    commitPush c packet (endFrame c [] stOk 0 s) = pushTold c s 1 (modSleeve (s.selSleeve c) (fun y => { y with
      heldPush := [(⟨packet, min 3 (s.sel c).fails⟩, c)] }) s) := by
  have hwait : ((s.sleeve (s.selSleeve c)).removing && (s.sleeve (s.selSleeve c)).heldPush.isEmpty) = true := by
    rw [hrem, hheld]
    rfl
  unfold commitPush
  dsimp only
  rw [fails_endFrame]
  exact (if_neg (Nat.not_lt.mpr h)).trans ((if_pos hwait).trans (pushTold_accepted (s.selSleeve c) _))

theorem commitPush_refused (h : s.queuePlaces ≤ (s.sleeve (s.selSleeve c)).cmdq.length + bit (s.sleeve (s.selSleeve c)).removing)
    (hheld : (s.sleeve (s.selSleeve c)).removing = false ∨ (s.sleeve (s.selSleeve c)).heldPush ≠ []) :
    commitPush c packet (endFrame c [] stOk 0 s) = pushTold c s 2 s := by
  have hfull : ¬ ((s.sleeve (s.selSleeve c)).removing && (s.sleeve (s.selSleeve c)).heldPush.isEmpty) = true := by
    obtain hrem | hheld := hheld
    · simp [hrem]
    · simp [hheld]
  unfold commitPush
  dsimp only
  exact (if_neg (Nat.not_lt.mpr h)).trans ((if_neg hfull).trans (modSel_modSel c _ _ s))

end

theorem raiseSel_log {code : BitVec 16} (h : rankOf code ≠ 3) (c : Sel) (s : State) : ∃ l, raiseSel code c s = { s with log := l } := by
  unfold raiseSel
  split
  · exact raiseS_log h _ _ s
  · exact raiseD_log h _ s

theorem sel_withLog (l : Log) (s : State) (c : Sel) : ({ s with log := l } : State).sel c = s.sel c := rfl

/-- ACCESS_FAULT on a select of no sleeve: an event, and the time of it. -/
theorem noteAccess_unrouted {c : Sel} {s : State} (h : s.role c ≠ 1) :
    (noteAccess c s).sleeves = s.sleeves ∧ ((noteAccess c s).sel c).out = (s.sel c).out ∧
      ((noteAccess c s).sel c).lastPush = (s.sel c).lastPush := by
  unfold noteAccess
  dsimp only
  rw [if_neg h]
  split
  · obtain ⟨l, hl⟩ := raiseSel_log (code := 0x9011) (by decide) c (modSel c (fun x => { x with lastAflt := some s.now }) s)
    have hsel : (modSel c (fun x => { x with lastAflt := some s.now }) s).sel c = { s.sel c with lastAflt := some s.now } :=
      sel_modSel_same c _ s
    rw [hl]
    refine ⟨rfl, ?_, ?_⟩ <;> rw [sel_withLog, hsel]
  · exact ⟨rfl, rfl, rfl⟩

/-- Settles O27. -/
theorem pushCommits : Obligations.PushCommits := by
  refine ⟨fun f low count packet s hserve hend hcrc hrole hfence h2 h69 => ?_, fun f low count packet s hserve => ?_⟩
  · have hexec := exec_pushCmd_right (packet := packet) (low := low) hserve hend hcrc (fun _ => hfence) h2 h69
    rw [if_neg (by simp [hrole])] at hexec
    obtain ⟨lanes, hlanes⟩ := trackLanes_lanes f s
    intro i x p told
    rw [hexec, hlanes]
    refine ⟨fun h => ?_, fun h hrem hheld => ?_, fun h hheld => ?_⟩
    · exact congrArg Host.Outcome.next (commitPush_enters (s := modPorts _ s) h)
    · exact congrArg Host.Outcome.next (commitPush_waits (s := modPorts _ s) h hrem hheld)
    · exact congrArg Host.Outcome.next (commitPush_refused (s := modPorts _ s) h hheld)
  · intro good
    refine ⟨fun h => ?_, fun hend hcrc hrole hfence h2 h69 => ?_, fun hend hcrc hrole h2 h69 => ?_⟩
    · rw [exec_pushCmd_aborted hserve h]
      exact congrArg Host.Outcome.next (modSel_modSel f.sel _ _ _)
    · refine ⟨_, exec_pushCmd_wrong hserve hend hcrc hfence h2 h69, ?_⟩
      obtain ⟨v, hv⟩ : ∃ v, crcFailed f true (trackLanes f s) = v := ⟨_, rfl⟩
      have hbox := hv ▸ postbox_crcFailed f (trackLanes f s)
      obtain ⟨lanes, hlanes⟩ := trackLanes_lanes f s
      rw [hlanes] at hbox
      have hsel : v.sel f.sel = { s.sel f.sel with fails := (s.sel f.sel).fails + 1 } :=
        (sel_of_postbox hbox f.sel).trans (sel_modSel_same f.sel _ _)
      rw [hv, setLastPush, endFrame_eq, modSel_modSel]
      refine ⟨fun i => ⟨?_, ?_⟩, ?_, ?_, ?_, ?_⟩
      · exact sleevePart_of_postbox hbox (part := SleeveSt.cmdq) (fun _ => rfl) i
      · exact sleevePart_of_postbox hbox (part := SleeveSt.heldPush) (fun _ => rfl) i
      · rw [sel_modSel_same, State.trailer, sel_modSel_same, hsel]
        rfl
      · rw [sel_modSel_same]
      · rw [sel_modSel_same, hsel]
      · refine (congrArg Prod.fst (mail_of_postbox hbox (selPort f.sel))).trans ?_
        exact congrArg PortSt.fail (vget_vmod_same _ _ _)
    · have hexec := exec_pushCmd_right (packet := packet) (low := low) hserve hend hcrc (fun h => absurd h hrole) h2 h69
      rw [if_pos hrole] at hexec
      obtain ⟨lanes, hlanes⟩ := trackLanes_lanes f s
      obtain ⟨hsleeves, hout, hlast⟩ := noteAccess_unrouted (c := f.sel)
        (s := endFrame f.sel [] stAccessFault 0 (setLastPush f.sel 3 (trackLanes f s))) (by rw [hlanes]; exact hrole)
      rw [hlanes, setLastPush, endFrame_eq, modSel_modSel] at hsleeves hout hlast
      refine ⟨_, hexec, ?_⟩
      rw [hlanes, setLastPush, endFrame_eq, modSel_modSel]
      refine ⟨hsleeves, hlast.trans ?_, hout.trans ?_⟩
      · rw [sel_modSel_same]
      · rw [sel_modSel_same, State.trailer, sel_modSel_same]
        rfl

/-! ### What a data phase drives -/

section
variable (c : Sel) (data : List Byte) (st : Byte) (detail : Nat) (s : State)

theorem readAnswer_full (h : st ≠ stAccessFault) : readAnswer c data st detail .full s = endFrame c data st detail s := by
  unfold readAnswer
  exact (if_neg (Nat.lt_irrefl _)).trans (if_neg h)

theorem readAnswer_cut {n : Nat} (h : n < data.length + 4) :
    readAnswer c data st detail (.cut n) s = drive c (data.take n) [] s := by
  have hmin : shiftedBytes (.cut n) (data.length + 4) = n := Nat.min_eq_left h.le
  unfold readAnswer
  dsimp only
  rw [hmin, if_pos h]

end

/-! ### POP_REPLY -/

theorem vmod_fixed {α : Type} {n : Nat} {v : Vector α n} {i : Fin n} {f : α → α} (h : f (v.get i) = v.get i) : vmod v i f = v := by
  ext j hj
  by_cases hij : i.val = j
  · subst hij
    exact (vget_vmod_same v i f).trans h
  · exact vget_vmod_ne v i ⟨j, hj⟩ f fun e => hij (congrArg Fin.val e)

theorem modSleeve_fixed {i : Sleeve} {f : SleeveSt → SleeveSt} {s : State} (h : f (s.sleeve i) = s.sleeve i) : modSleeve i f s = s := by
  unfold modSleeve
  rw [vmod_fixed h]

theorem length_padWords (bs : List Byte) : bs.length ≤ (padWords bs).length := by
  rw [padWords, List.length_append]
  exact Nat.le_add_right _ _

theorem length_zeroFrom (n : Nat) (bs : List Byte) : (zeroFrom n bs).length = bs.length := by
  rw [zeroFrom, List.length_append, List.length_take, List.length_replicate]
  omega

/-- The head reply leaves the queue while it is claimed. -/
def claimReply (i : Sleeve) (rest : List Reply) : State → State := modSleeve i (fun x => { x with replies := rest })

section
variable {c : Sel} {sh : Shift} {inner : State → State} {s : State}

theorem popOne_serves (hserve : s.serves c = true) (hearly : s.early c = false) (hrole : s.role c = 1) (hfence : s.fencedSleeve c = false)
    {r : Reply} {rest : List Reply} (h : (s.sleeve (s.selSleeve c)).replies = r :: rest) :
    popOne c sh inner s = finishPop c sh (s.selSleeve c) r (s.replyBytes (s.selSleeve c) r) (inner (claimReply (s.selSleeve c) rest s)) := by
  unfold popOne
  dsimp only
  rw [hserve, hearly, hfence, if_neg (by decide), if_neg (by decide), if_neg (not_not.mpr hrole), if_neg (by decide), h]
  rfl

theorem popOne_empty (hserve : s.serves c = true) (hearly : s.early c = false) (hrole : s.role c = 1) (hfence : s.fencedSleeve c = false)
    (h : (s.sleeve (s.selSleeve c)).replies = []) : popOne c sh inner s = readAnswer c noReply trEmpty 0 sh (inner s) := by
  unfold popOne
  dsimp only
  rw [hserve, hearly, hfence, if_neg (by decide), if_neg (by decide), if_neg (not_not.mpr hrole), if_neg (by decide), h]

end

section
variable {c : Sel} {i : Sleeve} {r : Reply} {bytes : List Byte} {s : State}

theorem lostFrom_whole (h : 4096 ∉ r.pockets) : r.lostFrom = none := by
  rw [Reply.lostFrom, if_neg]
  simpa using h

theorem lostFrom_torn (h : 4096 ∈ r.pockets) : r.lostFrom = some (8 + r.payload.length + 64 * r.pockets.idxOf 4096) := by
  rw [Reply.lostFrom, if_pos]
  simpa using h

theorem finishPop_full (h : 4096 ∉ r.pockets) :
    finishPop c .full i r bytes s = releasePockets r.pockets (endFrame c (padWords bytes) stOk 0 s) := by
  have hlen : bytes.length ≤ (padWords bytes).length + 4 := (length_padWords bytes).trans (Nat.le_add_right _ 4)
  unfold finishPop
  rw [lostFrom_whole h]
  dsimp only
  rw [readAnswer_full _ _ _ _ _ (by decide), if_neg]
  simp only [goneWords, shiftedBytes, List.isEmpty_nil, Bool.not_true, Bool.false_or]
  exact fun h => Nat.not_lt.mpr hlen (of_decide_eq_true h)

theorem finishPop_cut (h : 4096 ∉ r.pockets) {n : Nat} (hn : n < bytes.length) :
    finishPop c (.cut n) i r bytes s = returnReply i r (drive c ((padWords bytes).take n) [] s) := by
  have hlen := length_padWords bytes
  have hmin : shiftedBytes (.cut n) ((padWords bytes).length + 4) = n := Nat.min_eq_left (by omega)
  unfold finishPop
  rw [lostFrom_whole h]
  dsimp only
  rw [readAnswer_cut _ _ _ _ _ (by omega), hmin, if_pos]
  simp [hn]

theorem finishPop_torn (h : 4096 ∈ r.pockets) :
    finishPop c .full i r bytes s = internalReply i r.cmd (returnReply i r
      (endFrame c (zeroFrom (8 + r.payload.length + 64 * r.pockets.idxOf 4096) (padWords bytes)) stInternal 0 s)) := by
  unfold finishPop
  rw [lostFrom_torn h]
  dsimp only
  rw [readAnswer_full _ _ _ _ _ (by decide), if_neg]
  simp [goneWords, shiftedBytes]

end

/-- An INTERNAL reply takes the place of the one it finds. -/
theorem internalReply_head {i : Sleeve} {r : Reply} {rest : List Reply} {s : State} (h : (s.sleeve i).replies = r :: rest) :
    ∃ q : Reply, ((internalReply i r.cmd s).sleeve i).replies = q :: rest.map (fun y => if y.cmd = r.cmd then q else y) ∧
      q.status = stInternal ∧ q.tag = r.tag ∧ q.seq = r.seq ∧ q.payload = [] ∧ q.pockets = [] ∧
      (internalReply i r.cmd s).ports = s.ports := by
  unfold internalReply
  rw [h, List.find?_cons_of_pos (by simp)]
  dsimp only
  obtain ⟨tag, ns, hseal, -⟩ := sealReply_fields s i (!r.sealTag.isEmpty) (s.cmdKeyOf i)
    { r with status := stInternal, payload := [], pockets := [], pocketLen := 0, sealTag := [] }
  rw [hseal]
  refine ⟨{ r with status := stInternal, payload := [], pockets := [], pocketLen := 0, sealTag := tag, noseal := ns }, ?_, rfl, rfl, rfl, rfl,
    rfl, rfl⟩
  rw [sleeve_modSleeve_same]
  show ((s.sleeve i).replies.map _) = _
  rw [h, List.map_cons, if_pos rfl]

/-- A claimed reply that comes back stands where it stood. -/
theorem returnReply_claimReply {i : Sleeve} {r : Reply} {rest : List Reply} {s : State} (h : (s.sleeve i).replies = r :: rest)
    (c : Sel) (data : List Byte) : returnReply i r (drive c data [] (claimReply i rest s)) = drive c data [] s := by
  show drive c data [] (modSleeve i (fun x => { x with replies := r :: x.replies }) (modSleeve i (fun x => { x with replies := rest }) s)) = _
  rw [modSleeve_modSleeve, modSleeve_fixed]
  rw [← h]

/-- Settles O28. -/
theorem popDelivers : Obligations.PopDelivers := by
  intro c s hserve hearly hrole hfence i
  refine ⟨fun r rest hreplies hwhole => ⟨?_, fun n hn => ?_⟩, fun r rest hreplies htorn => ?_,
    fun r q rest d hreplies hr hq hne hserve' hearly' hrole' hsl => ?_, fun hreplies => ?_⟩
  · refine congrArg Host.Outcome.next ((popOne_serves hserve hearly hrole hfence hreplies).trans ?_)
    exact finishPop_full hwhole
  · refine congrArg Host.Outcome.next ((popOne_serves hserve hearly hrole hfence hreplies).trans ((finishPop_cut hwhole hn).trans ?_))
    exact returnReply_claimReply hreplies c _
  · obtain ⟨v, hv⟩ : ∃ v, returnReply i r (endFrame c (zeroFrom (8 + r.payload.length + 64 * r.pockets.idxOf 4096)
      (padWords (s.replyBytes i r))) stInternal 0 (claimReply i rest s)) = v := ⟨_, rfl⟩
    have hexec : exec (.popReply c ⟨.full, []⟩) s = .next (internalReply i r.cmd v) := hv ▸ congrArg Host.Outcome.next
      ((popOne_serves hserve hearly hrole hfence hreplies).trans (finishPop_torn htorn))
    have hvr : (v.sleeve i).replies = r :: rest := by
      rw [← hv, returnReply, sleeve_modSleeve_same]
      exact congrArg (r :: SleeveSt.replies ·) (sleeve_modSleeve_same i (fun x => { x with replies := rest }) s)
    obtain ⟨q, hq, hst, htag, hseq, hpay, hpock, hports⟩ := internalReply_head hvr
    refine ⟨_, q, hexec, hq, hst, htag, hseq, hpay, hpock, ?_⟩
    rw [State.sel, hports, ← hv]
    exact congrArg SelSt.out (sel_modSel_same c _ _)
  · obtain ⟨v, hv⟩ : ∃ v, claimReply i (q :: rest) s = v := ⟨_, rfl⟩
    have hvr : (v.sleeve i).replies = q :: rest := by
      rw [← hv, claimReply, sleeve_modSleeve_same]
    have hvsel : v.selSleeve d = i := hv ▸ hsl
    have hvfence : v.fencedSleeve d = false := by
      have hhealth := modSleeve_sleevePart (part := SleeveSt.health) (f := fun x => { x with replies := q :: rest }) (fun _ => rfl) i s i
      rw [State.fencedSleeve, hvsel, ← hv, claimReply, hhealth]
      exact hfence
    have hinner := popOne_serves (c := d) (sh := .full) (inner := id) (s := v) (hv ▸ hserve') (hv ▸ hearly') (hv ▸ hrole') hvfence
      (r := q) (rest := rest) (by rw [hvsel, hvr])
    rw [hvsel, finishPop_full hq] at hinner
    obtain ⟨w, hw⟩ : ∃ w, popOne d .full id v = w := ⟨_, rfl⟩
    have hexec : exec (.popReply c ⟨.full, [(d, .full)]⟩) s =
        .next (releasePockets r.pockets (endFrame c (padWords (s.replyBytes i r)) stOk 0 w)) := by
      rw [← hw, ← hv]
      exact congrArg Host.Outcome.next ((popOne_serves hserve hearly hrole hfence hreplies).trans (finishPop_full hr))
    have hwsel : w.sel d = { v.sel d with
        frames := (v.sel d).frames + 1, out := ⟨padWords (v.replyBytes i q), v.trailer d stOk 0, []⟩ } := by
      rw [← hw, hinner]
      exact sel_modSel_same d _ _
    have hwselc : w.sel c = v.sel c := by
      rw [← hw, hinner]
      exact sel_modSel_ne d c _ _ hne
    refine ⟨_, hexec, ?_, ?_, ?_⟩
    · show (w.sleeve i).replies = rest
      rw [← hw, hinner]
      exact congrArg SleeveSt.replies (sleeve_modSleeve_same i (fun x => { x with replies := rest }) v)
    · refine (congrArg SelSt.out (sel_modSel_same c _ w)).trans ?_
      show (⟨_, w.trailer c stOk 0, []⟩ : BusOut) = _
      rw [State.trailer, hwselc, ← hv]
      rfl
    · refine (congrArg SelSt.out (sel_modSel_ne c d _ w (Ne.symm hne))).trans ?_
      rw [hwsel, ← hv]
      rfl
  · refine congrArg Host.Outcome.next ((popOne_empty hserve hearly hrole hfence hreplies).trans ?_)
    exact readAnswer_full _ _ _ _ _ (by decide)

/-! ### Bytes of a record -/

theorem wordsBytes_bytesWords (n : Nat) (bs : List Byte) (h : bs.length = 4 * n) : wordsBytes (bytesWords bs) = bs := by
  induction n generalizing bs with
  | zero =>
    rw [List.length_eq_zero_iff.mp h]
    rfl
  | succ n ih =>
    match bs, h with
    | a :: b :: c :: d :: r, h =>
      have hr : r.length = 4 * n := by
        simp only [List.length_cons] at h
        omega
      rw [bytesWords, wordsBytes, List.flatMap_cons]
      exact congrArg₂ (· ++ ·) (wordBytes_ofBytes a b c d) (ih r hr)

theorem repeatWords_none (n : Nat) (w : Word) (ws : List Word) : repeatWords [] n w ws = ws := by
  induction ws generalizing n w with
  | nil => rfl
  | cons v ws ih =>
    rw [repeatWords]
    exact congrArg (v :: ·) (ih _ _)

theorem recordHeader_empty (n : Fin 4) : recordHeader 0 false false n.val = BitVec.ofNat 32 (n.val * 2 ^ 13) := by
  revert n
  decide

theorem recordHeader_plain {len : Nat} (h : len < 2 ^ 11) (n : Fin 4) :
    recordHeader len false false n.val = BitVec.ofNat 32 (len + n.val * 2 ^ 13) := by
  have hn := n.isLt
  simp only [recordHeader, pack, List.map_cons, List.map_nil, List.sum_cons, List.sum_nil, bit]
  congr 1
  rw [Nat.mod_eq_of_lt h, Nat.mod_eq_of_lt (show n.val < 2 ^ 2 by omega)]
  simp

theorem placeBytes_filled {s : State} {i : Sleeve} {q : Place} {k : Pocket} (hk : s.pocket q.pocket = some k) (hi : k.owner = i)
    (hlen : k.bytes.length = 64) : s.placeBytes i q = k.bytes := by
  simp only [State.placeBytes, hk, hi, if_true]
  exact List.take_left' hlen

/-- A frame of filled pockets of the sleeve is their bytes. -/
theorem flatMap_placeBytes {s : State} {i : Sleeve} {f : List Place}
    (h : ∀ q ∈ f, ∃ k, s.pocket q.pocket = some k ∧ k.owner = i ∧ k.bytes.length = 64) :
    f.flatMap (s.placeBytes i) = s.pocketBytes i (f.map (·.pocket)) ∧ (f.flatMap (s.placeBytes i)).length = 64 * f.length := by
  induction f with
  | nil => exact ⟨rfl, rfl⟩
  | cons q f ih =>
    obtain ⟨heq, hlen⟩ := ih fun q' hq' => h q' (List.mem_cons_of_mem _ hq')
    obtain ⟨k, hk, hi, hk64⟩ := h q List.mem_cons_self
    rw [List.flatMap_cons, placeBytes_filled hk hi hk64]
    refine ⟨?_, ?_⟩
    · have hcons (ks : List Nat) : s.pocketBytes i (q.pocket :: ks) = k.bytes ++ s.pocketBytes i ks := by
        simp only [State.pocketBytes, List.flatMap_cons, hk, hi, if_true]
      rw [heq, List.map_cons, hcons]
    · rw [List.length_append, hk64, hlen, List.length_cons]
      omega

/-! ### What a claimed frame leaves -/

section
variable {id : Nat}

theorem settles_loseLane (ps : List Nat) (s : State) : Settles id s (loseLane ps s) := settles_modFabric (by intro _; rfl) s

theorem restreams_giveUpFrames (i : Sleeve) (k : Fin 4) (bad : BitVec 64 × List Place → Bool) (s : State) :
    Restreams id s (giveUpFrames i k bad s) := by
  unfold giveUpFrames
  dsimp only
  split
  · exact .refl s
  · refine Bookkeeps.trans ?_ (restreams_modStream i k _ _)
    refine Settles.restreams (Bookkeeps.trans ?_ (settles_loseLane _ _))
    exact settles_releasePockets _ s

theorem restreams_settleChain (i : Sleeve) (k : Fin 4) (s : State) : Restreams id s (settleChain i k s) :=
  (restreams_modStream i k _ s).trans ((restreams_giveUpFrames i k _ _).trans (restreams_modStream i k _ _))

theorem restreams_claimFrame (i : Sleeve) (n : Fin 4) (f : List Place) {s : State} (hs : s.noOpOf id) :
    Restreams id s (claimFrame i n f s) := by
  have hchain := (Settles.restreams (id := id) (settles_releasePockets (f.map (·.pocket)) s)).trans ((restreams_modStream i n (fun y => { y with
    chain := y.chain.drop f.length, record := y.record + 1, seals := y.seals.filter (fun z => z.record != y.record) }) _).trans
      (restreams_settleChain i n _))
  have hpat := hchain.trans (restreams_settlePattern i n (hchain.noOp hs))
  exact hpat.trans (Settles.restreams (settles_settleFabric (hpat.noOp hs)))

end

/-- Some command is none of the fabric's operations'. -/
theorem exists_noOpOf (s : State) : ∃ id, s.noOpOf id := by
  obtain ⟨id, hid⟩ := Infinite.exists_notMem_finset ((s.fabric.ops.filterMap Op.cmd).toFinset)
  refine ⟨id, fun o ho hcmd => hid ?_⟩
  rw [List.mem_toFinset]
  exact List.mem_filterMap.mpr ⟨o, ho, hcmd⟩

theorem Bookkeeps.ports {m : SleeveSt → SleeveSt} {id : Nat} {s t : State} (h : Bookkeeps m id s t) : t.ports = s.ports := by
  simpa only [State.seenBy] using congrArg State.ports h.seen

theorem sel_claimFrame (i : Sleeve) (n : Fin 4) (f : List Place) (s : State) (c : Sel) : (claimFrame i n f s).sel c = s.sel c := by
  obtain ⟨id, hid⟩ := exists_noOpOf s
  rw [State.sel, (restreams_claimFrame i n f hid).ports]
  rfl

/-! ### STREAM_READ -/

/-- A select that drives nothing yet drives one record. -/
theorem driveRecord_first {c : Sel} {s : State} (h : (s.sel c).out = ⟨[], [], []⟩) (r : List Byte × List Byte) :
    driveRecord c r s = modSel c (fun x => { x with out := ⟨r.1, r.2, []⟩ }) s := by
  have hvmod : vmod s.ports.sels c (fun x => { x with out := ⟨x.out.data ++ x.out.trailer ++ r.1, r.2, x.out.periods⟩ }) =
      vmod s.ports.sels c (fun x => { x with out := ⟨r.1, r.2, []⟩ }) := by
    have hget : (s.ports.sels.get c).out = ⟨[], [], []⟩ := h
    refine congrArg (vset s.ports.sels c) ?_
    dsimp only
    rw [hget]
    rfl
  unfold driveRecord modSel modPorts
  dsimp only
  rw [hvmod]

section
variable {c : Sel} {n : Fin 4} {s : State}

theorem exec_streamRead (hserve : s.serves c = true) (hearly : s.early c = false) (hfold : s.foldM c = false) (hrole : s.role c = 1)
    (hfence : s.fencedSleeve c = false) (hcap : s.selSleeve c = 0 → s.capture.holds = false) :
    exec (.streamRead c n [.full]) s = .next (streamRecord c (s.selSleeve c) n .full (drive c [] [] s)).1 := by
  have hnocap : ¬ (s.selSleeve c = 0 ∧ s.capture.holds = true) := fun h => absurd (hcap h.1) (by rw [h.2]; decide)
  show execStreamRead c n [.full] s = _
  unfold execStreamRead
  refine congrArg Host.Outcome.next ((if_neg (show ¬ (!s.serves c) = true by rw [hserve]; decide)).trans
    ((if_neg (show ¬ (s.early c || s.foldM c) = true by rw [hearly, hfold]; decide)).trans
      ((if_neg (not_not.mpr hrole)).trans ((if_neg (show ¬ s.fencedSleeve c = true by rw [hfence]; decide)).trans ?_))))
  show streamRecords c (s.selSleeve c) n [.full] (drive c [] [] s) = _
  unfold streamRecords
  dsimp only
  rw [if_neg (show ¬ (s.selSleeve c = 0 ∧ (drive c [] [] s).capture.holds = true) from hnocap)]
  split
  · rfl
  · rfl
  · exact if_pos rfl

theorem streamRecord_idle {i : Sleeve} (hrun : ((s.sleeve i).streams.get n).running = false) (hchain : ((s.sleeve i).streams.get n).chain = []) :
    (streamRecord c i n .full s).1 = driveRecord c (recordBytes (wordBytes (recordHeader 0 false false n.val)) trIdle 0
      (((s.sleeve i).streams.get n).record.toNat % 65536)) s := by
  have hframes : (if patPush ((s.sleeve i).streams.get n).pat0 then [] else ((s.sleeve i).streams.get n).frames) = [] := by
    rw [Stream.frames, hchain]
    exact ite_self _
  unfold streamRecord
  dsimp only
  rw [hframes]
  dsimp only
  rw [hrun]
  rfl

theorem streamRecord_waits {i : Sleeve} {f : List Place} {r : List (List Place)} (hpull : patPush ((s.sleeve i).streams.get n).pat0 = false)
    (hframes : ((s.sleeve i).streams.get n).frames = f :: r) (hready : ((s.sleeve i).streams.get n).headReady = false) :
    (streamRecord c i n .full s).1 = s := by
  unfold streamRecord
  dsimp only
  rw [hpull, if_neg (by decide), hframes, hready]
  rfl

/-- A ready frame is whole, of filled pockets. -/
theorem headReady_frame {x : Stream} {f : List Place} {r : List (List Place)} (hready : x.headReady = true) (hframes : x.frames = f :: r) :
    (∀ q ∈ f, q.filled = true) ∧ 64 * f.length < 2 ^ 11 := by
  unfold Stream.headReady at hready
  rw [hframes] at hready
  obtain ⟨hbuilt, -⟩ := Bool.and_eq_true_iff.mp hready
  obtain ⟨hwhole, hall⟩ := Bool.and_eq_true_iff.mp hbuilt
  have hfilled : ∀ q ∈ f, q.filled = true ∧ q.dropped = false := fun q hq => by
    have := List.all_eq_true.mp hall q hq
    simpa using this
  refine ⟨fun q hq => (hfilled q hq).1, ?_⟩
  match f, hwhole, hfilled with
  | p :: f, hwhole, hfilled =>
    have hlen : (p :: f).length = patFrame p.pat0 := by
      simpa [wholeFrame, (hfilled p List.mem_cons_self).2] using hwhole
    have hmax : patFrame p.pat0 ≤ 16 := by
      unfold patFrame field
      split <;> omega
    omega

/-- A record of which all is held is sent whole. -/
theorem sendRecord_full (c : Sel) {body : List Byte} {k : Nat} (hlen : body.length = 4 * k) (st : Byte) (counter : Nat) (s : State) :
    sendRecord c body [] st counter .full s = (driveRecord c (recordBytes body st 0 counter) s, .more) := by
  have hgone (m : Nat) : (List.range m).filter (fun w => decide (0 < w) && (([] : List Nat).contains w ||
      (goneWords .full m).contains w)) = [] := by
    refine List.filter_eq_nil_iff.mpr fun w _ => ?_
    simp [goneWords]
  have hpad : body ++ List.replicate ((4 - body.length % 4) % 4) 0 = body := by
    rw [hlen, Nat.mul_mod_right]
    exact List.append_nil body
  unfold sendRecord
  dsimp only
  rw [hgone, hpad, repeatWords_none, wordsBytes_bytesWords k body hlen, List.take_length]
  exact if_neg (Nat.lt_irrefl _)

theorem streamRecord_sends {i : Sleeve} {f : List Place} {r : List (List Place)} (hpull : patPush ((s.sleeve i).streams.get n).pat0 = false)
    (hframes : ((s.sleeve i).streams.get n).frames = f :: r) (hready : ((s.sleeve i).streams.get n).headReady = true)
    (hplain : ∀ q ∈ f, patSeal q.pat0 = false)
    (hpockets : ∀ q ∈ f, ∃ k, s.pocket q.pocket = some k ∧ k.owner = i ∧ k.bytes.length = 64) :
    (streamRecord c i n .full s).1 = driveRecord c (recordBytes
      (wordBytes (BitVec.ofNat 32 (64 * f.length + n.val * 2 ^ 13)) ++ s.pocketBytes i (f.map (·.pocket))) stOk 0
        (((s.sleeve i).streams.get n).record.toNat % 65536)) (claimFrame i n f s) := by
  obtain ⟨hfilled, hlen⟩ := headReady_frame hready hframes
  obtain ⟨hbytes, hblen⟩ := flatMap_placeBytes hpockets
  have hseal : sealedFrame f = false := List.any_eq_false.mpr fun q hq => by simp [hplain q hq]
  have hbody : s.streamBody i n f =
      wordBytes (BitVec.ofNat 32 (64 * f.length + n.val * 2 ^ 13)) ++ s.pocketBytes i (f.map (·.pocket)) := by
    unfold State.streamBody
    dsimp only
    rw [hseal, recordHeader_plain hlen, hbytes]
    exact List.append_nil _
  have hunheld : ((s.sleeve i).streams.get n).unheld f = [] := by
    unfold Stream.unheld
    dsimp only
    rw [hseal, List.filter_eq_nil_iff.mpr fun w hw => ?_]
    · rfl
    · have hlt : w / 16 < f.length := by
        have := List.mem_range.mp hw
        omega
      rw [List.getD_eq_getElem _ _ hlt, hfilled _ (List.getElem_mem hlt)]
      decide
  have hblen4 : (wordBytes (BitVec.ofNat 32 (64 * f.length + n.val * 2 ^ 13)) ++ s.pocketBytes i (f.map (·.pocket))).length =
      4 * (1 + 16 * f.length) := by
    rw [List.length_append, wordBytes_length, ← hbytes, hblen]
    omega
  unfold streamRecord
  dsimp only
  rw [hpull, if_neg (by decide), hframes]
  dsimp only
  have hrdy : rdyIn (if true then (s.streamBody i n f).length + 8 else 0) ((s.streamBody i n f).length + 8) = true := by
    simp [rdyIn]
  rw [hready, hrdy, hbody, hunheld, sendRecord_full c hblen4]
  rfl

end

/-- Settles O29. -/
theorem streamReads : Obligations.StreamReads := by
  intro c n s hserve hearly hfold hrole hfence hcap x number record
  have hexec := exec_streamRead (n := n) hserve hearly hfold hrole hfence hcap
  have hfirst : ((drive c [] [] s).sel c).out = ⟨[], [], []⟩ := congrArg SelSt.out (sel_modSel_same c _ s)
  refine ⟨fun hrun hchain => ?_, fun f r hpull hframes hready hplain hpockets => ?_, fun f r hpull hframes hready hdrop => ?_⟩
  · rw [hexec, streamRecord_idle (s := drive c [] [] s) hrun hchain, driveRecord_first hfirst, drive, modSel_modSel, recordHeader_empty]
    simp only [recordBytes, Nat.mod_mod]
    rfl
  · rw [hexec, streamRecord_sends (s := drive c [] [] s) hpull hframes hready hplain hpockets,
      driveRecord_first ((congrArg SelSt.out (sel_claimFrame _ n f _ c)).trans hfirst)]
    simp only [recordBytes, Nat.mod_mod]
    rfl
  · rw [hexec, streamRecord_waits (s := drive c [] [] s) hpull hframes hready]
    rfl

/-! ### STATUS -/

section
variable {c : Sel} {s : State}

theorem exec_status (hserve : s.serves c = true) (sh : Shift) : exec (.status ⟨c, sh⟩) s = .next (readAnswer c (wordBytes (s.statusWord c))
    (if s.early c then stNotReady else if s.role c = 0 then stAccessFault else stOk) 0 sh s) := by
  show execStatus _ s = _
  unfold execStatus
  dsimp only
  rw [hserve]
  rfl

theorem exec_status_unrouted (hserve : s.serves c = true) (hearly : s.early c = false) (hrole : s.role c = 0) :
    ∃ u, exec (.status ⟨c, .full⟩) s = .next u ∧ (u.sel c).out = ⟨[0, 0, 0, 0], s.trailer c stAccessFault 0, []⟩ ∧
      u.sleeves = s.sleeves := by
  have hword : s.statusWord c = 0 := by
    unfold State.statusWord
    dsimp only
    rw [hrole]
    rfl
  have hread : readAnswer c (wordBytes (s.statusWord c)) stAccessFault 0 .full s =
      noteAccess c (endFrame c (wordBytes (s.statusWord c)) stAccessFault 0 s) := by
    unfold readAnswer
    exact (if_neg (Nat.lt_irrefl _)).trans (if_pos rfl)
  obtain ⟨hsleeves, hout, -⟩ := noteAccess_unrouted (c := c) (s := endFrame c (wordBytes (s.statusWord c)) stAccessFault 0 s)
    (by show s.role c ≠ 1; rw [hrole]; decide)
  rw [exec_status hserve, hearly, if_neg (by decide), if_pos hrole, hread]
  refine ⟨_, rfl, hout.trans ?_, hsleeves⟩
  rw [endFrame_eq, sel_modSel_same, hword]
  rfl

end

/-! ### TRAIN -/

section
variable {c : Sel} {seen : List (List (BitVec 1024))} {s : State}

/-- The select has trained within 1 ms, on a port then trained. -/
def State.trainedSoon (s : State) (c : Sel) : Bool :=
  (s.ports.ports.get (selPort c)).trained && (match (s.sel c).lastTrain with
    | some t => decide (s.now - t < 1000)
    | none => false)

theorem trainedSoon_false (h : (s.ports.ports.get (selPort c)).trained = false ∨ (s.sel c).lastTrain = none ∨
    ∃ t, (s.sel c).lastTrain = some t ∧ 1000 ≤ s.now - t) : s.trainedSoon c = false := by
  unfold State.trainedSoon
  obtain htr | hlast | ⟨t, hlast, ht⟩ := h
  · rw [htr, Bool.false_and]
  · rw [hlast, Bool.and_false]
  · rw [hlast]
    dsimp only
    rw [decide_eq_false (Nat.not_lt.mpr ht), Bool.and_false]

theorem trainedSoon_true {t : Nat} (htr : (s.ports.ports.get (selPort c)).trained = true) (hlast : (s.sel c).lastTrain = some t)
    (ht : s.now - t < 1000) : s.trainedSoon c = true := by
  unfold State.trainedSoon
  rw [htr, hlast]
  exact decide_eq_true ht

theorem exec_train (htrains : s.trains (selPort c) = true) :
    exec (.train c seen true) s = .next (
      if s.trainedSoon c then endFrame c [] stBusy 0 (modSel c (fun x => { x with lastTrain := some s.now }) s)
      else
        let t := judgeTrain (selPort c) seen (modSel c (fun x => { x with lastTrain := some s.now }) s)
        let w := if (t.ports.ports.get (selPort c)).health.st = .retired then 0 else (t.ports.ports.get (selPort c)).width
        endFrame c (trainOut w) stOk w t) :=
  congrArg Host.Outcome.next (if_neg (by rw [htrains]; decide))

theorem exec_train_incomplete : exec (.train c seen false) s = .next (modSel c (fun x => { x with out := ⟨[], [], []⟩ }) s) :=
  congrArg Host.Outcome.next (if_pos (by rw [Bool.not_false, Bool.or_true]))

end

/-! What the verdicts on a port's lanes leave -/

theorem postbox_judgeLane (p : Fin 3) (seen : List (List (BitVec 1024))) (l : Fin 8) (s : State) :
    (judgeLane p seen l s).postbox = s.postbox := by
  have hcentre (u : State) : (centreLane p l (seenOn seen l) u).postbox = u.postbox := by
    unfold centreLane when'
    split <;> rfl
  have hpass (u : State) : (passRetest (.lane (laneFin p l)) u).postbox = u.postbox := by
    unfold passRetest
    split
    · rfl
    · exact postbox_retireUnit rfl u
  have hhandle := postbox_handleUnit (u := .lane (laneFin p l)) rfl (s.faultAt (.lane (laneFin p l))) s
  unfold judgeLane
  dsimp only
  split
  · rfl
  · split
    · split
      · exact (hcentre _).trans hhandle
      · exact (postbox_laneFault p l _).trans hhandle
    · split
      · exact (postbox_of_calm (calm_raiseD (by decide) _ _)).trans ((hpass _).trans ((hcentre _).trans hhandle))
      · exact (postbox_retireUnit rfl _).trans hhandle
    · exact hhandle

/-- Answers leave the ports, and end each command they name. -/
theorem forAll_answer (st : Byte) (payload : List Byte) (ids : List Nat) (s : State) :
    (forAll ids (fun id => answer id st payload) s).ports = s.ports ∧
      ∀ id, s.findCmd id = none ∨ id ∈ ids → (forAll ids (fun id => answer id st payload) s).findCmd id = none := by
  induction ids generalizing s with
  | nil => exact ⟨rfl, fun id h => h.resolve_right List.not_mem_nil⟩
  | cons k ids ih =>
    obtain ⟨hports, hcmds⟩ := ih (answer k st payload s)
    have hstill := still_answer k st payload s
    refine ⟨hports.trans (by simpa only [State.still, State.seenBy] using congrArg State.ports hstill), fun id h => hcmds id ?_⟩
    have hcmd : (answer k st payload s).findCmd id = none ↔ ∀ c ∈ s.cmds, c.id ≠ k → c.id ≠ id := by
      rw [State.findCmd, (answer_cmds k st payload s).1, List.find?_eq_none]
      simp [List.mem_filter]
    obtain hnone | hmem := h
    · refine .inl (hcmd.mpr fun c hc _ => ?_)
      have := List.find?_eq_none.mp hnone c hc
      simpa using this
    · obtain rfl | hmem := List.mem_cons.mp hmem
      · exact .inl (hcmd.mpr fun c _ hne => hne)
      · exact .inr hmem

/-- The commands that wait for a port's training are answered. -/
theorem answerWaiters_answers (p : Fin 3) (st : Byte) (s : State) :
    (answerWaiters p st s).ports = (modPort p (fun x => { x with waiters := [] }) s).ports ∧
      ∀ id ∈ (s.ports.ports.get p).waiters, (answerWaiters p st s).findCmd id = none := by
  obtain ⟨hports, hcmds⟩ := forAll_answer st (if st = stOk then s.lanesMask p else []) (s.ports.ports.get p).waiters
    (modPort p (fun x => { x with waiters := [] }) s)
  exact ⟨hports, fun id hid => hcmds id (.inr hid)⟩

/-- From `s` to `t` the port was tuned: no lane changed, nor the port's health or its waiting commands. -/
structure Tuned (p : Fin 3) (s t : State) : Prop where
  lanes   : t.ports.lanes = s.ports.lanes
  health  : (t.ports.ports.get p).health = (s.ports.ports.get p).health
  waiters : (t.ports.ports.get p).waiters = (s.ports.ports.get p).waiters

theorem Tuned.trans {p : Fin 3} {s t u : State} (h : Tuned p s t) (h' : Tuned p t u) : Tuned p s u :=
  ⟨h'.lanes.trans h.lanes, h'.health.trans h.health, h'.waiters.trans h.waiters⟩

theorem Tuned.of_ports {p : Fin 3} {s t : State} (h : t.ports = s.ports) : Tuned p s t := by
  constructor <;> rw [h]

theorem tuned_modPort {p : Fin 3} {f : PortSt → PortSt} (hf : ∀ x, (f x).health = x.health ∧ (f x).waiters = x.waiters) (s : State) :
    Tuned p s (modPort p f s) := by
  have hget : (modPort p f s).ports.ports.get p = f (s.ports.ports.get p) := vget_vmod_same _ _ _
  exact ⟨rfl, by rw [hget, (hf _).1], by rw [hget, (hf _).2]⟩

theorem ports_of_calm {s t : State} (h : t.calm = s.calm) : t.ports = s.ports := by
  simpa only [State.calm] using congrArg State.ports h

theorem tuned_setWidth (p : Fin 3) (w : Nat) (s : State) : Tuned p s (setWidth p w s) := by
  unfold setWidth
  split
  · exact .of_ports rfl
  · refine (tuned_modPort (f := fun x => { x with width := w }) (fun _ => ⟨rfl, rfl⟩) s).trans (.of_ports (ports_of_calm ?_))
    exact calm_raiseA (by decide) _ (calm_alertLane p) _

/-- A lane of the port is in quarantine. -/
def State.laneQuarantined (s : State) (p : Fin 3) : Bool :=
  (portLanes p).any (fun l => decide ((s.health (.lane (laneFin p l))).st = .quarantined))

theorem Tuned.laneQuarantined {p : Fin 3} {s t : State} (h : Tuned p s t) : t.laneQuarantined p = s.laneQuarantined p := by
  unfold State.laneQuarantined State.health
  dsimp only
  rw [h.lanes]

/-- The update that ends a TRAIN frame of a port not retired, before its answers. -/
def tunePort (p : Fin 3) (s : State) : State :=
  let t := modPort p (fun x => { x with trained := !s.laneQuarantined p })
    (setWidth p (min (s.ports.ports.get p).config (widest (s.lanesUp p).length)) s)
  if everySecond (t.ports.ports.get p).lastDone t.now then
    raiseD 0x9006 [BitVec.ofNat 8 p.val] (modPort p (fun x => { x with lastDone := some t.now }) t)
  else t

theorem judgeTrain_eq (p : Fin 3) (seen : List (List (BitVec 1024))) (s : State) :
    judgeTrain p seen s =
      let t := checkPort p (forAll (portLanes p) (judgeLane p seen) s)
      if (t.ports.ports.get p).health.st = .retired then answerWaiters p stFenced t
      else if t.laneQuarantined p then tunePort p t else answerWaiters p stOk (tunePort p t) := rfl

theorem tunePort_tunes (p : Fin 3) (s : State) :
    Tuned p s (tunePort p s) ∧ ((tunePort p s).ports.ports.get p).trained = !s.laneQuarantined p := by
  obtain ⟨v, hv⟩ : ∃ v, setWidth p (min (s.ports.ports.get p).config (widest (s.lanesUp p).length)) s = v := ⟨_, rfl⟩
  obtain ⟨t, ht⟩ : ∃ t, modPort p (fun x => { x with trained := !s.laneQuarantined p }) v = t := ⟨_, rfl⟩
  have hst : Tuned p s t := ht ▸ hv ▸ (tuned_setWidth p _ s).trans (tuned_modPort (by intro _; exact ⟨rfl, rfl⟩) _)
  have htrained : (t.ports.ports.get p).trained = !s.laneQuarantined p := by
    rw [← ht]
    exact congrArg PortSt.trained (vget_vmod_same _ _ _)
  unfold tunePort
  dsimp only
  rw [hv, ht]
  split
  · have hports := ports_of_calm (calm_raiseD (code := 0x9006) (by decide) [BitVec.ofNat 8 p.val]
      (modPort p (fun x => { x with lastDone := some t.now }) t))
    refine ⟨hst.trans ((tuned_modPort (f := fun x => { x with lastDone := some t.now }) (fun _ => ⟨rfl, rfl⟩) t).trans (.of_ports hports)), ?_⟩
    rw [hports, ← htrained]
    exact (congrArg PortSt.trained (vget_vmod_same t.ports.ports p (fun x => { x with lastDone := some t.now }))).trans rfl
  · exact ⟨hst, htrained⟩

/-- Where a TRAIN frame leaves the port in service with no lane in quarantine, the port is trained and its commands answered. -/
theorem judgeTrain_trains (p : Fin 3) (seen : List (List (BitVec 1024))) {s : State}
    (hport : ((judgeTrain p seen s).ports.ports.get p).health.st ≠ .retired) (hlanes : (judgeTrain p seen s).laneQuarantined p = false) :
    ((judgeTrain p seen s).ports.ports.get p).trained = true ∧ ((judgeTrain p seen s).ports.ports.get p).waiters = [] ∧
      ∀ id ∈ (s.ports.ports.get p).waiters, (judgeTrain p seen s).findCmd id = none := by
  rw [judgeTrain_eq] at hport hlanes ⊢
  dsimp only at hport hlanes ⊢
  obtain ⟨v, hv⟩ : ∃ v, checkPort p (forAll (portLanes p) (judgeLane p seen) s) = v := ⟨_, rfl⟩
  have hmail : (v.ports.ports.get p).waiters = (s.ports.ports.get p).waiters := by
    have hbox : v.postbox = s.postbox := hv ▸ (postbox_checkPort p _).trans (postbox_forAll (postbox_judgeLane p seen) _ s)
    exact congrArg Prod.snd (mail_of_postbox hbox p)
  have hanswered (st : Byte) (w : State) : ((answerWaiters p st w).ports.ports.get p) = { w.ports.ports.get p with waiters := [] } := by
    rw [(answerWaiters_answers p st w).1]
    exact vget_vmod_same _ _ _
  rw [hv] at hport hlanes ⊢
  split at hport
  · rename_i hret
    rw [hanswered] at hport
    exact absurd hret hport
  · rename_i hlive
    rw [if_neg hlive] at hlanes ⊢
    obtain ⟨htuned, htrained⟩ := tunePort_tunes p v
    cases hq : v.laneQuarantined p with
    | true =>
      rw [hq, if_pos rfl, htuned.laneQuarantined, hq] at hlanes
      nomatch hlanes
    | false =>
      rw [if_neg (by decide), hanswered]
      refine ⟨htrained.trans (by rw [hq]; rfl), rfl, fun id hid => (answerWaiters_answers p stOk (tunePort p v)).2 id ?_⟩
      rw [htuned.waiters, hmail]
      exact hid

/-- Settles O30. -/
theorem statusAndTraining : Obligations.StatusAndTraining := by
  refine ⟨fun c s hserve => ⟨fun hearly hrole => ?_, fun hearly => ?_, exec_status_unrouted hserve, fun n hn => ?_⟩,
    fun c seen s htrains => ⟨exec_train_incomplete, fun h => ?_, fun hport hlanes => ?_, fun t htr hlast ht => ?_⟩⟩
  · rw [exec_status hserve, hearly, if_neg (by decide), if_neg hrole, readAnswer_full _ _ _ _ _ (by decide)]
    rfl
  · rw [exec_status hserve, hearly, if_pos rfl, readAnswer_full _ _ _ _ _ (by decide)]
    rfl
  · rw [exec_status hserve, readAnswer_cut _ _ _ _ _ (by exact hn)]
    rfl
  · rw [exec_train htrains, trainedSoon_false h]
    rfl
  · refine judgeTrain_trains (selPort c) seen hport (List.any_eq_false.mpr fun l hl => ?_)
    simpa using hlanes l hl
  · rw [exec_train htrains, trainedSoon_true htr hlast ht]
    rfl

end Sys2Proof.Machine
end

section
/-! SUPPORT. DRBG opcodes, and the judging of a taken packet. -/

namespace Sys2Proof.Machine

/-! ### The DRBG opcodes -/

section
variable {c : Cmd} {s : State} {kind : OpKind} {mask : Word} {nbytes : Word → Nat}

theorem drbgBody_enters (harg : argBits c.arg mask = true) (haddl : addlOk c = true)
    (haes : s.noAes = false ∨ kind = .uninstantiate) :
    drbgBody mask kind nbytes c s = enterOp (newOp c kind (nbytes c.arg)) s := by
  unfold drbgBody
  rw [harg, haddl, if_neg (by decide), if_neg]
  obtain haes | hkind := haes
  · rw [haes, Bool.false_and]
    decide
  · rw [hkind, decide_eq_false (fun h => h rfl), Bool.and_false]
    decide

theorem drbgBody_noAes (harg : argBits c.arg mask = true) (haddl : addlOk c = true) (haes : s.noAes = true)
    (hkind : kind ≠ .uninstantiate) : drbgBody mask kind nbytes c s = answer c.id stFenced [] s := by
  unfold drbgBody
  rw [harg, haddl, if_neg (by decide), haes, decide_eq_true hkind]
  rfl

theorem generateBody_open (h : s.pool.allFenced = false) :
    generateBody kind c s = drbgBody (drbgMask true true true) kind (fun a => argNlen a + 1) c s := by
  unfold generateBody
  dsimp only
  rw [h, Bool.and_false]
  rfl

theorem generateBody_noAes (harg : argBits c.arg (drbgMask true true true) = true) (haddl : addlOk c = true) (haes : s.noAes = true)
    (hkind : kind ≠ .uninstantiate) : generateBody kind c s = answer c.id stFenced [] s := by
  cases hfence : s.pool.allFenced with
  | true =>
    unfold generateBody
    dsimp only
    rw [harg, haddl, hfence]
    rfl
  | false => rw [generateBody_open hfence, drbgBody_noAes harg haddl haes hkind]

end

theorem getSeedBody_enters {c : Cmd} {s : State} (harg : argBits c.arg (drbgMask false false true) = true) (hp : c.params = [])
    (hlen : argNlen c.arg ≤ 1023) (hopen : s.pool.allFenced = false) :
    getSeedBody c s = enterOp (newOp c .getSeed (16 * (argNlen c.arg + 1))) s := by
  unfold getSeedBody
  rw [harg, hp, decide_eq_false (Nat.not_lt.mpr hlen), hopen]
  rfl

/-- An operation whose tags can be taken enters the fabric behind the others. -/
theorem enterOp_enters {o : Op} {s : State} (h : o.kind ≠ .uninstantiate) (htag : s.fabric.tagRefusal o.sl 1 = none) :
    enterOp o s = settleFabric (s.entered o 1) := by
  unfold enterOp
  rw [if_neg h]
  dsimp only
  rw [htag]
  rfl

theorem enterOp_uninstantiate {o : Op} {s : State} (h : o.kind = .uninstantiate) : enterOp o s = settleFabric (s.entered o 0) := by
  have htag : s.fabric.tagRefusal o.sl 0 = none := if_pos rfl
  unfold enterOp
  rw [if_pos h]
  dsimp only
  rw [htag]
  rfl

theorem enterOp_quota {o : Op} {s : State} {id : Nat} (h : o.kind ≠ .uninstantiate) (hcmd : o.cmd = some id)
    (hq : s.fabric.quotaOf o.sl < s.fabric.held.get o.sl + 1) : enterOp o s = answer id stQuota [] s := by
  have htag : s.fabric.tagRefusal o.sl 1 = some stQuota := by
    rw [Fabric.tagRefusal, if_neg (by decide), if_pos hq]
  unfold enterOp
  rw [if_neg h]
  dsimp only
  rw [htag, hcmd]
  rfl

section
variable {t : Take} {p : Packet} {s : State} {op : Byte} {kind : OpKind} {n : Nat}

/-- A DRBG opcode admitted, with its tag and its cores, enters. -/
theorem takeOp_drbg_enters (h : Admitted t op p s) {body : Cmd → State → State}
    (hbody : body (s.cmdOf t.sl p) (s.takenBy t.sl p) = enterOp (newOp (s.cmdOf t.sl p) kind n) (s.takenBy t.sl p))
    (hkind : kind ≠ .uninstantiate) (htag : s.fabric.tagRefusal t.sl 1 = none) :
    (.next (takeOp t op body s) : Res) = .next (settleFabric ((s.takenBy t.sl p).entered (newOp (s.cmdOf t.sl p) kind n) 1)) := by
  rw [next_takeOp h, hbody]
  exact congrArg Host.Outcome.next (enterOp_enters (o := newOp (s.cmdOf t.sl p) kind n) (s := s.takenBy t.sl p) hkind htag)

/-- A DRBG opcode that is refused leaves the fabric. -/
theorem takeOp_drbg_refused (h : Admitted t op p s) {body : Cmd → State → State} {st : Byte}
    (hbody : body (s.cmdOf t.sl p) (s.takenBy t.sl p) = answer s.nextCmd st [] (s.takenBy t.sl p))
    (ha : st ≠ stAuthFail) (hr : st ≠ stReplay) :
    ∃ u, (.next (takeOp t op body s) : Res) = .next u ∧ Replied t.sl p st [] s u ∧ u.fabric = s.fabric := by
  obtain ⟨hrep, honly⟩ := refused_taken hbody ha hr
  exact ⟨_, next_takeOp h body, hrep, honly.fabric⟩

end

/-- Settles O14. -/
theorem drbgEnters : Obligations.DrbgEnters := by
  refine ⟨fun t p s haddl => ⟨fun haes htag => ⟨fun h harg => ?_, fun h harg => ?_, fun h harg hopen => ?_, fun h harg hopen => ?_⟩,
    fun h harg => ?_, fun h harg hp hlen hopen htag => ?_⟩, fun t p s haddl => ⟨fun h harg haes => ?_, fun h harg haes => ?_,
    fun h harg haes => ?_, fun h harg haes hopen hq => ?_⟩⟩
  · exact takeOp_drbg_enters h (drbgBody_enters (c := s.cmdOf t.sl p) (s := s.takenBy t.sl p) harg haddl (.inl haes)) nofun htag
  · exact takeOp_drbg_enters h (drbgBody_enters (c := s.cmdOf t.sl p) (s := s.takenBy t.sl p) harg haddl (.inl haes)) nofun htag
  · exact takeOp_drbg_enters h ((generateBody_open (s := s.takenBy t.sl p) hopen).trans
      (drbgBody_enters (c := s.cmdOf t.sl p) (s := s.takenBy t.sl p) harg haddl (.inl haes))) nofun htag
  · exact takeOp_drbg_enters h ((generateBody_open (s := s.takenBy t.sl p) hopen).trans
      (drbgBody_enters (c := s.cmdOf t.sl p) (s := s.takenBy t.sl p) harg haddl (.inl haes))) nofun htag
  · refine (next_takeOp h _).trans (congrArg Host.Outcome.next ?_)
    exact (drbgBody_enters (c := s.cmdOf t.sl p) (s := s.takenBy t.sl p) harg haddl (.inr rfl)).trans (enterOp_uninstantiate rfl)
  · exact takeOp_drbg_enters h (getSeedBody_enters (c := s.cmdOf t.sl p) (s := s.takenBy t.sl p) harg hp hlen hopen) nofun htag
  · exact takeOp_drbg_refused h (drbgBody_noAes (c := s.cmdOf t.sl p) (s := s.takenBy t.sl p) harg haddl haes nofun)
      (by decide) (by decide)
  · exact takeOp_drbg_refused h (drbgBody_noAes (c := s.cmdOf t.sl p) (s := s.takenBy t.sl p) harg haddl haes nofun)
      (by decide) (by decide)
  · exact takeOp_drbg_refused h (generateBody_noAes (c := s.cmdOf t.sl p) (s := s.takenBy t.sl p) harg haddl haes nofun)
      (by decide) (by decide)
  · refine takeOp_drbg_refused h ?_ (by decide) (by decide)
    exact (generateBody_open (s := s.takenBy t.sl p) hopen).trans
      ((drbgBody_enters (c := s.cmdOf t.sl p) (s := s.takenBy t.sl p) harg haddl (.inl haes)).trans (enterOp_quota nofun rfl hq))

/-! ### The take of a packet, and its refusals -/

theorem take_scp {c : Instr} {t : Take} (h : c.take = some t) : ∃ kind, c.scp = some (t, kind) ∧ ∀ op arg, c.takesOp op arg = kind op arg := by
  obtain ⟨⟨t', kind⟩, hscp, rfl⟩ := Option.map_eq_some_iff.mp h
  exact ⟨kind, hscp, fun op arg => by rw [Instr.takesOp, hscp]⟩

/-- A row takes the packet at the head, of its kind, where it may. -/
theorem exec_takes {c : Instr} {t : Take} {p : Packet} {s : State} (h : c.take = some t) (hhead : (s.sleeve t.sl).cmdq.head? = some p)
    (hkind : c.takesOp p.op p.arg = true) (hmay : s.mayTake t.sl = true) (hturn : s.turn t.sl = true) :
    ∃ body, exec c s = .next (intake t p body (noteTake t.sl s)) := by
  obtain ⟨kind, hscp, htakes⟩ := take_scp h
  obtain ⟨body, hexec, -⟩ := exec_scp hscp s
  refine ⟨body, hexec.trans (congrArg Host.Outcome.next ?_)⟩
  obtain ⟨r, hq⟩ := List.head?_eq_some_iff.mp hhead
  rw [takeWith, hq]
  dsimp only
  rw [hmay, hturn, ← htakes, hkind]
  rfl

theorem exec_idle {c : Instr} {t : Take} {s : State} (h : c.take = some t) (hidle : s.mayTake t.sl = false ∨ s.turn t.sl = false ∨
    (s.sleeve t.sl).cmdq.head?.all (fun p => !c.takesOp p.op p.arg) = true) : exec c s = .next s := by
  obtain ⟨kind, hscp, htakes⟩ := take_scp h
  obtain ⟨body, hexec, -⟩ := exec_scp hscp s
  refine hexec.trans (congrArg Host.Outcome.next ?_)
  unfold takeWith
  split
  · rename_i p r hq
    rw [if_neg]
    obtain hmay | hturn | hall := hidle
    · rw [hmay]
      simp
    · rw [hturn]
      simp
    · rw [hq] at hall
      have hno : kind p.op p.arg = false := by
        rw [← htakes]
        simpa using hall
      rw [hno]
      simp
  · rfl

/-- The command that a take makes, before its packet is judged. -/
def State.pulledCmd (s : State) (i : Sleeve) (p : Packet) : Cmd := { s.cmdOf i p with sealed := false }

/-- The state in which a taken packet is judged. -/
def State.pulled (s : State) (i : Sleeve) (p : Packet) : State :=
  modSleeve i (fun x => { x with cmdq := x.cmdq.drop 1, removing := true })
    { noteTake i s with cmds := s.pulledCmd i p :: s.cmds, nextCmd := s.nextCmd + 1 }

section
variable {t : Take} {p : Packet} {body : Cmd → State → State} {s : State}

theorem intakeFail_pulled : (s.pulled t.sl p).intakeFail t.sl p = s.intakeFail t.sl p := by
  refine intakeFail_congr _ _ _ _ rfl rfl rfl ?_
  rw [State.pulled, sleeve_modSleeve_same]
  rfl

theorem intake_fails {st : Byte} (h : s.intakeFail t.sl p = some st) :
    intake t p body (noteTake t.sl s) = answer s.nextCmd st [] (s.pulled t.sl p) := by
  have hfail := intakeFail_pulled.trans h
  unfold intake
  extract_lets c u v
  rw [show v.intakeFail t.sl p = some st from hfail]
  rfl

theorem intake_judges (h : s.intakeFail t.sl p = none) :
    intake t p body (noteTake t.sl s) =
      if p.auth then checkMac t p body (s.pulledCmd t.sl p) (s.pulled t.sl p)
      else acceptCmd body (s.cmdOf t.sl p) (sealNewest p.sealed (s.pulled t.sl p)) := by
  have hfail := intakeFail_pulled.trans h
  unfold intake
  extract_lets c u v
  rw [show v.intakeFail t.sl p = none from hfail]
  rfl

end

/-- Removing the commands under the number of the one just made leaves those that stood before. -/
theorem cmds_pulled (i : Sleeve) (p : Packet) (s : State) :
    (s.pulled i p).cmds.filter (fun c => c.id != s.nextCmd) = s.cmds.filter (fun c => c.id != s.nextCmd) :=
  List.filter_cons_of_neg (by simp [State.pulledCmd, State.cmdOf])

/-- The taken packet's sleeve once its refusal is posted. -/
def State.dismissedSleeve (s : State) (i : Sleeve) (r : Reply) : SleeveSt :=
  { s.sleeve i with
    cmdq := (s.sleeve i).cmdq.drop 1, removing := true, replies := (s.sleeve i).replies ++ [r]
    cache := (s.sleeve i).cache.filter (fun e => e.cmd != s.nextCmd) }

/-- The state in which a taken packet was refused, before its status is noted. -/
def State.dismissed (s : State) (i : Sleeve) (r : Reply) : State :=
  { s with
    sleeves := vset s.sleeves i (s.dismissedSleeve i r)
    cmds := s.cmds.filter (fun c => c.id != s.nextCmd), nextCmd := s.nextCmd + 1, taken := (noteTake i s).taken }

theorem sleeve_dismissed (i : Sleeve) (r : Reply) (s : State) : (s.dismissed i r).sleeve i = s.dismissedSleeve i r :=
  vget_vset_same _ _ _

/-- The packet just taken, its reply sealed where `v` says so, is refused: its reply is posted, its entry in the cache is none, and
the status is noted. -/
theorem answer_pulled (i : Sleeve) (p : Packet) (v : Bool) {st : Byte} (s : State) (hst : executed st = false) :
    ∃ r : Reply, r.status = st ∧ r.tag = p.tag ∧ r.seq = p.seq ∧ r.retry = p.retry ∧
      r.payload = (if p.echo then p.bytes.take 12 else []) ∧ r.pockets = [] ∧ r.pocketLen = 0 ∧ r.cached = false ∧ r.gone = false ∧
      (v = false → r.sealTag = [] ∧ r.noseal = false) ∧
      answer s.nextCmd st [] (sealNewest v (s.pulled i p)) = noteStatus i st (s.dismissed i r) := by
  obtain ⟨c, hc⟩ : ∃ c, ({ s.pulledCmd i p with sealed := v } : Cmd) = c := ⟨_, rfl⟩
  have hcmds : (sealNewest v (s.pulled i p)).cmds = c :: s.cmds := hc ▸ rfl
  have hcid : c.id = s.nextCmd := hc ▸ rfl
  have hcmd : (sealNewest v (s.pulled i p)).findCmd s.nextCmd = some c := by
    rw [State.findCmd, hcmds, List.find?_cons_of_pos (by simp [hcid])]
  obtain ⟨tag, ns, hseal, hplain⟩ := sealReply_fields (sealNewest v (s.pulled i p)) i v ((sealNewest v (s.pulled i p)).cmdKeyOf i)
    (replyFor c st [] [] 0)
  obtain ⟨r, hr⟩ : ∃ r, ({ replyFor c st [] [] 0 with sealTag := tag, noseal := ns } : Reply) = r := ⟨_, rfl⟩
  have hcache : settleCache c r = modSleeve i (fun x => { x with
      consumed := x.consumed, cache := x.cache.filter (fun e => e.cmd != s.nextCmd) }) := by
    have hex : executed r.status = false := by
      rw [← hr]
      exact hst
    simp only [settleCache, hex]
    rw [← hc]
    rfl
  have hpost : answer s.nextCmd st [] (sealNewest v (s.pulled i p)) =
      noteStatus i st (settleCache c r (post i r (dropCmd s.nextCmd (sealNewest v (s.pulled i p))))) := by
    rw [← hr, ← hseal]
    simp only [answer, answerP, answerWith, hcmd]
    rw [← hc]
    rfl
  have hdrop : dropCmd s.nextCmd (sealNewest v (s.pulled i p)) = dropCmd s.nextCmd (s.pulled i p) := by
    unfold dropCmd
    rw [hcmds, cmds_pulled, List.filter_cons_of_neg (by simp [hcid])]
    rfl
  refine ⟨r, hr ▸ rfl, hr ▸ hc ▸ rfl, hr ▸ hc ▸ rfl, hr ▸ hc ▸ rfl, ?_, hr ▸ rfl, hr ▸ rfl, hr ▸ rfl, hr ▸ rfl, ?_, ?_⟩
  · rw [← hr, ← hc]
    show (if p.echo then p.bytes.take 12 ++ [] else []) = _
    rw [List.append_nil]
  · intro hv
    obtain ⟨htag, hns⟩ := hplain hv
    rw [← hr, htag, hns]
    exact ⟨rfl, rfl⟩
  · rw [hpost, hcache, hdrop]
    simp only [post, dropCmd, cmds_pulled]
    simp only [State.pulled, modSleeve, vmod, vset_vset, vget_vset_same]
    rfl

/-- The refusals of steps 1 to 7 are no executed statuses, and none is REPLAY. -/
theorem intakeFail_status {s : State} {i : Sleeve} {p : Packet} {st : Byte} (h : s.intakeFail i p = some st) :
    executed st = false ∧ st ≠ stReplay := by
  unfold State.intakeFail at h
  (repeat' split at h) <;> simp only [Option.some.injEq, reduceCtorEq] at h <;> subst h <;> decide

/-- AUTH_FAIL is counted, and told at most once a second. -/
theorem noteStatus_authFail (i : Sleeve) (s : State) : ∃ last l, noteStatus i stAuthFail s =
    { modSleeve i (fun x => { x with authf := satAdd 8 x.authf 1, lastAuth := last }) s with log := l } := by
  unfold noteStatus
  rw [if_pos rfl]
  dsimp only
  split
  · obtain ⟨l, hl⟩ := raiseS_log (code := 0x0010) (by decide) i [] (modSleeve i (fun x => { x with lastAuth := some s.now })
      (modSleeve i (fun x => { x with authf := satAdd 8 x.authf 1 }) s))
    refine ⟨some s.now, l, hl.trans ?_⟩
    rw [modSleeve_modSleeve]
  · refine ⟨(s.sleeve i).lastAuth, s.log, ?_⟩
    unfold modSleeve
    refine congrArg (fun v : Vector SleeveSt 8 => ({ s with sleeves := v } : State)) (congrArg (vset s.sleeves i) ?_)
    rfl

/-- REPLAY is counted, and told at most once a second. -/
theorem noteStatus_replay (i : Sleeve) (s : State) : ∃ last l, noteStatus i stReplay s =
    { modSleeve i (fun x => { x with replay := satAdd 8 x.replay 1, lastReplay := last }) s with log := l } := by
  unfold noteStatus
  rw [if_neg (by decide), if_pos rfl]
  dsimp only
  split
  · obtain ⟨l, hl⟩ := raiseS_log (code := 0x0011) (by decide) i [] (modSleeve i (fun x => { x with lastReplay := some s.now })
      (modSleeve i (fun x => { x with replay := satAdd 8 x.replay 1 }) s))
    refine ⟨some s.now, l, hl.trans ?_⟩
    rw [modSleeve_modSleeve]
  · refine ⟨(s.sleeve i).lastReplay, s.log, ?_⟩
    unfold modSleeve
    refine congrArg (fun v : Vector SleeveSt 8 => ({ s with sleeves := v } : State)) (congrArg (vset s.sleeves i) ?_)
    rfl

/-- Settles O8. -/
theorem intakeRefuses : Obligations.IntakeRefuses := by
  refine ⟨fun c t p st s htake hhead hkind hmay hturn hfail => ?_, fun c t s htake hidle => exec_idle htake hidle⟩
  obtain ⟨body, hexec⟩ := exec_takes htake hhead hkind hmay hturn
  obtain ⟨hst, hreplay⟩ := intakeFail_status hfail
  obtain ⟨r, hrst, hrtag, hrseq, -, hrpay, -, -, -, -, hrseal, hans⟩ := answer_pulled t.sl p false s hst
  have hcache (h : ∀ e ∈ (s.sleeve t.sl).cache, e.cmd ≠ s.nextCmd) :
      (s.sleeve t.sl).cache.filter (fun e => e.cmd != s.nextCmd) = (s.sleeve t.sl).cache :=
    List.filter_eq_self.mpr fun e he => by simpa using h e he
  rw [intake_fails hfail, show s.pulled t.sl p = sealNewest false (s.pulled t.sl p) from rfl, hans] at hexec
  refine ⟨_, r, hexec, hrst, hrtag, hrseq, hrpay, (hrseal rfl).1, ?_⟩
  by_cases hauth : st = stAuthFail
  · subst hauth
    obtain ⟨last, l, hnote⟩ := noteStatus_authFail t.sl (s.dismissed t.sl r)
    have hsleeve : ({ modSleeve t.sl (fun x => { x with authf := satAdd 8 x.authf 1, lastAuth := last }) (s.dismissed t.sl r)
        with log := l } : State).sleeve t.sl =
        { s.dismissedSleeve t.sl r with authf := satAdd 8 (s.sleeve t.sl).authf 1, lastAuth := last } := by
      refine (sleeve_modSleeve_same t.sl _ _).trans ?_
      rw [sleeve_dismissed]
      rfl
    rw [hnote, hsleeve]
    refine ⟨rfl, rfl, rfl, fun h => ⟨hcache h, rfl⟩, ?_⟩
    simp only [modSleeve, vmod, State.dismissed, vset_vset, vget_vset_same]
    rfl
  · have hnote (w : State) : noteStatus t.sl st w = w := by
      rw [noteStatus, if_neg hauth, if_neg hreplay]
    rw [hnote, sleeve_dismissed]
    exact ⟨rfl, rfl, (if_neg hauth).symm, fun h => ⟨hcache h, rfl⟩, rfl⟩

/-! ### Steps 8 and 9: the MAC, the sequence number and the cache -/

/-- A refused packet's answer, with its one reply. -/
theorem replied_dismissed {i : Sleeve} {p : Packet} {s u : State} {r : Reply} {st : Byte} (hu : (u.sleeve i).replies = (s.dismissedSleeve i r).replies)
    (hst : r.status = st) (htag : r.tag = p.tag) (hseq : r.seq = p.seq) (hretry : r.retry = p.retry)
    (hpay : r.payload = (if p.echo then p.bytes.take 12 else [])) (hpock : r.pockets = []) (hplen : r.pocketLen = 0)
    (hcached : r.cached = false) (hgone : r.gone = false) (hplain : p.sealed = false → r.sealTag = [] ∧ r.noseal = false) :
    Replied i p st [] s u :=
  ⟨r, hu, hst, htag, hseq, hretry, hpay.trans (List.append_nil _).symm, hpock, hplen, hcached, hgone, hplain⟩

/-- AUTH_FAIL on the packet just taken. -/
theorem authFail_pulled (i : Sleeve) (p : Packet) (s : State) :
    let u := answer s.nextCmd stAuthFail [] (s.pulled i p)
    Replied i p stAuthFail [] s u ∧ (u.sleeve i).authf = satAdd 8 (s.sleeve i).authf 1 ∧ (u.sleeve i).seqHi = (s.sleeve i).seqHi := by
  obtain ⟨r, hst, htag, hseq, hretry, hpay, hpock, hplen, hcached, hgone, hplain, hans⟩ :=
    answer_pulled (st := stAuthFail) i p false s rfl
  obtain ⟨last, l, hnote⟩ := noteStatus_authFail i (s.dismissed i r)
  have hsleeve : ((answer s.nextCmd stAuthFail [] (s.pulled i p)).sleeve i) =
      { s.dismissedSleeve i r with authf := satAdd 8 (s.sleeve i).authf 1, lastAuth := last } := by
    rw [show s.pulled i p = sealNewest false (s.pulled i p) from rfl, hans, hnote]
    refine (sleeve_modSleeve_same i _ _).trans ?_
    rw [sleeve_dismissed]
    rfl
  intro u
  have hu : u.sleeve i = _ := hsleeve
  exact ⟨replied_dismissed (r := r) (by rw [hu]) hst htag hseq hretry hpay hpock hplen hcached hgone fun _ => hplain rfl,
    by rw [hu], by rw [hu]; rfl⟩

/-- REPLAY on the packet just taken. -/
theorem replay_pulled (i : Sleeve) (p : Packet) (s : State) :
    let u := answer s.nextCmd stReplay [] (sealNewest p.sealed (s.pulled i p))
    Replied i p stReplay [] s u ∧ (u.sleeve i).replay = satAdd 8 (s.sleeve i).replay 1 ∧ (u.sleeve i).seqHi = (s.sleeve i).seqHi := by
  obtain ⟨r, hst, htag, hseq, hretry, hpay, hpock, hplen, hcached, hgone, hplain, hans⟩ :=
    answer_pulled (st := stReplay) i p p.sealed s rfl
  obtain ⟨last, l, hnote⟩ := noteStatus_replay i (s.dismissed i r)
  have hsleeve : ((answer s.nextCmd stReplay [] (sealNewest p.sealed (s.pulled i p))).sleeve i) =
      { s.dismissedSleeve i r with replay := satAdd 8 (s.sleeve i).replay 1, lastReplay := last } := by
    rw [hans, hnote]
    refine (sleeve_modSleeve_same i _ _).trans ?_
    rw [sleeve_dismissed]
    rfl
  intro u
  have hu : u.sleeve i = _ := hsleeve
  exact ⟨replied_dismissed (r := r) (by rw [hu]) hst htag hseq hretry hpay hpock hplen hcached hgone hplain, by rw [hu], by rw [hu]; rfl⟩

section
variable {t : Take} {p : Packet} {body : Cmd → State → State} {s : State}

theorem sleeve_pulled : (s.pulled t.sl p).sleeve t.sl = { s.sleeve t.sl with cmdq := (s.sleeve t.sl).cmdq.drop 1, removing := true } :=
  sleeve_modSleeve_same t.sl _ _

theorem macOf_pulled : (s.pulled t.sl p).macOf t.sl p = s.macOf t.sl p :=
  macOf_congr _ _ _ _ rfl (by rw [sleeve_pulled]) (by rw [sleeve_pulled])

theorem checkMac_wrong (hcmp : t.cmp = .clean) (hmac : s.macOf t.sl p ≠ p.mac) :
    checkMac t p body (s.pulledCmd t.sl p) (s.pulled t.sl p) = answer s.nextCmd stAuthFail [] (s.pulled t.sl p) := by
  unfold checkMac
  rw [show (s.pulled t.sl p).macOf (s.pulledCmd t.sl p).sl p = s.macOf t.sl p from macOf_pulled, hcmp,
    show (s.macOf t.sl p == p.mac) = false by simpa using hmac]
  rfl

theorem checkMac_right (hcmp : t.cmp = .clean) (hmac : s.macOf t.sl p = p.mac) :
    checkMac t p body (s.pulledCmd t.sl p) (s.pulled t.sl p) = acceptCmd body (s.cmdOf t.sl p) (sealNewest p.sealed (s.pulled t.sl p)) := by
  unfold checkMac
  rw [show (s.pulled t.sl p).macOf (s.pulledCmd t.sl p).sl p = s.macOf t.sl p from macOf_pulled, hcmp,
    show (s.macOf t.sl p == p.mac) = true by simpa using hmac]
  rfl

theorem checkMac_glitched (hcmp : t.cmp ≠ .clean) :
    checkMac t p body (s.pulledCmd t.sl p) (s.pulled t.sl p) =
      answer s.nextCmd stAuthFail [] (cmpGlitch ((s.pulled t.sl p).cmpCore t.core) (s.pulled t.sl p)) := by
  unfold checkMac
  cases h : t.cmp with
  | clean => exact absurd h hcmp
  | bothZero => rfl
  | bothOne => rfl

/-- A packet whose MAC, where it has one, is right goes on to step 9. -/
theorem intake_accepts (h : s.intakeFail t.sl p = none) (hmac : p.auth = true → t.cmp = .clean ∧ s.macOf t.sl p = p.mac) :
    intake t p body (noteTake t.sl s) = acceptCmd body (s.cmdOf t.sl p) (sealNewest p.sealed (s.pulled t.sl p)) := by
  rw [intake_judges h]
  split
  · rename_i hauth
    exact checkMac_right (hmac hauth).1 (hmac hauth).2
  · rfl

theorem sleeve_sealed : (sealNewest p.sealed (s.pulled t.sl p)).sleeve t.sl =
    { s.sleeve t.sl with cmdq := (s.sleeve t.sl).cmdq.drop 1, removing := true } := sleeve_pulled

theorem acceptCmd_replay (hfresh : (s.sleeve t.sl).cache.find? (fun e => e.tag == p.tag && e.seq == p.seq) = none)
    (hseq : (s.sleeve t.sl).seqOk p.seq = false) :
    acceptCmd body (s.cmdOf t.sl p) (sealNewest p.sealed (s.pulled t.sl p)) =
      answer s.nextCmd stReplay [] (sealNewest p.sealed (s.pulled t.sl p)) := by
  unfold acceptCmd
  rw [show (sealNewest p.sealed (s.pulled t.sl p)).sleeve (s.cmdOf t.sl p).sl = _ from sleeve_sealed]
  dsimp only
  rw [show (s.sleeve t.sl).cache.find? (fun e => e.tag == (s.cmdOf t.sl p).tag && e.seq == (s.cmdOf t.sl p).seq) = none from hfresh]
  exact if_neg (ne_true_of_eq_false hseq)

theorem acceptCmd_absorbed {e : CacheEntry} (hhit : (s.sleeve t.sl).cache.find? (fun e => e.tag == p.tag && e.seq == p.seq) = some e)
    (hreply : e.reply = none) :
    acceptCmd body (s.cmdOf t.sl p) (sealNewest p.sealed (s.pulled t.sl p)) =
      dropCmd s.nextCmd (modSleeve t.sl (fun x => { x with dup := satAdd 8 x.dup 1 }) (sealNewest p.sealed (s.pulled t.sl p))) := by
  unfold acceptCmd
  rw [show (sealNewest p.sealed (s.pulled t.sl p)).sleeve (s.cmdOf t.sl p).sl = _ from sleeve_sealed]
  dsimp only
  rw [show (s.sleeve t.sl).cache.find? (fun e => e.tag == (s.cmdOf t.sl p).tag && e.seq == (s.cmdOf t.sl p).seq) = some e from hhit]
  unfold retransmit
  dsimp only
  rw [hreply]
  rfl

end

/-! ### A glitched comparator -/

/-- The sleeves' newest numbers, a command in flight, the count of glitches and their event bit: what a fault of a service core
leaves. -/
def State.verdicts (id : Nat) (s : State) : Vector Word 8 × Option Cmd × Nat × Bool :=
  (s.sleeves.map SleeveSt.seqHi, s.findCmd id, s.digest.glitch, s.digest.evt.getLsbD 2)

section
variable {id : Nat}

theorem verdicts_of_settles {s t : State} (h : Settles id s t) : t.verdicts id = s.verdicts id := by
  have hmap (u : State) : u.sleeves.map SleeveSt.seqHi = (u.sleeves.map SleeveSt.still).map SleeveSt.seqHi := by
    rw [Vector.map_map]
    rfl
  have hsleeves : t.sleeves.map SleeveSt.still = s.sleeves.map SleeveSt.still := by
    simpa only [State.seenBy] using congrArg State.sleeves h.seen
  have hdigest : t.digest = s.digest := by simpa only [State.seenBy] using congrArg State.digest h.seen
  rw [State.verdicts, hmap, hsleeves, ← hmap, h.cmd, hdigest]
  rfl

theorem verdicts_modSleeve {f : SleeveSt → SleeveSt} (hf : ∀ x, (f x).seqHi = x.seqHi) (i : Sleeve) (s : State) :
    (modSleeve i f s).verdicts id = s.verdicts id := by
  have hmap : (vmod s.sleeves i f).map SleeveSt.seqHi = s.sleeves.map SleeveSt.seqHi := map_vmod _ hf _ _
  simp only [State.verdicts, modSleeve, hmap]
  rfl

theorem verdicts_forAll {β : Type} {f : β → State → State} (h : ∀ x s, (f x s).verdicts id = s.verdicts id) (l : List β) (s : State) :
    (forAll l f s).verdicts id = s.verdicts id := by
  induction l generalizing s with
  | nil => rfl
  | cons x l ih => exact (ih _).trans (h x s)

/-- No context serves the command, nor does it wait there. -/
def State.noContextOf (s : State) (id : Nat) : Prop := ∀ i k, id ∉ (s.ctx i k).commands

theorem ctx_modCtx_ne {i j : Sleeve} {k l : Fin 4} (h : ¬ (i = j ∧ k = l)) (f : Context → Context) (s : State) :
    (modCtx i k f s).ctx j l = s.ctx j l := by
  show ((vmod s.digest.contexts i fun v => vmod v k f).get j).get l = _
  by_cases hi : i = j
  · subst hi
    rw [vget_vmod_same, vget_vmod_ne _ _ _ _ fun hk => h ⟨rfl, hk⟩]
    rfl
  · rw [vget_vmod_ne _ _ _ _ hi]
    rfl

theorem digest_answer (k : Nat) (st : Byte) (payload : List Byte) (s : State) : (answer k st payload s).digest = s.digest := by
  simpa only [State.still, State.seenBy] using congrArg State.digest (still_answer k st payload s)

/-- The commands of a lost context are answered; another stays. -/
theorem verdicts_answers {ids : List Nat} (hids : id ∉ ids) (st : Byte) (s : State) :
    (forAll ids (fun k => answer k st []) s).verdicts id = s.verdicts id ∧ (forAll ids (fun k => answer k st []) s).digest = s.digest := by
  induction ids generalizing s with
  | nil => exact ⟨rfl, rfl⟩
  | cons k ids ih =>
    obtain ⟨hne, hrest⟩ := (by simpa using hids : id ≠ k ∧ id ∉ ids)
    obtain ⟨hview, hdigest⟩ := ih hrest (answer k st [] s)
    exact ⟨hview.trans (verdicts_of_settles (settles_answer (Ne.symm hne) st [] s)), hdigest.trans (digest_answer k st [] s)⟩

/-- A context that may hold a wrong result is dropped with its commands. -/
def dropSuspect (c : Sleeve × Fin 4) (t : State) : State :=
  if (t.ctx c.1 c.2).state = 0 then t
  else when' (decide ((t.ctx c.1 c.2).state = 1)) (dgtErr c.1 0x08)
    (forAll (t.ctx c.1 c.2).commands (fun id => answer id stFenced []) (modCtx c.1 c.2 (fun _ => .reset) t))

theorem verdicts_dropSuspect (c : Sleeve × Fin 4) {s : State} (h : s.noContextOf id) :
    (dropSuspect c s).verdicts id = s.verdicts id ∧ (dropSuspect c s).noContextOf id := by
  unfold dropSuspect
  split
  · exact ⟨rfl, h⟩
  · obtain ⟨hview, hdigest⟩ := verdicts_answers (h c.1 c.2) stFenced (modCtx c.1 c.2 (fun _ => .reset) s)
    have hctx : (modCtx c.1 c.2 (fun _ => .reset) s).noContextOf id := fun i k => by
      by_cases hik : c.1 = i ∧ c.2 = k
      · obtain ⟨rfl, rfl⟩ := hik
        rw [ctx_modCtx_same]
        exact List.not_mem_nil
      · rw [ctx_modCtx_ne hik]
        exact h i k
    have hall : ∀ i k, id ∉ ((forAll (s.ctx c.1 c.2).commands (fun id => answer id stFenced [])
        (modCtx c.1 c.2 (fun _ => .reset) s)).ctx i k).commands := fun i k => by
      rw [State.ctx, hdigest]
      exact hctx i k
    unfold when'
    split
    · exact ⟨(verdicts_modSleeve (by intro _; rfl) _ _).trans hview, hall⟩
    · exact ⟨hview, hall⟩

theorem verdicts_dropSuspects (l : List (Sleeve × Fin 4)) {s : State} (h : s.noContextOf id) :
    (forAll l dropSuspect s).verdicts id = s.verdicts id := by
  induction l generalizing s with
  | nil => rfl
  | cons c l ih =>
    obtain ⟨hview, hno⟩ := verdicts_dropSuspect c h
    exact (ih hno).trans hview

theorem verdicts_clearSuspects (k : Fin 2) {s : State} (h : s.noContextOf id) : (clearSuspects k s).verdicts id = s.verdicts id := by
  unfold clearSuspects
  dsimp only
  refine Eq.trans (b := State.verdicts id (forAll _ _ _)) rfl ?_
  refine (verdicts_forAll (fun r t => verdicts_modSleeve (by intro _; rfl) _ _) _ _).trans ?_
  exact verdicts_dropSuspects _ h

theorem verdicts_withLog (l : Log) (s : State) : ({ s with log := l } : State).verdicts id = s.verdicts id := rfl

theorem verdicts_retireSha (k : Fin 6) (s : State) : (retireUnit (.sha k) s).verdicts id = s.verdicts id := by
  have hraise {code : BitVec 16} (h : rankOf code ≠ 3) (data : List Byte) (u : State) :
      (raiseD code data u).verdicts id = u.verdicts id := by
    obtain ⟨l, hl⟩ := raiseD_log h data u
    rw [hl, verdicts_withLog]
  have hpend (x : Commit) (u : State) : (pend x u).verdicts id = u.verdicts id := by
    unfold pend
    split
    · rfl
    · exact hraise (by decide) [] u
  have hevent (u : State) : (retireEvent (.sha k) u).verdicts id = u.verdicts id := by
    unfold retireEvent
    dsimp only
    split
    · exact (hraise (by decide) _ _).trans rfl
    · refine (hraise (by decide) _ _).trans ?_
      have hbit : (u.digest.evt ||| 0x02).getLsbD 2 = u.digest.evt.getLsbD 2 := by simp
      show (_, _, _, (u.digest.evt ||| 0x02).getLsbD 2) = _
      rw [hbit]
      rfl
  have hnote (b : Bool) (u : State) :
      (when' b (fun t => raise 0x5033 (modFloor (fun f => { f with evt := f.evt ||| 0x04 }) t)) u).verdicts id = u.verdicts id := by
    cases b with
    | false => rfl
    | true => exact (hraise (by decide) [] _).trans rfl
  exact (hpend _ _).trans ((hnote _ _).trans ((hevent _).trans rfl))

theorem verdicts_svcFault (k : Fin 2) {code : BitVec 16} (hc : rankOf code ≠ 3) {s : State} (h : s.noContextOf id) :
    (svcFault k code s).verdicts id = s.verdicts id := by
  refine Eq.trans ?_ (verdicts_clearSuspects k h)
  exact faultUnit_keeps (view := State.verdicts id) verdicts_withLog (fun _ _ => rfl) (fun _ => rfl)
    (verdicts_retireSha (svcSha k)) hc _ _ _

end

/-- AUTH_FAIL on the packet taken, wherever the judging has led. -/
theorem authFail_inFlight {i : Sleeve} {p : Packet} {s w : State} (hcmd : w.findCmd s.nextCmd = some (s.pulledCmd i p)) :
    LastReply i p stAuthFail [] (answer s.nextCmd stAuthFail [] w) ∧
      ((answer s.nextCmd stAuthFail [] w).sleeve i).seqHi = (w.sleeve i).seqHi := by
  obtain ⟨c, hc⟩ : ∃ c, s.pulledCmd i p = c := ⟨_, rfl⟩
  rw [hc] at hcmd
  obtain ⟨v, hv⟩ : ∃ v, settleCache c (replyFor c stAuthFail [] [] 0) (post i (replyFor c stAuthFail [] [] 0) (dropCmd s.nextCmd w)) = v :=
    ⟨_, rfl⟩
  have hans : answer s.nextCmd stAuthFail [] w = noteStatus i stAuthFail v := by
    rw [← hv]
    simp only [answer, answerP, answerWith, hcmd]
    rw [← hc]
    rfl
  have hvsleeve : (v.sleeve i).replies = (w.sleeve i).replies ++ [replyFor c stAuthFail [] [] 0] ∧ (v.sleeve i).seqHi = (w.sleeve i).seqHi := by
    have hcsl : c.sl = i := hc ▸ rfl
    rw [← hv, settleCache, hcsl, sleeve_modSleeve_same, post, sleeve_modSleeve_same]
    exact ⟨rfl, rfl⟩
  obtain ⟨last, l, hnote⟩ := noteStatus_authFail i v
  have hsleeve : (answer s.nextCmd stAuthFail [] w).sleeve i = { v.sleeve i with authf := satAdd 8 (v.sleeve i).authf 1, lastAuth := last } := by
    rw [hans, hnote]
    exact sleeve_modSleeve_same i _ _
  rw [hsleeve]
  refine ⟨⟨replyFor c stAuthFail [] [] 0, ?_, rfl, hc ▸ rfl, hc ▸ rfl, ?_, rfl, rfl⟩, hvsleeve.2⟩
  · rw [hsleeve]
    exact (congrArg List.getLast? hvsleeve.1).trans List.getLast?_concat
  · rw [← hc]
    show (if p.echo then p.bytes.take 12 ++ [] else []) = (if p.echo then p.bytes.take 12 else []) ++ []
    rw [List.append_nil, List.append_nil]

theorem seqHi_of_verdicts {id : Nat} {s t : State} (h : t.verdicts id = s.verdicts id) (i : Sleeve) :
    (t.sleeve i).seqHi = (s.sleeve i).seqHi := by
  have hmap : t.sleeves.map SleeveSt.seqHi = s.sleeves.map SleeveSt.seqHi := congrArg (fun q => q.1) h
  have hi := congrArg (fun v => v[i.val]) hmap
  simp only [Vector.getElem_map] at hi
  exact hi

theorem findCmd_pulled (i : Sleeve) (p : Packet) (s : State) : (s.pulled i p).findCmd s.nextCmd = some (s.pulledCmd i p) :=
  List.find?_cons_of_pos (by simp [State.pulledCmd, State.cmdOf])

theorem sleeve_dropCmd (id : Nat) (s : State) (i : Sleeve) : (dropCmd id s).sleeve i = s.sleeve i := rfl

/-- Settles O9. -/
theorem intakeJudges : Obligations.IntakeJudges := by
  intro c t p s htake hhead hkind hmay hturn hpass
  obtain ⟨body, hexec⟩ := exec_takes htake hhead hkind hmay hturn
  refine ⟨fun hauth hcmp hctx => ?_, fun hauth hcmp hmac => ?_, fun hmac hfresh hseq => ?_, fun e hmac hhit hreply => ?_⟩
  · obtain ⟨w, hw⟩ : ∃ w, cmpGlitch ((s.pulled t.sl p).cmpCore t.core) (s.pulled t.sl p) = w := ⟨_, rfl⟩
    have hview : w.verdicts s.nextCmd = (modDigest (fun d => { d with glitch := satAdd 16 d.glitch 1, evt := d.evt ||| 0x04 })
        (s.pulled t.sl p)).verdicts s.nextCmd := hw ▸ verdicts_svcFault _ (by decide) hctx
    have hcmd : w.findCmd s.nextCmd = some (s.pulledCmd t.sl p) := by
      refine (congrArg (fun q => q.2.1) hview).trans ?_
      exact findCmd_pulled t.sl p s
    obtain ⟨hrep, hhi⟩ := authFail_inFlight hcmd
    rw [intake_judges hpass, if_pos hauth, checkMac_glitched hcmp, hw] at hexec
    refine ⟨_, hexec, hrep, hhi.trans ((seqHi_of_verdicts hview t.sl).trans ?_), ?_, ?_⟩
    · show ((s.pulled t.sl p).sleeve t.sl).seqHi = _
      rw [sleeve_pulled]
    · rw [digest_answer]
      exact congrArg (fun q => q.2.2.1) hview
    · rw [digest_answer]
      refine (congrArg (fun q => q.2.2.2) hview).trans ?_
      show (s.digest.evt ||| 0x04).getLsbD 2 = true
      simp
  · rw [intake_judges hpass, if_pos hauth, checkMac_wrong hcmp hmac] at hexec
    exact ⟨_, hexec, authFail_pulled t.sl p s⟩
  · rw [intake_accepts hpass hmac, acceptCmd_replay hfresh hseq] at hexec
    exact ⟨_, hexec, replay_pulled t.sl p s⟩
  · rw [intake_accepts hpass hmac, acceptCmd_absorbed hhit hreply] at hexec
    have hsleeve := sleeve_modSleeve_same t.sl (fun x => { x with dup := satAdd 8 x.dup 1 }) (sealNewest p.sealed (s.pulled t.sl p))
    rw [sleeve_sealed] at hsleeve
    refine ⟨_, hexec, ?_, ?_, ?_⟩
    · rw [sleeve_dropCmd, hsleeve]
    · rw [sleeve_dropCmd, hsleeve]
    · show (s.cmdOf t.sl p :: s.cmds).filter (fun k => k.id != s.nextCmd) = _
      exact List.filter_cons_of_neg (by simp [State.cmdOf])

end Sys2Proof.Machine
end

section
/-! SUPPORT. Digest opcodes, the TAP's requests and the avalanche rail. -/

namespace Sys2Proof.Machine

/-! ### The digest opcodes -/

theorem modCtx_modCtx (i : Sleeve) (k : Fin 4) (f g : Context → Context) (s : State) :
    modCtx i k f (modCtx i k g s) = modCtx i k (fun x => f (g x)) s := by
  unfold modCtx modDigest
  dsimp only
  rw [vmod_vmod]
  refine congrArg (fun v => ({ s with digest := { s.digest with contexts := v } } : State)) ?_
  refine congrArg (vset s.digest.contexts i) ?_
  dsimp only
  rw [vmod_vmod]

theorem modCtx_congr {i : Sleeve} {k : Fin 4} {f g : Context → Context} {s : State} (h : f (s.ctx i k) = g (s.ctx i k)) :
    modCtx i k f s = modCtx i k g s := by
  have hv : vmod (s.digest.contexts.get i) k f = vmod (s.digest.contexts.get i) k g := congrArg (vset _ k) h
  have hc : vmod s.digest.contexts i (fun v => vmod v k f) = vmod s.digest.contexts i (fun v => vmod v k g) := congrArg (vset _ i) hv
  unfold modCtx modDigest
  dsimp only
  rw [hc]

theorem modCtx_fixed {i : Sleeve} {k : Fin 4} {f : Context → Context} {s : State} (h : f (s.ctx i k) = s.ctx i k) : modCtx i k f s = s := by
  have hc : vmod s.digest.contexts i (fun v => vmod v k f) = s.digest.contexts := vmod_fixed (vmod_fixed h)
  unfold modCtx modDigest
  dsimp only
  rw [hc]

/-- A digest command on a free context runs at once. -/
theorem digestTake_free {cmp : CmpOut} {core : Fin 2} {c c' : Cmd} {s : State} {k : Fin 4} (hk : argInst c.arg = k)
    (hcmd : (s.ctx c.sl k).cmd = none) (hwait : (s.ctx c.sl k).waitq = []) (hfind : s.findCmd c.id = some c') :
    digestTake cmp core c s = digestBody c' k cmp core s := by
  obtain ⟨v, hv⟩ : ∃ v, modCtx c.sl k (fun y => { y with waitq := y.waitq ++ [(c.id, cmp, core)] }) s = v := ⟨_, rfl⟩
  have hctx : v.ctx c.sl k = { s.ctx c.sl k with waitq := [(c.id, cmp, core)] } := by
    rw [← hv, ctx_modCtx_same, hwait]
    rfl
  have hback : modCtx c.sl k (fun y => { y with waitq := [] }) v = s := by
    rw [← hv, modCtx_modCtx]
    refine modCtx_fixed ?_
    rw [← hwait]
  have htake : digestTake cmp core c s = drainCtx c.sl k (v.ctx c.sl k).waitq.length v := by
    rw [← hv, ← hk]
    rfl
  rw [htake, hctx]
  show drainCtx c.sl k 1 v = _
  unfold drainCtx
  dsimp only
  rw [hctx]
  dsimp only
  rw [hcmd, hback, hfind]
  rfl

section
variable {c : Cmd} {k : Fin 4} {s : State}

/-- A context that a message begins on. -/
def Context.begun (alg : Nat) (hmac : Option (Fin 32)) (route : Bool) : Context :=
  { Context.reset with state := 1, alg := alg, hmac := hmac, route := route, chain := if hmac.isSome then [] else initChain alg }

theorem digestBegin_plain (harg : argBits c.arg 0x00011F33 = true) (hp : c.params = []) (halg : field c.arg 4 2 ≠ 3)
    (hslot : field c.arg 8 5 = 0) (hwait : (s.ctx c.sl k).waitq = []) :
    digestBegin c k s = answer c.id stOk []
      (modCtx c.sl k (fun _ => Context.begun (field c.arg 4 2) none (c.arg.getLsbD 16)) (unsuspect c.sl k s)) := by
  have hstart : unsuspect c.sl k (modCtx c.sl k (fun x => { Context.reset with
      state := 1, alg := field c.arg 4 2, hmac := none, route := c.arg.getLsbD 16, waitq := x.waitq
      chain := initChain (field c.arg 4 2) }) s) =
      modCtx c.sl k (fun _ => Context.begun (field c.arg 4 2) none (c.arg.getLsbD 16)) (unsuspect c.sl k s) := by
    rw [modCtx_congr (g := fun _ => Context.begun (field c.arg 4 2) none (c.arg.getLsbD 16)) (by rw [hwait]; rfl)]
    rfl
  have hzero : (field c.arg 8 5 % 32 != 0) = false := by rw [hslot]; rfl
  have hcond : (!argBits c.arg 0x00011F33 || !c.params.isEmpty || (field c.arg 4 2 != 3 && field c.arg 8 5 % 32 != 0)) = false := by
    rw [harg, hp, hzero, Bool.and_false]
    rfl
  unfold digestBegin
  dsimp only
  rw [if_neg (by rw [hcond]; simp), if_neg halg]
  exact congrArg (answer c.id stOk []) hstart

theorem digestBegin_keyed {slot : Fin 32} (harg : argBits c.arg 0x00011F33 = true) (hp : c.params = []) (halg : field c.arg 4 2 = 3)
    (hslot : field c.arg 8 5 = slot.val) (hown : slot.val / 4 = c.sl.val) (howned : (s.slot slot).owned = true)
    (hst : (s.slot slot).health.st = .inService) (hhash : (s.slot slot).hash ≠ 0) (hwait : (s.ctx c.sl k).waitq = []) :
    digestBegin c k s = answer c.id stOk []
      (modCtx c.sl k (fun _ => Context.begun ((s.slot slot).hash - 1) (some slot) (c.arg.getLsbD 16)) (unsuspect c.sl k s)) := by
  have hks : (⟨field c.arg 8 5 % 32, Nat.mod_lt _ (by decide)⟩ : Fin 32) = slot := Fin.ext (by
    show field c.arg 8 5 % 32 = slot.val
    rw [hslot, Nat.mod_eq_of_lt slot.isLt])
  have hstart : unsuspect c.sl k (modCtx c.sl k (fun x => { Context.reset with
      state := 1, alg := (s.slot slot).hash - 1, hmac := some slot, route := c.arg.getLsbD 16, waitq := x.waitq, chain := [] }) s) =
      modCtx c.sl k (fun _ => Context.begun ((s.slot slot).hash - 1) (some slot) (c.arg.getLsbD 16)) (unsuspect c.sl k s) := by
    rw [modCtx_congr (g := fun _ => Context.begun ((s.slot slot).hash - 1) (some slot) (c.arg.getLsbD 16)) (by rw [hwait]; rfl)]
    rfl
  have hmine : ¬ (slot.val / 4 ≠ c.sl.val ∨ (s.slot slot).owned = false) := by simp [hown, howned]
  unfold digestBegin
  lift_lets
  intro alg ks
  rw [show ks = slot from hks, show alg = 3 from halg]
  dsimp only
  rw [harg, hp, if_neg (by simp), if_pos rfl, if_neg hmine, if_neg (not_not.mpr hst), if_neg hhash]
  exact congrArg (answer c.id stOk []) hstart

/-- The words of an UPDATE join the message. -/
theorem digestUpdate_joins (harg : argBits c.arg 0x3 = true) (hp : c.params ≠ []) (hst : (s.ctx c.sl k).state = 1)
    (hword : (4 * c.params.length) % engineWord (s.ctx c.sl k).alg = 0)
    (hmax : (s.ctx c.sl k).total + 4 * c.params.length ≤ (if (s.ctx c.sl k).alg = 0 then 2 ^ 61 - 1 else 2 ^ 64 - 1))
    (hup : s.svcUp = true ∨ (s.ctx c.sl k).buffer.length + 4 * c.params.length < blockLen (s.ctx c.sl k).alg) :
    digestUpdate c k s = finishCtx c.sl k (modCtx c.sl k (fun y => { y with
      buffer := y.buffer ++ wordsBytes c.params, count := y.count + 4 * c.params.length, cmd := some c.id }) s) := by
  have hserved : ¬ (!s.svcUp && decide (blockLen (s.ctx c.sl k).alg ≤ (s.ctx c.sl k).buffer.length + 4 * c.params.length)) = true := by
    obtain hup | hsmall := hup
    · simp [hup]
    · simp only [Bool.and_eq_true, decide_eq_true_eq, not_and, not_le]
      exact fun _ => hsmall
  unfold digestUpdate
  dsimp only
  rw [harg, if_neg (by simp [hp]), if_neg (not_not.mpr hst), if_neg (not_not.mpr hword), if_neg (Nat.not_lt.mpr hmax), if_neg hserved]
  rfl

theorem finishCtx_works (h : (s.ctx c.sl k).hasWork = true) : finishCtx c.sl k s = s :=
  if_pos (by rw [h]; rfl)

/-- An UPDATE below a block is answered at once. -/
theorem finishCtx_update {i : Sleeve} {id : Nat} (hwork : (s.ctx i k).hasWork = false) (hcmd : (s.ctx i k).cmd = some id)
    (hfinal : (s.ctx i k).final = false) : finishCtx i k s = answer id stOk [] (modCtx i k (fun x => { x with cmd := none }) s) := by
  unfold finishCtx
  dsimp only
  rw [hwork, hcmd, hfinal]
  rfl

theorem digestFinal_pads (harg : argBits c.arg 0x00700003 = true) (hlen : c.params.length ≤ 2) (hst : (s.ctx c.sl k).state = 1)
    (hvb : field c.arg 20 3 < engineWord (s.ctx c.sl k).alg)
    (hword : c.params = [] ∨ 4 * c.params.length = engineWord (s.ctx c.sl k).alg) (hup : s.svcUp = true)
    {tail : List Byte} (htail : (if field c.arg 20 3 = 0 then wordsBytes c.params else (wordsBytes c.params).take (field c.arg 20 3)) = tail) :
    digestFinal c k s = modCtx c.sl k (fun y => { y with
      last := wordsBytes c.params, count := y.count + tail.length, cmd := some c.id, final := true
      buffer := shaPad y.alg (y.total + tail.length) (y.buffer ++ tail) }) s := by
  have hbad : ¬ (engineWord (s.ctx c.sl k).alg ≤ field c.arg 20 3 ∨
      (c.params ≠ [] ∧ 4 * c.params.length ≠ engineWord (s.ctx c.sl k).alg)) := by
    rintro (h | ⟨hne, hnw⟩)
    · omega
    · exact hword.elim hne hnw
  unfold digestFinal
  dsimp only
  rw [harg, if_neg (by simpa using hlen), if_neg (not_not.mpr hst), if_neg hbad, hup, if_neg (by decide)]
  rw [show (if field c.arg 20 3 = 0 then paramBytes c else (paramBytes c).take (field c.arg 20 3)) = tail from htail]
  refine finishCtx_works ?_
  rw [ctx_modCtx_same]
  exact decide_eq_true (shaPad_length _ _ _)

theorem digestSave_gives (harg : argBits c.arg 0x3 = true) (hp : c.params = []) (hst : (s.ctx c.sl k).state = 1)
    (hhmac : (s.ctx c.sl k).hmac = none) (hblock : (s.ctx c.sl k).count % blockLen (s.ctx c.sl k).alg = 0) :
    digestSave c k s = answer c.id stOk
      (natBytes 4 (s.ctx c.sl k).alg ++ natBytes 8 (s.ctx c.sl k).count ++ (s.ctx c.sl k).chain) s := by
  unfold digestSave
  dsimp only
  rw [harg, hp, hst, hhmac, hblock, if_neg (by decide), if_neg (by simp)]

/-- The context that a RESTORE makes. -/
def Context.restored (alg : Nat) (route : Bool) (words : List Byte) : Context :=
  { Context.reset with state := 1, alg := alg, route := route, chain := words.drop 12, count := bytesNat ((words.drop 4).take 8) }

theorem digestRestore_restores {alg : Nat} (harg : argBits c.arg 0x00010003 = true) (halg : (c.params.headD 0).toNat = alg) (h2 : alg ≤ 2)
    (hlen : c.params.length = (if alg = 0 then 11 else 19)) (hblock : bytesNat (((wordsBytes c.params).drop 4).take 8) % blockLen alg = 0)
    (hwait : (s.ctx c.sl k).waitq = []) :
    digestRestore c k s = answer c.id stOk []
      (modCtx c.sl k (fun _ => Context.restored alg (c.arg.getLsbD 16) (wordsBytes c.params)) (unsuspect c.sl k s)) := by
  have hlens : ¬ ((!argBits c.arg 0x00010003 || (c.params.length != 11 && c.params.length != 19)) = true) := by
    rw [harg, hlen]
    split <;> decide
  have hbad : ¬ (2 < alg ∨ c.params.length ≠ (if alg = 0 then 11 else 19) ∨
      bytesNat (((wordsBytes c.params).drop 4).take 8) % blockLen alg ≠ 0) := by
    rintro (h | h | h)
    · omega
    · exact h hlen
    · exact h hblock
  unfold digestRestore
  dsimp only
  rw [if_neg hlens, halg, paramBytes, if_neg hbad]
  rw [modCtx_congr (g := fun _ => Context.restored alg (c.arg.getLsbD 16) (wordsBytes c.params)) (by rw [hwait]; rfl)]
  rfl

theorem digestCompare_answers {cmp : CmpOut} {core : Fin 2} (harg : argBits c.arg 0x3F000003 = true) (h4 : 4 ≤ field c.arg 24 6)
    (hlen : c.params.length = field c.arg 24 6) (hst : (s.ctx c.sl k).state = 2)
    (hmax : 4 * field c.arg 24 6 ≤ digestLen (s.ctx c.sl k).alg) (hup : s.svcUp = true) (hwait : (s.ctx c.sl k).waitq = []) :
    let pair := cmpPair ((s.ctx c.sl k).result.take (4 * field c.arg 24 6) == wordsBytes c.params) cmp
    digestCompare c k cmp core s = when' (glitched cmp) (fun t => cmpGlitch (t.cmpCore core) t)
      (answer c.id stOk (natBytes 4 (bit pair.1 + 2 * bit pair.2)) (modCtx c.sl k (fun _ => Context.reset) s)) := by
  unfold digestCompare
  dsimp only
  rw [harg, if_neg (by simp [hlen]; omega), if_neg (not_not.mpr hst), if_neg (Nat.not_lt.mpr hmax), hup, if_neg (by decide)]
  rw [modCtx_congr (g := fun _ => Context.reset) (by rw [hwait]; rfl)]
  rfl

end

section
variable {t : Take} {p : Packet} {s : State} {op : Byte}

/-- The command of a packet once its reply is owed. -/
def State.owedOf (s : State) (i : Sleeve) (p : Packet) : Cmd := { s.cmdOf i p with accepted := true }

theorem ctx_takenBy (i j : Sleeve) (k : Fin 4) (p : Packet) (s : State) : (s.takenBy i p).ctx j k = s.ctx j k := by
  obtain ⟨sleeves, cmds, nextCmd, taken, hw⟩ := takenBy_withIntake i p s
  rw [hw]
  rfl

theorem svcUp_takenBy (i : Sleeve) (p : Packet) (s : State) : (s.takenBy i p).svcUp = s.svcUp := by
  obtain ⟨sleeves, cmds, nextCmd, taken, hw⟩ := takenBy_withIntake i p s
  rw [hw]
  rfl

theorem slot_takenBy (i : Sleeve) (p : Packet) (s : State) (k : Fin 32) : (s.takenBy i p).slot k = s.slot k := by
  obtain ⟨sleeves, cmds, nextCmd, taken, hw⟩ := takenBy_withIntake i p s
  rw [hw]
  rfl

/-- A digest opcode on a free context runs at once. -/
theorem next_takeDigest (h : Admitted t op p s) (hcmd : (s.ctx t.sl (argInst p.arg)).cmd = none)
    (hwait : (s.ctx t.sl (argInst p.arg)).waitq = []) :
    (.next (takeOp t op (digestTake t.cmp t.core) s) : Res) =
      .next (digestBody (s.owedOf t.sl p) (argInst p.arg) t.cmp t.core (s.takenBy t.sl p)) :=
  (next_takeOp h _).trans (congrArg Host.Outcome.next
    (digestTake_free rfl ((congrArg Context.cmd (ctx_takenBy _ _ _ _ _)).trans hcmd)
      ((congrArg Context.waitq (ctx_takenBy _ _ _ _ _)).trans hwait) (findCmd_takenBy _ _ _)))

section
variable {c : Cmd} {k : Fin 4} {cmp : CmpOut} {core : Fin 2} {v : State}

theorem digestBody_begin (hclear : v.digest.clearing = false) (hop : c.op = 0x30) : digestBody c k cmp core v = digestBegin c k v := by
  rw [digestBody, hclear, hop]; rfl
theorem digestBody_update (hclear : v.digest.clearing = false) (hop : c.op = 0x31) : digestBody c k cmp core v = digestUpdate c k v := by
  rw [digestBody, hclear, hop]; rfl
theorem digestBody_final (hclear : v.digest.clearing = false) (hop : c.op = 0x32) : digestBody c k cmp core v = digestFinal c k v := by
  rw [digestBody, hclear, hop]; rfl
theorem digestBody_save (hclear : v.digest.clearing = false) (hop : c.op = 0x33) : digestBody c k cmp core v = digestSave c k v := by
  rw [digestBody, hclear, hop]; rfl
theorem digestBody_restore (hclear : v.digest.clearing = false) (hop : c.op = 0x34) : digestBody c k cmp core v = digestRestore c k v := by
  rw [digestBody, hclear, hop]; rfl
theorem digestBody_compare (hclear : v.digest.clearing = false) (hop : c.op = 0x35) :
    digestBody c k cmp core v = digestCompare c k cmp core v := by
  rw [digestBody, hclear, hop]; rfl

end

theorem clearing_takenBy (i : Sleeve) (p : Packet) (s : State) : (s.takenBy i p).digest.clearing = s.digest.clearing := by
  obtain ⟨sleeves, cmds, nextCmd, taken, hw⟩ := takenBy_withIntake i p s
  rw [hw]
  rfl

/-- The digest opcodes that answer: the body answers on the taken state, under the change `f`. -/
theorem digest_answered (h : Admitted t op p s) (hcmd : (s.ctx t.sl (argInst p.arg)).cmd = none)
    (hwait : (s.ctx t.sl (argInst p.arg)).waitq = []) {payload : List Byte} {f : State → State}
    (hbody : digestBody (s.owedOf t.sl p) (argInst p.arg) t.cmp t.core (s.takenBy t.sl p) =
      answer s.nextCmd stOk payload (f (s.takenBy t.sl p)))
    (hf : f (s.takenBy t.sl p) = (f s).takenBy t.sl p) (hn : (f s).nextCmd = s.nextCmd) :
    ∃ u, (.next (takeOp t op (digestTake t.cmp t.core) s) : Res) = .next u ∧ Answered t.sl p stOk payload (f s) u :=
  ⟨_, (next_takeDigest h hcmd hwait).trans (congrArg Host.Outcome.next hbody), answered_change payload f hf hn rfl⟩

/-- An UPDATE that leaves less than a block is answered at once, and holds no command. -/
theorem digestUpdate_atOnce {c : Cmd} {k : Fin 4} {words : List Byte} {n : Nat} {v : State}
    (hsmall : (v.ctx c.sl k).buffer.length + 4 * n < blockLen (v.ctx c.sl k).alg) (hlen : words.length = 4 * n)
    (hcmd : (v.ctx c.sl k).cmd = none) (hfin : (v.ctx c.sl k).final = false) :
    finishCtx c.sl k (modCtx c.sl k (fun y => { y with
      buffer := y.buffer ++ words, count := y.count + 4 * n, cmd := some c.id }) v) =
      answer c.id stOk [] (modCtx c.sl k (fun y => { y with buffer := y.buffer ++ words, count := y.count + 4 * n }) v) := by
  have hwork : ((modCtx c.sl k (fun y => { y with
      buffer := y.buffer ++ words, count := y.count + 4 * n, cmd := some c.id }) v).ctx c.sl k).hasWork = false := by
    rw [ctx_modCtx_same]
    exact decide_eq_false (by
      rw [List.length_append, hlen]
      exact Nat.not_le.mpr hsmall)
  rw [finishCtx_update hwork (by rw [ctx_modCtx_same]) (by rw [ctx_modCtx_same]; exact hfin), modCtx_modCtx]
  refine congrArg (answer c.id stOk []) (modCtx_congr ?_)
  dsimp only
  rw [hcmd]

theorem svcUp_of_inSvc {core : Fin 2} (h : (s.digest.cores.get (svcSha core)).inSvc = true) : s.svcUp = true := by
  have hst : (s.digest.cores.get (svcSha core)).st = .inService := by
    rw [Health.inSvc, Bool.and_eq_true] at h
    exact of_decide_eq_true h.1
  have hcore : svcSha core = 4 ∨ svcSha core = 5 := (show ∀ k : Fin 2, svcSha k = 4 ∨ svcSha k = 5 from by decide) core
  unfold State.svcUp State.logSusp
  obtain h4 | h5 := hcore
  · rw [h4] at hst
    simp [hst]
  · rw [h5] at hst
    simp [hst]

/-- What the comparator's pair over two operands reads as. -/
theorem cmpPair_bits (a b : List Byte) (cmp : CmpOut) : bit (cmpPair (a == b) cmp).1 + 2 * bit (cmpPair (a == b) cmp).2 =
    (match cmp with | .clean => if a = b then 1 else 2 | .bothZero => 0 | .bothOne => 3) := by
  cases cmp with
  | clean => by_cases h : a = b <;> simp [cmpPair, bit, h]
  | bothZero => rfl
  | bothOne => rfl

theorem glitched_eq (cmp : CmpOut) : glitched cmp = !decide (cmp = .clean) := by
  cases cmp <;> rfl

theorem cmpCore_answer {core : Fin 2} (k : Nat) (st : Byte) (payload : List Byte)
    (h : (s.digest.cores.get (svcSha core)).inSvc = true) : (answer k st payload s).cmpCore core = core := by
  unfold State.cmpCore
  rw [digest_answer, h]
  rfl

/-- A COMPARE on a context that holds a result, on the state that took it. -/
theorem compare_takenBy (hclear : s.digest.clearing = false) (h : Admitted t 0x35 p s) (harg : argBits p.arg 0x3F000003 = true)
    (h4 : 4 ≤ field p.arg 24 6) (hlen : p.params.length = field p.arg 24 6) (hst : (s.ctx t.sl (argInst p.arg)).state = 2)
    (hmax : 4 * field p.arg 24 6 ≤ digestLen (s.ctx t.sl (argInst p.arg)).alg) (hsvc : s.svcUp = true)
    (hwait : (s.ctx t.sl (argInst p.arg)).waitq = []) :
    digestBody (s.owedOf t.sl p) (argInst p.arg) t.cmp t.core (s.takenBy t.sl p) =
      when' (glitched t.cmp) (fun v => cmpGlitch (v.cmpCore t.core) v)
        (answer s.nextCmd stOk (natBytes 4 (match t.cmp with
            | .clean => if (s.ctx t.sl (argInst p.arg)).result.take (4 * field p.arg 24 6) = wordsBytes p.params then 1 else 2
            | .bothZero => 0
            | .bothOne => 3))
          (modCtx t.sl (argInst p.arg) (fun _ => Context.reset) (s.takenBy t.sl p))) := by
  have hctx := ctx_takenBy t.sl t.sl (argInst p.arg) p s
  have hbody := digestCompare_answers (c := s.owedOf t.sl p) (k := argInst p.arg) (s := s.takenBy t.sl p) (cmp := t.cmp)
    (core := t.core) harg h4 hlen ((congrArg Context.state hctx).trans hst) (hctx.symm ▸ hmax)
    ((svcUp_takenBy t.sl p s).trans hsvc) ((congrArg Context.waitq hctx).trans hwait)
  rw [show (s.owedOf t.sl p).sl = t.sl from rfl, hctx] at hbody
  rw [← cmpPair_bits]
  exact (digestBody_compare ((clearing_takenBy t.sl p s).trans hclear) h.opcode).trans hbody

/-- Settles O19: a digest opcode on a free context runs at once on the taken state, and each body is cited. -/
theorem digestOpcodes : Obligations.DigestOpcodes := by
  refine ⟨fun t p s hclear hcmd hwait => ?_, fun t p s hclear hcmd hwait h hauth harg h4 hlen hst hmax hsvc => ?_⟩
  · have hclear' := (clearing_takenBy t.sl p s).trans hclear
    have hctx := ctx_takenBy t.sl t.sl (argInst p.arg) p s
    have hwait' := (congrArg Context.waitq hctx).trans hwait
    have hup := svcUp_takenBy t.sl p s
    refine ⟨fun h harg hp halg hslot => ?_, fun hlt => ?_, fun h harg hp hst hfin hword hmax => ⟨fun hsmall => ?_, fun hbig hsvc => ?_⟩,
      fun h harg hlen hst hvb hword hsvc => ?_, fun h harg hp hst hhmac hblock => ?_,
      fun alg h harg halg h2 hlen hblock => ?_, fun h hclean harg h4 hlen hst hmax hsvc => ?_⟩
    · exact digest_answered h hcmd hwait (f := fun v => modCtx t.sl (argInst p.arg)
          (fun _ => Context.begun (field p.arg 4 2) none (p.arg.getLsbD 16)) (unsuspect t.sl (argInst p.arg) v))
        ((digestBody_begin hclear' h.opcode).trans
          (digestBegin_plain (c := s.owedOf t.sl p) harg hp halg hslot hwait')) rfl rfl
    · intro slot h harg hp halg hown howned hhealth hhash
      have hsl := slot_takenBy t.sl p s slot
      exact digest_answered h hcmd hwait (f := fun v => modCtx t.sl (argInst p.arg)
          (fun _ => Context.begun ((s.slot slot).hash - 1) (some slot) (p.arg.getLsbD 16)) (unsuspect t.sl (argInst p.arg) v))
        ((digestBody_begin hclear' h.opcode).trans
          ((digestBegin_keyed (c := s.owedOf t.sl p) (slot := slot) harg hp halg rfl hown (by rw [hsl]; exact howned)
            (by rw [hsl]; exact hhealth) (by rw [hsl]; exact hhash) hwait').trans (by rw [hsl]; rfl))) rfl rfl
    · have hsmall' : (s.ctx t.sl (argInst p.arg)).buffer.length + 4 * p.params.length < blockLen (s.ctx t.sl (argInst p.arg)).alg := by
        rwa [wordsBytes_length] at hsmall
      exact digest_answered h hcmd hwait
        (f := modCtx t.sl (argInst p.arg) (fun y => { y with
          buffer := y.buffer ++ wordsBytes p.params, count := y.count + 4 * p.params.length }))
        ((digestBody_update hclear' h.opcode).trans
          ((digestUpdate_joins (c := s.owedOf t.sl p) harg hp ((congrArg Context.state hctx).trans hst)
            (hctx.symm ▸ hword)
            (hctx.symm ▸ hmax) (Or.inr (hctx.symm ▸ hsmall'))).trans
            (digestUpdate_atOnce (c := s.owedOf t.sl p) (hctx.symm ▸ hsmall') (wordsBytes_length _) (hctx.symm ▸ hcmd) (hctx.symm ▸ hfin)))) rfl rfl
    · have hbody := digestUpdate_joins (c := s.owedOf t.sl p) (k := argInst p.arg) (s := s.takenBy t.sl p) harg hp
        ((congrArg Context.state hctx).trans hst) (hctx.symm ▸ hword) (hctx.symm ▸ hmax) (Or.inl (hup.trans hsvc))
      refine (next_takeDigest h hcmd hwait).trans (congrArg Host.Outcome.next
        ((digestBody_update hclear' h.opcode).trans (hbody.trans ?_)))
      refine finishCtx_works ?_
      rw [show (s.owedOf t.sl p).sl = t.sl from rfl, ctx_modCtx_same, hctx]
      rw [wordsBytes_length] at hbig
      exact decide_eq_true (by
        rw [List.length_append, wordsBytes_length]
        exact hbig)
    · exact (next_takeDigest h hcmd hwait).trans (congrArg Host.Outcome.next
        ((digestBody_final hclear' h.opcode).trans
          (digestFinal_pads (c := s.owedOf t.sl p) harg hlen ((congrArg Context.state hctx).trans hst) (hctx.symm ▸ hvb)
            (hctx.symm ▸ hword) (hup.trans hsvc) rfl)))
    · exact digest_answered h hcmd hwait (f := fun v => v)
        ((digestBody_save hclear' h.opcode).trans
          ((digestSave_gives (c := s.owedOf t.sl p) harg hp ((congrArg Context.state hctx).trans hst)
            ((congrArg Context.hmac hctx).trans hhmac) (hctx.symm ▸ hblock)).trans (by
              rw [show (s.owedOf t.sl p).sl = t.sl from rfl, hctx]; rfl))) rfl rfl
    · exact digest_answered h hcmd hwait (f := fun v => modCtx t.sl (argInst p.arg)
          (fun _ => Context.restored alg (p.arg.getLsbD 16) (wordsBytes p.params)) (unsuspect t.sl (argInst p.arg) v))
        ((digestBody_restore hclear' h.opcode).trans
          (digestRestore_restores (c := s.owedOf t.sl p) harg halg h2 hlen hblock hwait')) rfl rfl
    · have hbody := compare_takenBy (t := t) hclear h harg h4 hlen hst hmax hsvc hwait
      rw [hclean] at hbody
      exact digest_answered h hcmd hwait (f := modCtx t.sl (argInst p.arg) (fun _ => Context.reset))
        (hclean.symm ▸ hbody) rfl rfl
  · have hbody := compare_takenBy (t := t) hclear h harg h4 hlen hst hmax (svcUp_of_inSvc hsvc) hwait
    have hans (payload : List Byte) := answered_change (i := t.sl) (p := p) (st := stOk) (s := s) payload
      (modCtx t.sl (argInst p.arg) (fun _ => Context.reset)) rfl rfl rfl
    have hcore (payload : List Byte) := cmpCore_answer (core := t.core) s.nextCmd stOk payload
      (s := modCtx t.sl (argInst p.arg) (fun _ => Context.reset) (s.takenBy t.sl p)) (by
        obtain ⟨sleeves, cmds, nextCmd, taken, hw⟩ := takenBy_withIntake t.sl p s
        rw [hw]
        exact hsvc)
    refine ⟨_, hans _, (next_takeDigest h hcmd hwait).trans (congrArg Host.Outcome.next (hbody.trans ?_))⟩
    by_cases hclean : t.cmp = .clean
    · rw [if_pos hclean, hclean] <;> rfl
    · rw [if_neg hclean, glitched_eq, decide_eq_false hclean, Bool.not_false, when', if_pos rfl, hcore] <;> rfl

end

/-! ### The TAP's requests -/

section
variable {v : Word} {s : State}

/-- A BIST_REQ with GO is judged on the state that holds its target. -/
theorem bistReq_go (hon : s.power.phase ≠ .off) (hir : s.bist.ir = 0x10) (hgo : v.getLsbD 31 = true) :
    execBistReq v s = .next (match (bistReqTarget v s).bistReqVerdict v with
      | some st => modBist (fun b => { b with verdict := st }) (bistReqTarget v s)
      | none => queueOpen (bistReqTarget v s).bist.target 8 (argLogic v) (argAnalog v)
          (modBist (fun b => { b with verdict := stAccepted }) (bistReqTarget v s))) := by
  refine congrArg Host.Outcome.next ?_
  rw [if_neg (by rintro (h | h); exacts [hon h, h hir])]
  dsimp only
  rw [hgo]
  rfl

/-- A refused request leaves its verdict, and queues nothing. -/
theorem bistReq_refused {st : Byte} (hon : s.power.phase ≠ .off) (hir : s.bist.ir = 0x10) (hgo : v.getLsbD 31 = true)
    (hverdict : (bistReqTarget v s).bistReqVerdict v = some st) :
    ∃ u, exec (.bistReq v) s = .next u ∧ u.bist.verdict = st ∧ u.bist.queue = s.bist.queue := by
  refine ⟨modBist (fun b => { b with verdict := st }) (bistReqTarget v s), (bistReq_go hon hir hgo).trans ?_, rfl, rfl⟩
  rw [hverdict]

/-- Where the request is judged as a run, its target is the one written. -/
theorem bistReq_accepted (hon : s.power.phase ≠ .off) (hir : s.bist.ir = 0x10) (hgo : v.getLsbD 31 = true)
    (hserving : s.power.phase = .serving) (hbits : bistReqBitsOk v = true) (hbudget : budgetsOk v = true) (h : field v 0 7 < 32)
    (hopen : s.openVerdict ⟨field v 0 7, h⟩ 8 = none) :
    ∃ u, exec (.bistReq v) s = .next u ∧ u.bist.verdict = stAccepted ∧ u.bist.target = ⟨field v 0 7, h⟩ ∧
      u.bist.queue.length = s.bist.queue.length + 1 := by
  have htarget : (bistReqTarget v s).bist.target = ⟨field v 0 7, h⟩ := dif_pos h
  have hverdict : (bistReqTarget v s).bistReqVerdict v = none := by
    unfold State.bistReqVerdict
    rw [if_neg (show ¬ (bistReqTarget v s).power.phase ≠ .serving from not_not.mpr hserving), hbits, hbudget, if_neg (by decide), dif_pos h]
    exact hopen
  refine ⟨queueOpen (bistReqTarget v s).bist.target 8 (argLogic v) (argAnalog v)
    (modBist (fun b => { b with verdict := stAccepted }) (bistReqTarget v s)), (bistReq_go hon hir hgo).trans ?_, rfl, htarget, ?_⟩
  · rw [hverdict]
  · exact List.length_append

theorem bistReqVerdict_badLength (hserving : s.power.phase = .serving) (hbad : 32 ≤ field v 0 7 ∨ bistReqBitsOk v = false) :
    (bistReqTarget v s).bistReqVerdict v = some stBadLength := by
  unfold State.bistReqVerdict
  rw [if_neg (show ¬ (bistReqTarget v s).power.phase ≠ .serving from not_not.mpr hserving)]
  obtain hlarge | hbits := hbad
  · rw [dif_neg (Nat.not_lt.mpr hlarge), ite_self]
  · rw [hbits]
    rfl

/-- What the instruction in force makes of EXTEST. -/
theorem settleTap_on (hon : s.power.phase ≠ .off) (f : Bist → Bist) :
    settleTap (modBist f s) = modPower (fun p => { p with extest := decide ((f s.bist).ir = 0) && s.power.rstLow }) (modBist f s) := by
  have hphase : decide (s.power.phase ≠ .off) = true := decide_eq_true hon
  show modPower (fun p => { p with extest := decide ((f s.bist).ir = 0) && s.power.rstLow && decide (s.power.phase ≠ .off) })
    (modBist f s) = _
  rw [hphase, Bool.and_true]

/-- Settles O47: a request is judged on the state that holds its target, and the TAP's other rows set one field. -/
theorem tapRequests : Obligations.TapRequests := by
  refine fun v s hon => ⟨fun hir hgo hphase => ?_, fun hir hgo hserving hbits hbudget h hopen => ?_,
    fun hir hgo hserving hbad => ?_, fun hir => ?_, fun hir => ?_, ?_, fun code => ?_⟩
  · exact bistReq_refused hon hir hgo (if_pos hphase)
  · exact bistReq_accepted hon hir hgo hserving hbits hbudget h hopen
  · exact bistReq_refused hon hir hgo (bistReqVerdict_badLength hserving hbad)
  · have hdr : s.bist.captureDr = s.bist.verdict :: (s.bist.results.get s.bist.target).bytes := if_pos hir
    refine congrArg Host.Outcome.next ((if_neg hon).trans ?_)
    exact congrArg (fun d => modBist (fun b => { b with captured := d }) s) hdr
  · have hdr : s.bist.captureDr = wordBytes 0x2A581D2B :=
      (if_neg (by rw [hir]; decide)).trans (if_pos hir)
    refine congrArg Host.Outcome.next ((if_neg hon).trans ?_)
    exact congrArg (fun d => modBist (fun b => { b with captured := d }) s) hdr
  · refine ⟨_, congrArg Host.Outcome.next ((if_neg hon).trans (settleTap_on hon _)), rfl, rfl⟩
  · exact ⟨_, congrArg Host.Outcome.next ((if_neg hon).trans (settleTap_on hon _)), rfl, rfl⟩

end

/-! ### Starting and restarting the threads' tests -/

/-- The state without its threads. -/
def State.unthreaded (s : State) : State := { s with threads := Vector.replicate 16 .reset }

/-- What `restartTest` and the starts of a test do: they change one thread, whose holds and health they leave. -/
structure Retests (t : Thread) (s u : State) : Prop where
  rest   : u.unthreaded = s.unthreaded
  others : ∀ k, t ≠ k → u.thread k = s.thread k
  rail   : (u.thread t).railHold = (s.thread t).railHold
  health : (u.thread t).health = (s.thread t).health

theorem Retests.refl (t : Thread) (s : State) : Retests t s s := ⟨rfl, fun _ _ => rfl, rfl, rfl⟩

theorem Retests.trans {t : Thread} {s u v : State} (h : Retests t s u) (h' : Retests t u v) : Retests t s v :=
  ⟨h'.rest.trans h.rest, fun k hk => (h'.others k hk).trans (h.others k hk), h'.rail.trans h.rail, h'.health.trans h.health⟩

theorem retests_modThread {t : Thread} {f : ThreadSt → ThreadSt} (hrail : ∀ x, (f x).railHold = x.railHold)
    (hhealth : ∀ x, (f x).health = x.health) (s : State) : Retests t s (modThread t f s) where
  rest := rfl
  others k hk := thread_modThread_ne t k f s hk
  rail := by rw [thread_modThread_same, hrail]
  health := by rw [thread_modThread_same, hhealth]

theorem retests_startFull (t : Thread) (s : State) : Retests t s (startFull t s) :=
  retests_modThread (by intro _; rfl) (by intro _; rfl) s

theorem retests_startShort (t : Thread) (s : State) : Retests t s (startShort t s) :=
  retests_modThread (by intro _; rfl) (by intro _; rfl) s

theorem retests_startPowerUp (t : Thread) (s : State) : Retests t s (startPowerUp t s) :=
  (retests_modThread (fun _ => by split <;> rfl) (fun _ => by split <;> rfl) s).trans (retests_startFull t _)

theorem startPowerUp_passed (t : Thread) (s : State) : ((startPowerUp t s).thread t).passed = false := by
  unfold startPowerUp startFull
  rw [thread_modThread_same]

theorem retests_restartTest (t : Thread) (s : State) : Retests t s (restartTest t s) := by
  unfold restartTest
  dsimp only
  split
  · exact retests_modThread (by intro _; rfl) (by intro _; rfl) s
  · split
    · exact retests_startPowerUp t s
    · split
      · exact retests_startShort t s
      · exact .refl t s

theorem retests_afterCapture (t : Thread) (s : State) : Retests t s (afterCapture t s) := by
  unfold afterCapture
  dsimp only
  refine (retests_modThread (f := fun x => { ThreadSt.fresh x with
    capHold := decide (x.health.st = .inService), passed := false }) (fun _ => rfl) (fun _ => rfl) s).trans ?_
  split
  · split
    · exact .refl t _
    · split
      · exact retests_startFull t _
      · exact retests_startShort t _
  · split
    · exact retests_startShort t _
    · exact .refl t _

/-- A property of the state that each step of a loop leaves is left by the loop. -/
theorem forAll_keeps {α β : Type} {g : State → α} {f : β → State → State} {l : List β} (h : ∀ x ∈ l, ∀ s, g (f x s) = g s) (s : State) :
    g (forAll l f s) = g s := by
  induction l generalizing s with
  | nil => rfl
  | cons x l ih => exact (ih (fun y hy => h y (List.mem_cons_of_mem _ hy)) (f x s)).trans (h x List.mem_cons_self s)

theorem not_isM_of_mem {t : Thread} (h : t ∈ aThreads) : isM t = false := by
  have := (List.mem_filter.mp h).2
  simpa using this

theorem mem_aThreads {t : Thread} (h : isM t = false) : t ∈ aThreads :=
  List.mem_filter.mpr ⟨List.mem_finRange t, by rw [h]; rfl⟩

/-- The A-threads' loop leaves an M-thread that its steps leave. -/
theorem forAll_aThreads_other {f : Thread → State → State} (h : ∀ k s t, k ≠ t → (f k s).thread t = s.thread t) {t : Thread}
    (hM : isM t = true) (s : State) : (forAll aThreads f s).thread t = s.thread t :=
  forAll_keeps (g := fun u => u.thread t) (fun k hk u => h k u t (fun e => by
    have := not_isM_of_mem hk
    rw [e, hM] at this
    exact absurd this (by decide))) s

/-! ### The rail's hold -/

/-- The module's supplies, floor and runs, which the A-threads' holds leave. -/
def State.plant (s : State) : Supply × Power × Floor × Bist := (s.supply, s.power, s.floor, s.bist)

theorem plant_of_calm {s t : State} (h : t.calm = s.calm) : t.plant = s.plant := by
  simpa only [State.calm, State.plant] using congrArg State.plant h

theorem plant_of_unthreaded {s t : State} (h : t.unthreaded = s.unthreaded) : t.plant = s.plant := by
  simpa only [State.unthreaded, State.plant] using congrArg State.plant h

/-- The end of a capture: its thread is freed, and nothing else of the module's plant or threads changes. -/
theorem endCapture_retests (c : Nat) (s : State) : (endCapture c s).plant = s.plant ∧
    (∀ k, s.capture.thread ≠ k → (endCapture c s).thread k = s.thread k) ∧
    (∀ k, ((endCapture c s).thread k).railHold = (s.thread k).railHold) ∧
    (∀ k, ((endCapture c s).thread k).health = (s.thread k).health) := by
  obtain ⟨v, hv, hplant, hthreads⟩ : ∃ v, endCapture c s = afterCapture s.capture.thread v ∧ v.plant = s.plant ∧ v.threads = s.threads :=
    ⟨_, rfl, (plant_of_calm (calm_raiseD (code := 0x5011) (by decide) _ _)).trans rfl,
      (threads_of_calm (calm_raiseD (code := 0x5011) (by decide) _ _)).trans rfl⟩
  have hthread (k : Thread) : v.thread k = s.thread k := congrArg (fun w => w.get k) hthreads
  have hr := retests_afterCapture s.capture.thread v
  have heq {α : Type} (g : ThreadSt → α) (hg : g ((afterCapture s.capture.thread v).thread s.capture.thread) = g (v.thread s.capture.thread))
      (k : Thread) : g ((afterCapture s.capture.thread v).thread k) = g (s.thread k) := by
    rw [← hthread]
    by_cases hk : s.capture.thread = k
    · rw [← hk]
      exact hg
    · rw [hr.others k hk]
  rw [hv]
  exact ⟨(plant_of_unthreaded hr.rest).trans hplant, fun k hk => (hr.others k hk).trans (hthread k), heq _ hr.rail, heq _ hr.health⟩

section
variable {s : State}

/-- A thread that the rail's hold stops. -/
def holdOne (t : Thread) (s : State) : State := holdWindows t (modThread t (fun x => { x with railHold := true }) s)

theorem holdOne_thread (t : Thread) (s : State) : (holdOne t s).thread t = ThreadSt.restart { s.thread t with railHold := true } := by
  unfold holdOne holdWindows
  rw [thread_modThread_same, thread_modThread_same]

theorem holdOne_other (k : Thread) (s : State) (t : Thread) (h : k ≠ t) : (holdOne k s).thread t = s.thread t := by
  unfold holdOne holdWindows
  rw [thread_modThread_ne _ _ _ _ h, thread_modThread_ne _ _ _ _ h]

theorem forAll_holdOne_plant (l : List Thread) (s : State) : (forAll l holdOne s).plant = s.plant :=
  forAll_keeps (g := State.plant) (f := holdOne) (fun _ _ _ => rfl) s

theorem forAll_holdOne_health (l : List Thread) (s : State) (t : Thread) : ((forAll l holdOne s).thread t).health = (s.thread t).health := by
  refine forAll_keeps (g := fun u => (u.thread t).health) (fun k _ u => ?_) s
  by_cases h : k = t
  · rw [h, holdOne_thread]
    rfl
  · rw [holdOne_other k u t h]

theorem forAll_holdOne_held {t : Thread} (h : isM t = false) (s : State) : ((forAll aThreads holdOne s).thread t).railHold = true := by
  refine forAll_establishes (P := fun u => (u.thread t).railHold = true) (mem_aThreads h) (fun u => ?_) (fun k u hu => ?_) s
  · rw [holdOne_thread]
    rfl
  · by_cases hk : k = t
    · rw [hk, holdOne_thread]
      rfl
    · rwa [holdOne_other k u t hk]

/-- The end of a capture that the A-threads' hold stops. -/
theorem endHeldCapture_retests (s : State) : (endHeldCapture s).plant = s.plant ∧
    (∀ k, isM k = true → (endHeldCapture s).thread k = s.thread k) ∧
    (∀ k, ((endHeldCapture s).thread k).railHold = (s.thread k).railHold) ∧
    (∀ k, ((endHeldCapture s).thread k).health = (s.thread k).health) := by
  unfold endHeldCapture
  split
  case isFalse => exact ⟨rfl, fun _ _ => rfl, fun _ => rfl, fun _ => rfl⟩
  case isTrue h =>
    obtain ⟨hplant, hother, hrail, hhealth⟩ := endCapture_retests 2 s
    refine ⟨hplant, fun k hk => hother k (fun e => ?_), hrail, hhealth⟩
    rw [e, hk] at h
    simp at h

/-- The rail's hold: every A-thread is held, no M-thread and no health changes. -/
theorem holdRail_holds (s : State) :
    (holdRail s).plant = ({ s.supply with railOutAt := s.now }, s.power, s.floor, s.bist) ∧
    (∀ t, isM t = false → ((holdRail s).thread t).railHold = true) ∧
    (∀ t, isM t = true → (holdRail s).thread t = s.thread t) ∧
    (∀ t, ((holdRail s).thread t).health = (s.thread t).health) := by
  obtain ⟨v, hv⟩ : ∃ v, forAll aThreads holdOne s = v := ⟨_, rfl⟩
  have hplant : v.plant = s.plant := hv ▸ forAll_holdOne_plant aThreads s
  have hnow : v.now = s.now := hv ▸ forAll_keeps (g := State.now) (f := holdOne) (fun _ _ _ => rfl) s
  obtain ⟨w, hw⟩ : ∃ w, modSupply (fun p => { p with railOutAt := v.now }) v = w := ⟨_, rfl⟩
  have hwthread (t : Thread) : w.thread t = v.thread t := hw ▸ rfl
  have hwplant : w.plant = ({ s.supply with railOutAt := s.now }, s.power, s.floor, s.bist) := by
    rw [← hw, ← hnow]
    exact congrArg (fun p : Supply × Power × Floor × Bist => ({ p.1 with railOutAt := v.now }, p.2)) hplant
  obtain ⟨heplant, hother, hrail, hhealth⟩ := endHeldCapture_retests w
  have hhold : holdRail s = raise 0x5001 (endHeldCapture w) := by
    rw [← hw, ← hv]
    rfl
  have hcalm : (holdRail s).calm = (endHeldCapture w).calm := hhold ▸ calm_raiseD (by decide) [] _
  have hthread (t : Thread) : (holdRail s).thread t = (endHeldCapture w).thread t := congrArg (fun x => x.get t) (threads_of_calm hcalm)
  refine ⟨(plant_of_calm hcalm).trans (heplant.trans hwplant), fun t hA => ?_, fun t hM => ?_, fun t => ?_⟩
  · rw [hthread, hrail, hwthread, ← hv]
    exact forAll_holdOne_held hA s
  · rw [hthread, hother t hM, hwthread, ← hv]
    exact forAll_aThreads_other holdOne_other hM s
  · rw [hthread, hhealth, hwthread, ← hv]
    exact forAll_holdOne_health aThreads s t

/-- A loop of retests leaves everything but the threads. -/
theorem forAll_retests_rest {f : Thread → State → State} (hf : ∀ k s, Retests k s (f k s)) (l : List Thread) (s : State) :
    (forAll l f s).unthreaded = s.unthreaded :=
  forAll_keeps (g := State.unthreaded) (fun k _ u => (hf k u).rest) s

theorem forAll_retests_rail {f : Thread → State → State} (hf : ∀ k s, Retests k s (f k s)) (l : List Thread) (s : State) (t : Thread) :
    ((forAll l f s).thread t).railHold = (s.thread t).railHold := by
  refine forAll_keeps (g := fun u => (u.thread t).railHold) (fun k _ u => ?_) s
  by_cases h : k = t
  · rw [← h]
    exact (hf k u).rail
  · rw [(hf k u).others t h]

/-- The start of the tests that are due: nothing but the threads and two marks of power changes. -/
theorem startTests_keeps (s : State) : (startTests s).floor = s.floor ∧ (startTests s).bist = s.bist ∧ (startTests s).supply = s.supply ∧
    (startTests s).power.conditioned = s.power.conditioned ∧
    (∀ t, ((startTests s).thread t).railHold = (s.thread t).railHold) ∧
    (∀ t, (s.thread t).passed = false → ((startTests s).thread t).passed = false) := by
  have hpassed (l : List Thread) (t : Thread) (h : (s.thread t).passed = false) :
      ((forAll l startPowerUp s).thread t).passed = false := by
    have hkeep : ∀ l s, (State.thread s t).passed = false → ((forAll l startPowerUp s).thread t).passed = false := by
      intro l
      induction l with
      | nil => exact fun _ h => h
      | cons k l ih =>
        refine fun u hu => ih _ ?_
        by_cases hk : k = t
        · rw [hk, startPowerUp_passed]
        · rwa [(retests_startPowerUp k u).others t hk]
    exact hkeep l s h
  have hplant (l : List Thread) := plant_of_unthreaded (forAll_retests_rest retests_startPowerUp l s)
  have hsupply (l : List Thread) : (forAll l startPowerUp s).supply = s.supply := congrArg (·.1) (hplant l)
  have hpower (l : List Thread) : (forAll l startPowerUp s).power = s.power := congrArg (·.2.1) (hplant l)
  have hfloor (l : List Thread) : (forAll l startPowerUp s).floor = s.floor := congrArg (·.2.2.1) (hplant l)
  have hbist (l : List Thread) : (forAll l startPowerUp s).bist = s.bist := congrArg (·.2.2.2) (hplant l)
  have hcond (l : List Thread) := congrArg Power.conditioned (hpower l)
  have hrail (l : List Thread) := forAll_retests_rail retests_startPowerUp l s
  unfold startTests
  split
  · exact ⟨rfl, rfl, rfl, rfl, fun _ => rfl, fun _ h => h⟩
  · split
    · exact ⟨hfloor _, hbist _, hsupply _, hcond _, hrail _, hpassed _⟩
    · split
      · exact ⟨hfloor _, hbist _, hsupply _, hcond _, hrail _, hpassed _⟩
      · exact ⟨rfl, rfl, rfl, rfl, fun _ => rfl, fun _ h => h⟩

end

theorem railGood_of {v : Nat} (h : 1960 ≤ v) (h' : v ≤ 2040) : railGood v = true := by
  rw [railGood, decide_eq_true h, decide_eq_true h']
  rfl

theorem railGood_not {v : Nat} (h : v < 1960 ∨ 2040 < v) : railGood v = false := by
  unfold railGood
  simp only [Bool.and_eq_false_iff, decide_eq_false_iff_not]
  omega

theorem log_of_unthreaded {s t : State} (h : t.unthreaded = s.unthreaded) : t.log = s.log := by
  simpa only [State.unthreaded] using congrArg State.log h

/-- A thread whose hold by the rail ends. -/
def unholdOne (t : Thread) (s : State) : State := restartTest t (modThread t (fun x => { x with railHold := false }) s)

theorem unholdOne_other (k : Thread) (s : State) (t : Thread) (h : k ≠ t) : (unholdOne k s).thread t = s.thread t := by
  unfold unholdOne
  rw [(retests_restartTest k _).others t h, thread_modThread_ne _ _ _ _ h]

theorem unholdOne_rail (k : Thread) (s : State) : ((unholdOne k s).thread k).railHold = false := by
  unfold unholdOne
  rw [(retests_restartTest k _).rail, thread_modThread_same]

theorem unholdRail_ends (s : State) : (unholdRail s).unthreaded = s.unthreaded ∧
    (∀ t, isM t = false → ((unholdRail s).thread t).railHold = false) ∧
    (∀ t, isM t = true → (unholdRail s).thread t = s.thread t) := by
  refine ⟨forAll_keeps (g := State.unthreaded) (f := unholdOne) (fun k _ u => (retests_restartTest k _).rest) s, fun t h => ?_,
    fun t h => forAll_aThreads_other unholdOne_other h s⟩
  refine forAll_establishes (P := fun u => (u.thread t).railHold = false) (mem_aThreads h) (unholdOne_rail t) (fun k u hu => ?_) s
  by_cases hk : k = t
  · rw [hk, unholdOne_rail]
  · rwa [unholdOne_other k u t hk]

/-- A thread as the end of conditioning leaves it. -/
def conditionOne (t : Thread) : State → State := modThread t (fun x => { x with railHold := false, test := .none, passed := false })

theorem forAll_conditionOne {t : Thread} (h : isM t = false) (s : State) :
    ((forAll aThreads conditionOne s).thread t).railHold = false ∧ ((forAll aThreads conditionOne s).thread t).passed = false := by
  refine forAll_establishes (P := fun u => (u.thread t).railHold = false ∧ (u.thread t).passed = false) (mem_aThreads h)
    (fun u => ?_) (fun k u hu => ?_) s
  · rw [conditionOne, thread_modThread_same]
    exact ⟨rfl, rfl⟩
  · by_cases hk : k = t
    · rw [hk, conditionOne, thread_modThread_same]
      exact ⟨rfl, rfl⟩
    · rwa [conditionOne, thread_modThread_ne _ _ _ _ hk]

/-- The end of conditioning, by the state that its loop starts from. -/
theorem conditioning_ends {v : State} (hcond : v.power.conditioned = true) :
    (startTests (forAll aThreads conditionOne v)).power.conditioned = true ∧
    (∀ t, isM t = false → ((startTests (forAll aThreads conditionOne v)).thread t).railHold = false ∧
      ((startTests (forAll aThreads conditionOne v)).thread t).passed = false) ∧
    (v.powerRunsDone = false → ∀ t, isM t = true → (startTests (forAll aThreads conditionOne v)).thread t = v.thread t) := by
  obtain ⟨-, -, -, hpower, hrail, hpassed⟩ := startTests_keeps (forAll aThreads conditionOne v)
  have hloop : (forAll aThreads conditionOne v).plant = v.plant :=
    forAll_keeps (g := State.plant) (f := conditionOne) (fun _ _ _ => rfl) v
  refine ⟨?_, fun t hA => ?_, fun hruns t hM => ?_⟩
  · rw [hpower]
    exact (congrArg (fun p : Supply × Power × Floor × Bist => p.2.1.conditioned) hloop).trans hcond
  · obtain ⟨h1, h2⟩ := forAll_conditionOne hA v
    exact ⟨(hrail t).trans h1, hpassed t h2⟩
  · have hruns' : (forAll aThreads conditionOne v).powerRunsDone = false :=
      (congrArg (fun p : Supply × Power × Floor × Bist => p.2.2.2.powerUp.isEmpty && p.2.2.2.again.isEmpty &&
        !(p.2.2.2.active.any (fun r => decide (r.kind = .powerUp)))) hloop).trans hruns
    have hsame : startTests (forAll aThreads conditionOne v) = forAll aThreads conditionOne v := by
      rw [startTests, hruns']
      rfl
    rw [hsame]
    exact forAll_aThreads_other (fun k u t h => thread_modThread_ne k t _ u h) hM v

/-- Queueing runs leaves no power-up run done that was not. -/
theorem powerRunsDone_queued {v : State} (late : Bool) (runs : List (Fin 32)) (h : v.powerRunsDone = false) :
    (when' late (modBist (fun b => { b with powerUp := b.powerUp ++ runs })) v).powerRunsDone = false := by
  cases late with
  | false => exact h
  | true =>
    unfold State.powerRunsDone at h ⊢
    show ((v.bist.powerUp ++ runs).isEmpty && v.bist.again.isEmpty &&
      !(v.bist.active.any (fun r => decide (r.kind = .powerUp)))) = false
    cases hq : v.bist.powerUp with
    | nil =>
      rw [hq] at h
      rw [List.isEmpty_nil, Bool.true_and] at h
      rw [Bool.and_assoc, h, Bool.and_false]
    | cons k l => rfl

/-- Settles O40: the hold, the release and the conditioning of the A-threads, each by what its loop establishes. -/
theorem railHolds : Obligations.RailHolds := by
  intro s v
  refine ⟨fun hlive hup hskip hlo hhi => ?_, fun hphase hnow hbad hcond hskip => ?_, fun hlive hok hcond => ?_,
    fun hlive hok hride hbad => ?_, fun hlive hok hride hup hcond hout hlo hhi => ?_⟩
  · refine congrArg Host.Outcome.next (if_pos ?_)
    rw [hlive, hup, hskip, railGood_of hlo hhi]
    rfl
  · obtain ⟨w, hw⟩ : ∃ w, modBist (fun b => { b with powerUp := b.powerUp.filter (fun k => !(12 ≤ k.val && k.val < 16)) })
      (modPower (fun p => { p with railSkipped := true }) (modSupply (fun p => { p with rail10mV := v, railOk := false }) s)) = w := ⟨_, rfl⟩
    obtain ⟨hplant, hheld, -, -⟩ := holdRail_holds w
    obtain ⟨hfloor, hbist, hsupply, -, hrail, -⟩ := startTests_keeps (holdRail w)
    refine ⟨startTests (holdRail w), congrArg Host.Outcome.next ((if_pos ?_).trans (hw ▸ rfl)), ?_, fun t hA => ?_, ?_, ?_⟩
    · rw [railGood_not hbad, hcond, hskip]
      simp [hphase, hnow]
    · rw [hsupply]
      exact (congrArg (fun p : Supply × Power × Floor × Bist => p.1.railOk) hplant).trans (hw ▸ rfl)
    · rw [hrail, hheld t hA]
    · rw [hfloor]
      exact (congrArg (fun p : Supply × Power × Floor × Bist => p.2.2.1.trips) hplant).trans (hw ▸ rfl)
    · have hruns : (startTests (holdRail w)).bist.powerUp = s.bist.powerUp.filter (fun k => !(12 ≤ k.val && k.val < 16)) := by
        rw [hbist]
        exact (congrArg (fun p : Supply × Power × Floor × Bist => p.2.2.2.powerUp) hplant).trans (hw ▸ rfl)
      intro k hk
      rw [hruns] at hk
      have := (List.mem_filter.mp hk).2
      simp only [Bool.not_eq_true', Bool.and_eq_false_iff, decide_eq_false_iff_not] at this
      omega
  · obtain ⟨h1, h2, h3⟩ := conditioning_ends (v := when' s.power.railSkipped (modBist (fun b => { b with
      powerUp := b.powerUp ++ ((List.finRange 32).filter (fun k => 12 ≤ k.val && k.val < 16)).filter
        (fun k => (sliceUnits k).any (fun u => decide ((s.health u).st ≠ .retired))) }))
      (modPower (fun p => { p with conditioned := true }) s)) (by cases s.power.railSkipped <;> rfl)
    refine ⟨_, congrArg Host.Outcome.next (if_pos ?_), h1, h2, fun t hM hruns => ?_⟩
    · rw [hlive, hok, hcond]
      rfl
    · refine (h3 (powerRunsDone_queued _ _ hruns) t hM).trans ?_
      cases s.power.railSkipped <;> rfl
  · obtain ⟨w, hw⟩ : ∃ w, modSupply (fun p => { p with railOk := false })
      (modSupply (fun p => { p with rail10mV := v, railOutAt := s.now }) s) = w := ⟨_, rfl⟩
    obtain ⟨hplant, hheld, hM, hhealth⟩ := holdRail_holds w
    have hthreads (t : Thread) : w.thread t = s.thread t := hw ▸ rfl
    refine ⟨holdRail w, congrArg Host.Outcome.next ((if_pos ?_).trans ((if_pos hok).trans (hw ▸ rfl))), ?_, ?_, hheld, fun t => ?_, fun t h => ?_⟩
    · rw [hlive, hride, railGood_not hbad]
      rfl
    · exact (congrArg (fun p : Supply × Power × Floor × Bist => p.1.railOk) hplant).trans (hw ▸ rfl)
    · exact (congrArg (fun p : Supply × Power × Floor × Bist => p.2.2.1.trips) hplant).trans (hw ▸ rfl)
    · rw [hhealth, hthreads]
    · rw [hM t h, hthreads]
  · obtain ⟨w, hw⟩ : ∃ w, raise 0x5002 (modSupply (fun p => { p with rail10mV := v, railOk := true, railUp := true }) s) = w := ⟨_, rfl⟩
    have hlog : w = { modSupply (fun p => { p with rail10mV := v, railOk := true, railUp := true }) s with
      log := (placeEv (mkEv s 0x5002 15 []) s.log).1 } := hw ▸ raiseD_quiet 0x5002 [] _ (by decide)
    obtain ⟨hrest, hrail, hM⟩ := unholdRail_ends w
    obtain ⟨x, hx⟩ : ∃ x, unholdRail w = x := ⟨_, rfl⟩
    rw [hx] at hrest hrail hM
    have hsupply : x.supply = w.supply := congrArg Prod.fst (plant_of_unthreaded hrest)
    have hc : w.power.conditioned = true := by
      rw [hlog]
      exact hcond
    refine ⟨x, congrArg Host.Outcome.next ((if_pos ?_).trans ((if_pos (hw ▸ hc)).trans ((congrArg unholdRail hw).trans hx))),
      ?_, ?_, hrail, fun t h => ?_⟩
    · rw [hlive, hok, hride, railGood_of hlo hhi, hup]
      simp [hout]
    · rw [hsupply, hlog]
      rfl
    · exact (log_of_unthreaded hrest).trans (by rw [hlog])
    · rw [hM t h, hlog]
      rfl

end Sys2Proof.Machine
end

section
/-! SUPPORT. Banks, claims and torn pockets, and what the fabric's steps leave. -/

namespace Sys2Proof.Machine

/-! ### What the pool's bookkeeping leaves of the torn pockets' account -/

/-- The account of torn pockets and of errors: the torn map, the last torn pocket, both counts, and the event bit of R253. -/
def Pool.scars (p : Pool) : BitVec 4096 × Nat × Nat × Nat × Bool := (p.torn, p.lastTorn, p.uncorr, p.corr, p.evt.getLsbD 0)

/-- An event of the pool other than that of a torn pocket leaves the account. -/
theorem scars_noteEvt (p : Pool) {e : BitVec 7} (h : e.getLsbD 0 = false) : ({ p with evt := p.evt ||| e } : Pool).scars = p.scars := by
  have hbit : (p.evt ||| e).getLsbD 0 = p.evt.getLsbD 0 := by rw [BitVec.getLsbD_or, h, Bool.or_false]
  unfold Pool.scars
  rw [hbit]

theorem scars_of_pool {s t : State} (h : t.pool = s.pool) : t.pool.scars = s.pool.scars := congrArg Pool.scars h

theorem scars_raiseD {code : BitVec 16} (h : rankOf code ≠ 3) (data : List Byte) (s : State) :
    (raiseD code data s).pool.scars = s.pool.scars := scars_of_pool (pool_raiseD h data s)

theorem scars_judgeSleeve (i : Sleeve) (s : State) : (judgeSleeve i s).pool.scars = s.pool.scars := by
  unfold judgeSleeve
  extract_lets x a t x' u
  have ht : t.pool.scars = s.pool.scars := by
    unfold t when'
    split
    · split
      · show (raiseS 0x2086 i [] _).pool.scars = _
        rw [pool_raiseS (by decide)]
        rfl
      · rfl
    · rfl
  have hu : u.pool.scars = t.pool.scars := by
    unfold u
    split
    · rw [pool_raiseS (by decide)]
      rfl
    · rfl
  refine Eq.trans ?_ (hu.trans ht)
  split
  · split
    · show (offer _ _).1.pool.scars = _
      rw [pool_offerEv (by decide)]
      rfl
    · rw [pool_offerEv (by decide)]
      rfl
  · rfl

theorem scars_judgeGlobal (s : State) : (judgeGlobal s).pool.scars = s.pool.scars := by
  unfold judgeGlobal
  dsimp only
  split
  · rw [pool_raiseA (code := 0x2087) (by decide) _ (act := alert 0 0x02) (fun _ => rfl)]
    exact scars_noteEvt { s.pool with glow := true } (e := 0x08) (by decide)
  · split <;> rfl

theorem scars_judge (s : State) : (judge s).pool.scars = s.pool.scars :=
  (scars_judgeGlobal _).trans (forAll_keeps (g := fun u => u.pool.scars) (fun i _ u => scars_judgeSleeve i u) s)

theorem scars_recut (s : State) : (recut s).pool.scars = s.pool.scars := by
  unfold recut
  extract_lets c up t
  refine (scars_judge _).trans ?_
  have ht : t.pool.scars = s.pool.scars := by
    unfold t
    cases up with
    | false => rfl
    | true => exact scars_noteEvt { s.pool with cut := c } (e := 0x10) (by decide)
  split
  · rw [pool_raiseA (code := 0x2088) (by decide) _ (act := alert 0 0x02) (fun _ => rfl)]
    exact ht
  · exact ht

theorem scars_maskBank (b : Fin 16) (s : State) : (maskBank b s).pool.scars = s.pool.scars := by
  unfold maskBank
  split
  · rfl
  · exact (scars_recut _).trans rfl

theorem scars_unmaskBank (b : Fin 16) (s : State) : (unmaskBank b s).pool.scars = s.pool.scars := (scars_recut _).trans rfl

theorem pool_pend (c : Commit) (s : State) : (pend c s).pool = s.pool := by
  unfold pend
  split
  · rfl
  · exact pool_raiseD (code := 0xF012) (by decide) [] s

/-! ### The health of a unit under its own recovery -/

section
variable {u : UnitRef}

theorem health_withLog (u : UnitRef) (l : Log) (s : State) : ({ s with log := l } : State).health u = s.health u := by
  cases u <;> rfl

theorem health_raiseD {code : BitVec 16} (h : rankOf code ≠ 3) (data : List Byte) (u : UnitRef) (s : State) :
    (raiseD code data s).health u = s.health u := by
  obtain ⟨l, hl⟩ := raiseD_log h data s
  rw [hl, health_withLog]

theorem health_raiseS {code : BitVec 16} (h : rankOf code ≠ 3) (i : Sleeve) (data : List Byte) (u : UnitRef) (s : State) :
    (raiseS code i data s).health u = s.health u := by
  obtain ⟨l, hl⟩ := raiseS_log h i data s
  rw [hl, health_withLog]

theorem health_modFloor (f : Floor → Floor) (u : UnitRef) (s : State) : (modFloor f s).health u = s.health u := by
  cases u <;> rfl

theorem health_modHealth (u : UnitRef) (f : Health → Health) (s : State) : (modHealth u f s).health u = f (s.health u) := by
  cases u with
  | inst i k =>
    show ((vmod s.fabric.insts i fun v => vmod v k fun x => { x with health := f x.health }).get i |>.get k).health = _
    rw [vget_vmod_same, vget_vmod_same]
    rfl
  | thread t => exact congrArg ThreadSt.health (vget_vmod_same s.threads t _)
  | aes k => exact congrArg AesCore.health (vget_vmod_same s.fabric.cores k _)
  | sha k => exact vget_vmod_same s.digest.cores k f
  | bank b => exact congrArg Bank.health (vget_vmod_same s.pool.banks b _)
  | lane k => exact congrArg Lane.health (vget_vmod_same s.ports.lanes k _)
  | port p => exact congrArg PortSt.health (vget_vmod_same s.ports.ports p _)
  | slot k => exact congrArg Slot.health (vget_vmod_same s.slots k _)
  | sleeve i => exact congrArg SleeveSt.health (vget_vmod_same s.sleeves i _)

theorem health_modThread {t : Thread} {f : ThreadSt → ThreadSt} (h : ∀ x, (f x).health = x.health) (s : State) :
    (modThread t f s).health (.thread t) = s.health (.thread t) :=
  (congrArg ThreadSt.health (thread_modThread_same t f s)).trans (h _)

/-- The units that a fault takes out of service with no effect on others: threads, cores, banks, slots and instances. -/
def UnitRef.plain : UnitRef → Bool
  | .thread _ | .aes _ | .sha _ | .bank _ | .slot _ | .inst _ _ => true
  | _ => false

theorem retireNow_plain (hu : u.plain = true) (s : State) : retireNow u s = retireUnit u s := by
  cases u with
  | thread _ | aes _ | sha _ | bank _ | slot _ | inst _ _ => rfl
  | lane _ | port _ | sleeve _ => nomatch hu

theorem health_startRetest (hu : u.plain = true) (s : State) : (startRetest u s).health u = { s.health u with retest := true } := by
  have hmark := health_modHealth u (fun h => { h with retest := true }) s
  cases u with
  | thread t =>
    rw [startRetest_thread]
    split
    · exact hmark
    · exact (health_modThread (by intro _; rfl) _).trans hmark
  | aes _ | sha _ | bank _ | slot _ | inst _ _ => exact hmark
  | lane _ | port _ | sleeve _ => nomatch hu

theorem health_dropTest (hu : u.plain = true) (s : State) : (dropTest u s).health u = s.health u := by
  cases u with
  | inst i k =>
    show ((vmod s.fabric.insts i fun v => vmod v k _).get i |>.get k).health = _
    rw [vget_vmod_same, vget_vmod_same]
    rfl
  | slot k =>
    show (Slot.health ((vmod s.slots k fun x => { x with hash := 0, inner := [], outer := [] }).get k)) = _
    rw [vget_vmod_same]
    rfl
  | thread t => exact health_modThread (by intro _; rfl) s
  | aes _ | sha _ | bank _ => rfl
  | lane _ | port _ | sleeve _ => nomatch hu

theorem health_retireEvent (hu : u.plain = true) (s : State) : (retireEvent u s).health u = s.health u := by
  cases u with
  | thread t => exact (health_raiseD (by decide) _ _ _).trans rfl
  | aes k => exact (health_raiseD (by decide) _ _ _).trans rfl
  | sha k =>
    unfold retireEvent
    dsimp only
    split
    · exact (health_raiseD (by decide) _ _ _).trans rfl
    · exact (health_raiseD (by decide) _ _ _).trans rfl
  | bank b => exact (health_raiseD (by decide) _ _ _).trans rfl
  | slot k => exact health_raiseS (by decide) _ _ _ _
  | inst i k => exact health_raiseS (by decide) _ _ _ _
  | lane _ | port _ | sleeve _ => nomatch hu

/-- What follows the loss of a retired unit's state leaves a view that its steps leave one by one. -/
theorem retireTail_keeps {α : Type} {view : State → α} {u : UnitRef} (hlog : ∀ l s, view { s with log := l } = view s)
    (hlining : ∀ f s, view (modLining f s) = view s)
    (hfloor : ∀ e s, view (modFloor (fun f => { f with evt := f.evt ||| e }) s) = view s)
    (hevent : ∀ s, view (retireEvent u s) = view s) (s : State) : view (retireUnit u s) =
      view (dropTest u (modHealth u (fun h => { h with st := .retired, retest := false, unhandled := false, again := false }) s)) := by
  have hraise {code : BitVec 16} (h : rankOf code ≠ 3) (t : State) : view (raise code t) = view t := by
    obtain ⟨l, hl⟩ := raiseD_log h [] t
    rw [raise, hl, hlog]
  have hpend (c : Commit) (t : State) : view (pend c t) = view t := by
    unfold pend
    split
    · exact hlining _ t
    · exact hraise (by decide) t
  have hnote (b : Bool) (t : State) :
      view (when' b (fun t => raise 0x5033 (modFloor (fun f => { f with evt := f.evt ||| 0x04 }) t)) t) = view t := by
    cases b with
    | false => rfl
    | true => exact (hraise (by decide) _).trans (hfloor _ t)
  unfold retireUnit
  dsimp only
  exact (hpend _ _).trans ((hnote _ _).trans (hevent _))

/-- A view that the steps of a retirement leave one by one is left by the retirement. -/
theorem retireUnit_keeps {α : Type} {view : State → α} {u : UnitRef} (hlog : ∀ l s, view { s with log := l } = view s)
    (hlining : ∀ f s, view (modLining f s) = view s)
    (hfloor : ∀ e s, view (modFloor (fun f => { f with evt := f.evt ||| e }) s) = view s)
    (hhealth : ∀ f s, view (modHealth u f s) = view s) (hdrop : ∀ s, view (dropTest u s) = view s)
    (hevent : ∀ s, view (retireEvent u s) = view s) (s : State) : view (retireUnit u s) = view s :=
  (retireTail_keeps hlog hlining hfloor hevent s).trans ((hdrop _).trans (hhealth _ s))

/-- A retired unit is retired. -/
theorem retireUnit_retired (hu : u.plain = true) (s : State) : ((retireUnit u s).health u).st = .retired := by
  have htail := retireTail_keeps (u := u) (view := fun t => t.health u) (fun l t => health_withLog u l t)
    (fun _ _ => by cases u <;> rfl) (fun _ t => health_modFloor _ u t) (fun t => health_retireEvent hu t) s
  rw [htail, health_dropTest hu, health_modHealth]

/-- A unit whose recovery decides on its own health alone: its retirement retires it, its re-test only marks it. -/
structure UnitRef.Contained (u : UnitRef) : Prop where
  retires : ∀ s, ((retireNow u s).health u).st = .retired
  retests : ∀ s, (startRetest u s).health u = { s.health u with retest := true }

theorem contained_of_plain (hu : u.plain = true) : u.Contained where
  retires s := by rw [retireNow_plain hu, retireUnit_retired hu]
  retests := health_startRetest hu

/-- A fault of a unit that is not retired leaves it in quarantine, or retired. -/
theorem handleUnit_out (hu : u.Contained) {s : State} (hst : (s.health u).st ≠ .inService) (at_ : Nat) :
    ((handleUnit u at_ s).health u).st ≠ .inService := by
  have hretire : ((retireNow u s).health u).st ≠ .inService := by
    rw [hu.retires]
    decide
  have hretest {f : Health → Health} (hf : ∀ h, (f h).st = h.st) : ((startRetest u (modHealth u f s)).health u).st ≠ .inService := by
    rw [hu.retests, health_modHealth]
    dsimp only
    rwa [hf]
  unfold handleUnit
  dsimp only
  split
  · split
    · rw [health_modHealth]
      exact hst
    · split
      · exact hretire
      · split
        · exact hretest (by intro _; rfl)
        · split
          · exact hretire
          · exact hretest (by intro _; rfl)
  · exact hst

theorem offerUnit_out (hu : u.Contained) {code : BitVec 16} (h3 : rankOf code ≠ 3) (src : Nat) (data : List Byte) {s : State}
    (hst : (s.health u).st ≠ .inService) : ((offerUnit u code src data s).health u).st ≠ .inService := by
  obtain ⟨l, heq | ⟨at_, heq⟩⟩ := offerUnit_cases h3 u src data s
  · rw [heq, health_withLog]
    exact hst
  · rw [heq]
    exact handleUnit_out hu (by rwa [health_withLog]) at_

theorem faultUnit_out (hu : u.Contained) {code : BitVec 16} (h3 : rankOf code ≠ 3) (src : Nat) (data : List Byte) (s : State) :
    ((faultUnit u code src data s).health u).st ≠ .inService := by
  unfold faultUnit
  dsimp only
  cases hst : (s.health u).st with
  | retired => simp [hst]
  | quarantined =>
    dsimp only
    split
    · rw [health_modHealth]
      simp [hst]
    · refine offerUnit_out hu h3 src data ?_
      rw [health_modHealth]
      simp [hst]
  | inService =>
    refine offerUnit_out hu h3 src data ?_
    rw [health_modHealth]
    simp

end

/-! ### Banks that fault, drain and recover -/

section
variable {b : Fin 16}

theorem scars_retireUnit_bank (s : State) : (retireUnit (.bank b) s).pool.scars = s.pool.scars :=
  retireUnit_keeps (u := .bank b) (view := fun t => t.pool.scars) (fun _ _ => rfl) (fun _ _ => rfl) (fun _ _ => rfl) (fun _ _ => rfl)
    (fun _ => rfl) (fun t => (scars_raiseD (by decide) _ _).trans (scars_noteEvt t.pool (by decide))) s

theorem torn_of_scars {p q : Pool} (h : p.scars = q.scars) : p.torn = q.torn := (Prod.mk.inj h).1

theorem corr_of_scars {p q : Pool} (h : p.scars = q.scars) : p.corr = q.corr := by
  obtain ⟨-, h⟩ := Prod.mk.inj h
  obtain ⟨-, h⟩ := Prod.mk.inj h
  obtain ⟨-, h⟩ := Prod.mk.inj h
  exact (Prod.mk.inj h).1

theorem scars_faultBank {code : BitVec 16} (h : rankOf code ≠ 3) (src : Nat) (data : List Byte) (s : State) :
    (faultUnit (.bank b) code src data s).pool.scars = s.pool.scars :=
  faultUnit_keeps (u := .bank b) (view := fun t => t.pool.scars) (fun _ _ => rfl) (fun _ _ => rfl) (fun _ => rfl)
    (fun t => scars_retireUnit_bank (b := b) t) h src data s

theorem bank_modBank (b : Fin 16) (f : Bank → Bank) (s : State) : (modBank b f s).pool.banks.get b = f (s.pool.banks.get b) :=
  vget_vmod_same _ _ _

theorem banks_of_stores {s t : State} (h : t.pool.stores = s.pool.stores) : t.pool.banks = s.pool.banks := by
  simpa only [Pool.stores] using congrArg Pool.banks h

theorem banks_recut (s : State) : (recut s).pool.banks = s.pool.banks := by
  unfold recut
  extract_lets c up t
  refine (banks_of_stores (stores_judge _)).trans ?_
  split
  · rw [pool_raiseA (code := 0x2088) (by decide) _ (act := alert 0 0x02) (fun _ => rfl)]
    rfl
  · rfl

/-- A masked bank is masked, and keeps its health. -/
theorem maskBank_masks (s : State) : ((maskBank b s).pool.banks.get b).masked = true ∧
    ((maskBank b s).pool.banks.get b).health = (s.pool.banks.get b).health := by
  unfold maskBank
  split
  case isTrue h => exact ⟨h, rfl⟩
  case isFalse =>
    rw [banks_recut]
    exact ⟨congrArg Bank.masked (bank_modBank b _ _), (congrArg Bank.health (bank_modBank b _ _)).trans rfl⟩

theorem unmaskBank_unmasks (s : State) : ((unmaskBank b s).pool.banks.get b).masked = false ∧
    ((unmaskBank b s).pool.banks.get b).health = (s.pool.banks.get b).health := by
  unfold unmaskBank
  rw [banks_recut]
  have hbank := bank_modBank b (fun x => { x with masked := false, scrub := false, errors := [] }) s
  exact ⟨(congrArg Bank.masked hbank :), (congrArg Bank.health hbank :)⟩

/-- The list of a bank's errors of the last second, with `n` more. -/
theorem errors_below {n now : Nat} {recent : List Nat} (h : n + recent.length < 16) :
    (List.replicate (min 16 n) now ++ recent).take 16 = List.replicate n now ++ recent := by
  rw [Nat.min_eq_right (by omega), List.take_of_length_le (by rw [List.length_append, List.length_replicate]; omega)]

theorem errors_full {n now : Nat} {recent : List Nat} (h : 16 ≤ n + recent.length) :
    ¬ ((List.replicate (min 16 n) now ++ recent).take 16).length < 16 := by
  rw [List.length_take, List.length_append, List.length_replicate]
  omega

/-- Settles O54: the account of errors is a view that the recovery keeps, and the bank's health one that it changes. -/
theorem banksRecover : Obligations.BanksRecover := by
  refine fun b s => ⟨fun n => ⟨fun h => ?_, fun h hst hbist => ?_⟩, fun hst hretest hbist hidle => ⟨fun hrec => ?_, ?_⟩,
    fun hmask hidle hdue => ?_, fun hearly => ?_⟩
  · refine congrArg Host.Outcome.next ?_
    dsimp only
    rw [errors_below h, if_pos (.inl (by rw [List.length_append, List.length_replicate]; exact h))]
    rfl
  · obtain ⟨v, hv⟩ : ∃ v, modPool (fun q => { q with evt := q.evt ||| 0x02 }) (modBank b (fun x => { x with errors := [] })
      (modPool (fun q => { q with corr := satAdd 16 q.corr n }) s)) = v := ⟨_, rfl⟩
    obtain ⟨w, hw⟩ : ∃ w, faultUnit (.bank b) 0x2081 15 [BitVec.ofNat 8 b.val] v = w := ⟨_, rfl⟩
    obtain ⟨hmasked, hhealth⟩ := maskBank_masks (b := b) w
    have hout : (w.health (.bank b)).st ≠ .inService := hw ▸ faultUnit_out (contained_of_plain rfl) (by decide) 15 _ v
    have hscars : (maskBank b w).pool.scars = v.pool.scars :=
      (scars_maskBank b w).trans (hw ▸ scars_faultBank (by decide) 15 _ v)
    refine ⟨maskBank b w, congrArg Host.Outcome.next ((if_neg ?_).trans (by rw [← hw, ← hv])), ?_, hmasked, ?_, ?_⟩
    · rintro (hlen | hret | hb)
      · exact errors_full h hlen
      · exact absurd (hst.symm.trans hret) (by decide)
      · exact absurd (hbist.symm.trans hb) (by decide)
    · rw [hhealth]
      exact hout
    · exact (corr_of_scars hscars).trans (by rw [← hv]; rfl)
    · exact (torn_of_scars hscars).trans (by rw [← hv]; rfl)
  · obtain ⟨v, hv⟩ : ∃ v, modHealth (.bank b) (fun h => { h with st := .inService, retest := false, unhandled := false, again := false }) s = v :=
      ⟨_, rfl⟩
    have hpass : passRetest (.bank b) s = v := (if_pos hrec).trans hv
    obtain ⟨hmasked, hhealth⟩ := unmaskBank_unmasks (b := b) v
    have hpool : (raiseD 0x2082 [BitVec.ofNat 8 b.val] (unmaskBank b v)).pool = (unmaskBank b v).pool := pool_raiseD (by decide) _ _
    refine ⟨raiseD 0x2082 [BitVec.ofNat 8 b.val] (unmaskBank b v), congrArg Host.Outcome.next ((if_pos ⟨hst, hretest, hbist, hidle⟩).trans ?_),
      ?_, ?_, ?_⟩
    · rw [hrec, hpass]
      rfl
    · rw [hpool, hhealth, ← hv]
      exact congrArg Health.st (health_modHealth (.bank b) _ s)
    · rw [hpool, hmasked]
    · rw [hpool]
      exact (torn_of_scars (scars_unmaskBank b v)).trans (by rw [← hv]; rfl)
  · refine ⟨retireUnit (.bank b) s, congrArg Host.Outcome.next ((if_pos ⟨hst, hretest, hbist, hidle⟩).trans rfl), ?_⟩
    exact retireUnit_retired (u := .bank b) rfl s
  · refine congrArg Host.Outcome.next (if_pos ?_)
    rw [hmask, hidle, decide_eq_true hdue]
    rfl
  · refine congrArg Host.Outcome.next (if_neg ?_)
    rw [decide_eq_false (Nat.not_le.mpr hearly), Bool.and_false]
    decide

end

/-! ### What the fabric's own steps leave

A view that the steps of the bookkeeping leave one by one is left by the settling of the fabric, the failing of an operation and
the dropping of frames. -/

/-- What the fabric's operations do not write: the cores' health, the mismatches counted, the event bits, and of each instance
what `m` sees. -/
def Fabric.wear {β : Type} (m : Inst → β) (f : Fabric) : Vector Health 4 × Nat × BitVec 4 × Vector (Vector β 4) 8 :=
  (f.cores.map AesCore.health, f.mismatch, f.evt, f.insts.map (·.map m))

/-- Yoke without the marks that a short draw sets. -/
def Yoke.stock (y : Yoke) : Yoke := { y with short := false, evt := 0, cores := y.cores.map (fun c => { c with kat := false }) }

section
variable {β : Type} {m : Inst → β}

theorem wear_dropDrawer (f : Fabric) (id : Nat) : (f.dropDrawer id).wear m = f.wear m := by
  unfold Fabric.dropDrawer
  dsimp only
  split <;> rfl

theorem map_health {f : AesCore → AesCore} (hf : ∀ c, (f c).health = c.health) (v : Vector AesCore 4) :
    (v.map f).map AesCore.health = v.map AesCore.health := by
  rw [Vector.map_map]
  exact congrArg (fun g => v.map g) (funext hf)

theorem wear_vmod {f : Inst → Inst} (hf : ∀ x, m (f x) = m x) (i : Sleeve) (k : Fin 4) (x : Fabric) :
    ({ x with insts := vmod x.insts i (fun v => vmod v k f) } : Fabric).wear m = x.wear m := by
  unfold Fabric.wear
  dsimp only
  rw [map_vmod (fun v : Vector Inst 4 => v.map m) (g := fun v => vmod v k f) (fun v => map_vmod m hf v k)]

end

/-- A view that no step of the fabric's settling changes, where `m` does not see that an instance's exhaustion was told. -/
structure Blind {α β : Type} (m : Inst → β) (view : State → α) : Prop where
  said    : ∀ (x : Inst) c, m { x with belowSaid := c } = m x
  log     : ∀ l s, view { s with log := l } = view s
  cmds    : ∀ l s, view { s with cmds := l } = view s
  sleeves : ∀ i f s, (∀ x : SleeveSt, (f x).pushes = x.pushes) → view (modSleeve i f s) = view s
  judged  : ∀ i f s, view (judge (modPS i f s)) = view s
  yoke    : ∀ f s, (∀ y : Yoke, (f y).stock = y.stock) → view (modYoke f s) = view s
  lining  : ∀ f s, view (modLining f s) = view s
  fabric  : ∀ f s, (∀ x : Fabric, (f x).wear m = x.wear m) → view (modFabric f s) = view s

section
variable {α β : Type} {m : Inst → β} {view : State → α} (b : Blind m view)
include b

theorem Blind.raiseD {code : BitVec 16} (h : rankOf code ≠ 3) (data : List Byte) (s : State) : view (raiseD code data s) = view s := by
  obtain ⟨l, hl⟩ := raiseD_log h data s
  rw [hl, b.log]

theorem Blind.raiseS {code : BitVec 16} (h : rankOf code ≠ 3) (i : Sleeve) (data : List Byte) (s : State) :
    view (raiseS code i data s) = view s := by
  obtain ⟨l, hl⟩ := raiseS_log h i data s
  rw [hl, b.log]

theorem Blind.noteStatus (i : Sleeve) (st : Byte) (s : State) : view (noteStatus i st s) = view s := by
  unfold Machine.noteStatus
  split
  · extract_lets t
    have ht : view t = view s := b.sleeves _ _ _ (by intro _; rfl)
    split
    · rw [b.raiseS (by decide), b.sleeves _ _ _ (by intro _; rfl), ht]
    · exact ht
  · split
    · extract_lets t
      have ht : view t = view s := b.sleeves _ _ _ (by intro _; rfl)
      split
      · rw [b.raiseS (by decide), b.sleeves _ _ _ (by intro _; rfl), ht]
      · exact ht
    · rfl

theorem Blind.answerP (k : Nat) (st : Byte) (payload : List Byte) (ps : List Nat) (n : Nat) (s : State) :
    view (answerP k st payload ps n s) = view s := by
  unfold Machine.answerP answerWith
  cases hk : s.findCmd k with
  | none => rfl
  | some c =>
    dsimp only
    refine (b.noteStatus _ _ _).trans ((b.sleeves _ _ _ (by intro _; split <;> rfl)).trans
      ((b.sleeves _ _ _ (by intro _; rfl)).trans (b.cmds _ s)))

theorem Blind.answerOpt (c : Option Nat) (st : Byte) (payload : List Byte) (s : State) : view (answerOpt c st payload s) = view s := by
  cases c with
  | none => rfl
  | some k => exact b.answerP k st payload [] 0 s

theorem Blind.subUsed (i : Sleeve) (k : Nat) (s : State) : view (subUsed i k s) = view s := by
  unfold Machine.subUsed
  split
  · rfl
  · exact b.judged _ _ s

theorem Blind.modOp (n : Nat) (f : Op → Op) (s : State) : view (modOp n f s) = view s := b.fabric _ s (by intro _; rfl)

theorem Blind.modInst (i : Sleeve) (k : Fin 4) {f : Inst → Inst} (hf : ∀ x, m (f x) = m x) (s : State) :
    view (modInst i k f s) = view s := b.fabric _ s (fun x => wear_vmod hf i k x)

theorem Blind.releaseTags (i : Sleeve) (k : Nat) (s : State) : view (releaseTags i k s) = view s := b.fabric _ s (by intro _; rfl)

theorem Blind.removeOp (n : Nat) (s : State) : view (removeOp n s) = view s := by
  unfold Machine.removeOp
  split
  · rfl
  · extract_lets clearLane t u
    have ht : view t = view s := b.fabric _ s (fun f => by
      have hw := wear_dropDrawer (m := m) f n
      exact Prod.ext (map_health (by intro _; rfl) f.cores) ((congrArg Prod.snd hw).trans rfl :))
    have hu : view u = view s := (b.subUsed _ _ t).trans ht
    split
    · exact hu
    · exact hu
    · exact (b.releaseTags _ _ u).trans hu

theorem Blind.refuseOp (o : Op) (st : Byte) (s : State) : view (refuseOp o st s) = view s :=
  (b.answerOpt _ _ _ _).trans (b.removeOp _ s)

theorem Blind.requeue (o : Op) (s : State) : view (requeue o s) = view s :=
  (b.fabric _ _ (fun f => wear_dropDrawer f o.id)).trans ((b.modOp _ _ _).trans (b.subUsed _ _ s))

theorem Blind.noteShort (s : State) : view (noteShort s) = view s := by
  unfold Machine.noteShort
  extract_lets was t
  have ht : view t = view s := b.yoke _ s (fun y => by
    have hcores : (y.cores.mapFinIdx (fun k c hk =>
        if (s.digest.cores.get ⟨k, by omega⟩).inSvc && !c.staged.isEmpty then { c with kat := true } else c)).map
          (fun c => { c with kat := false }) = y.cores.map (fun c => { c with kat := false }) := by
      ext j hj
      simp only [Vector.getElem_map, Vector.getElem_mapFinIdx]
      split <;> rfl
    unfold Yoke.stock
    dsimp only
    rw [hcores])
  split
  · exact ht
  · exact (b.raiseD (code := 0x5053) (by decide) [] t).trans ht

theorem Blind.joinDrawers (o : Op) (units : Nat) (s : State) : view (joinDrawers o units s) = view s := by
  unfold Machine.joinDrawers
  extract_lets t
  have ht : view t = view s := (b.fabric _ _ (by intro f; split <;> rfl)).trans (b.modOp _ _ s)
  split
  · exact (b.noteShort t).trans ht
  · exact ht

theorem Blind.afterBooking (o : Op) (s : State) : view (afterBooking o s) = view s := by
  unfold Machine.afterBooking
  split
  · exact b.joinDrawers _ _ s
  · split
    · exact b.joinDrawers _ _ s
    · split <;> exact b.modOp _ _ s

theorem Blind.tryBook (o : Op) (s : State) : view (tryBook o s) = view s := by
  unfold Machine.tryBook
  split
  · exact (b.afterBooking _ _).trans ((b.modOp _ _ _).trans (b.judged _ _ s))
  · exact b.modOp _ _ s

theorem Blind.exhaust (o : Op) (s : State) : view (exhaust o s) = view s := by
  unfold Machine.exhaust
  extract_lets x t
  have ht : view t = view s := by
    unfold t
    split
    · rfl
    · exact (b.raiseS (by decide) _ _ _).trans (b.modInst _ _ (fun x => b.said x true) s)
  split
  · exact ht
  · exact (b.refuseOp _ _ t).trans ht

theorem Blind.startHead (o : Op) (s : State) : view (startHead o s) = view s := by
  have hrefuse (st : Byte) := b.refuseOp o st s
  unfold Machine.startHead
  extract_lets x
  split
  · (repeat' split) <;> first | exact hrefuse _ | exact b.joinDrawers o 3 s
  · (repeat' split) <;> first | exact hrefuse _ | exact b.joinDrawers o 3 s
  · split
    · exact hrefuse _
    · split
      · exact hrefuse _
      · exact (b.lining _ _).trans (b.modOp _ _ s)
  · split
    · exact hrefuse _
    · exact b.tryBook o s
  · (repeat' split) <;> first | exact hrefuse _ | exact b.exhaust o s | exact b.tryBook o s
  · (repeat' split) <;> first | exact hrefuse _ | exact b.exhaust o s | exact b.tryBook o s
  · split
    · exact b.tryBook o s
    · rfl

theorem Blind.fenceWaiting (s : State) : view (fenceWaiting s) = view s :=
  forAll_keeps (g := view) (fun o _ t => by
    split
    · exact b.requeue o t
    · exact b.refuseOp o stFenced t) s

theorem Blind.settleHeads (n : Nat) (s : State) : view (settleHeads n s) = view s := by
  induction n generalizing s with
  | zero => rfl
  | succ n ih =>
    unfold Machine.settleHeads
    split
    · rfl
    · rename_i o _
      exact (ih _).trans (b.startHead o s)

/-- The settling of the fabric. -/
theorem Blind.settleFabric (s : State) : view (settleFabric s) = view s := by
  unfold Machine.settleFabric
  split
  · exact (b.settleHeads _ _).trans (b.fenceWaiting s)
  · rfl

end

/-- A view that the pool's releases leave as well, and that a spoiled instance does. -/
structure Blind.Deep {α β : Type} (m : Inst → β) (view : State → α) : Prop extends Blind m view where
  spoiled  : ∀ x : Inst, m (if x.owned then { x with reseedReq := true } else { x with key := 0, v := 0, counter := 0 }) = m x
  released : ∀ ks s, view (releasePockets ks s) = view s

section
variable {α β : Type} {m : Inst → β} {view : State → α} (b : Blind.Deep m view)
include b

theorem Blind.Deep.loseLane (ps : List Nat) (s : State) : view (loseLane ps s) = view s :=
  b.fabric _ s (fun f => by
    unfold Fabric.wear
    dsimp only
    rw [map_health (by intro c; split <;> (try split) <;> rfl)])

theorem Blind.Deep.modStream (i : Sleeve) (k : Fin 4) (f : Stream → Stream) (s : State) : view (modStream i k f s) = view s :=
  b.sleeves _ _ s (by intro _; rfl)

theorem Blind.Deep.giveUpFrames (i : Sleeve) (k : Fin 4) (bad : BitVec 64 × List Place → Bool) (s : State) :
    view (giveUpFrames i k bad s) = view s := by
  unfold Machine.giveUpFrames
  dsimp only
  split
  · rfl
  · exact (b.modStream _ _ _ _).trans ((b.loseLane _ _).trans (b.released _ s))

theorem Blind.Deep.settleChain (i : Sleeve) (k : Fin 4) (s : State) : view (settleChain i k s) = view s := by
  unfold Machine.settleChain
  extract_lets t
  exact (b.modStream _ _ _ _).trans ((b.giveUpFrames _ _ _ t).trans (b.modStream _ _ _ s))

theorem Blind.Deep.dropFrames (i : Sleeve) (k : Fin 4) (bad : Place → Bool) (s : State) : view (dropFrames i k bad s) = view s :=
  (b.settleChain _ _ _).trans (b.giveUpFrames _ _ _ s)

theorem Blind.Deep.newRequest (i : Sleeve) (n k : Fin 4) (s : State) : view (newRequest i n k s) = view s := by
  unfold Machine.newRequest
  exact b.fabric _ s (by intro _; rfl)

/-- The failing of an operation. -/
theorem Blind.Deep.failOp (id : Nat) (s : State) : view (failOp id s) = view s := by
  unfold Machine.failOp
  split
  · rfl
  · rename_i o _
    dsimp only
    have hrest (ps : List Nat) : view (releasePockets ps (spoilInst o.sl o.inst (Machine.removeOp id s))) = view s :=
      (b.released _ _).trans ((b.modInst _ _ b.spoiled _).trans (b.removeOp _ s))
    split
    · split
      · exact (b.newRequest _ _ _ _).trans ((b.dropFrames _ _ _ _).trans (hrest _))
      · exact (b.dropFrames _ _ _ _).trans (hrest _)
    · exact (b.answerOpt _ _ _ _).trans ((b.released _ _).trans (b.removeOp _ s))
    · exact (b.answerOpt _ _ _ _).trans (hrest _)

theorem Blind.Deep.endAllOps (s : State) : view (endAllOps s) = view s := by
  unfold Machine.endAllOps
  split
  · refine forAll_keeps (g := view) (fun o _ t => ?_) s
    split
    · refine (b.failOp _ _).trans ?_
      unfold dropOpCommit when'
      split
      · exact b.lining _ t
      · rfl
    · split
      · rfl
      · exact b.refuseOp _ _ t
  · rfl

end

/-- A view of the pool that its counts' judging leaves. -/
theorem blind_pool {α : Type} {g : Pool → α} (hg : ∀ i f s, g (judge (modPS i f s)).pool = g s.pool) :
    Blind (fun _ => ()) (fun s => g s.pool) where
  said _ _ := rfl
  log _ _ := rfl
  cmds _ _ := rfl
  sleeves _ _ _ _ := rfl
  judged := hg
  yoke _ _ _ := rfl
  lining _ _ := rfl
  fabric _ _ _ := rfl

theorem blind_stores : Blind (fun _ => ()) (fun s => s.pool.stores) := blind_pool (fun _ _ _ => (stores_judge _).trans rfl)

theorem blind_scars : Blind.Deep (fun _ => ()) (fun s => s.pool.scars) where
  toBlind := blind_pool (fun _ _ _ => (scars_judge _).trans rfl)
  spoiled _ := rfl
  released _ _ := rfl

/-- A view of what the pool's judging leaves, the log, the commands and the sleeves apart. -/
theorem blind_calm {α β : Type} {m : Inst → β} {view : State → α} (said : ∀ (x : Inst) c, m { x with belowSaid := c } = m x)
    (hcalm : ∀ s t : State, t.calm = s.calm → view t = view s) (cmds : ∀ l s, view { s with cmds := l } = view s)
    (sleeves : ∀ i f s, (∀ x : SleeveSt, (f x).pushes = x.pushes) → view (modSleeve i f s) = view s) (yoke : ∀ f s, (∀ y : Yoke, (f y).stock = y.stock) → view (modYoke f s) = view s)
    (lining : ∀ f s, view (modLining f s) = view s)
    (fabric : ∀ f s, (∀ x : Fabric, (f x).wear m = x.wear m) → view (modFabric f s) = view s) : Blind m view where
  said := said
  log _ _ := hcalm _ _ rfl
  cmds := cmds
  sleeves := sleeves
  judged i f s := hcalm _ _ ((calm_judge _).trans (calm_modPS i f s))
  yoke := yoke
  lining := lining
  fabric := fabric

theorem blind_wear {β : Type} {m : Inst → β} (said : ∀ (x : Inst) c, m { x with belowSaid := c } = m x) :
    Blind m (fun s => s.fabric.wear m) :=
  blind_calm said (fun _ _ h => congrArg (Fabric.wear m) (fabric_of_calm h)) (fun _ _ => rfl) (fun _ _ _ _ => rfl) (fun _ _ _ => rfl)
    (fun _ _ => rfl) (fun _ s h => h s.fabric)

/-- What a spoiled instance keeps. -/
def Inst.kept (x : Inst) : Health × Bool := (x.health, x.copyOk)

theorem blind_wearKept : Blind.Deep Inst.kept (fun s => s.fabric.wear Inst.kept) where
  toBlind := blind_wear (fun _ _ => rfl)
  spoiled x := by
    split <;> rfl
  released _ _ := rfl

theorem digest_of_calm {s t : State} (h : t.calm = s.calm) : t.digest = s.digest := by
  simpa only [State.calm] using congrArg State.digest h

theorem blind_digest : Blind.Deep (fun _ => ()) (fun s => s.digest) where
  toBlind := blind_calm (fun _ _ => rfl) (fun _ _ h => digest_of_calm h) (fun _ _ => rfl) (fun _ _ _ _ => rfl) (fun _ _ _ => rfl)
    (fun _ _ => rfl) (fun _ _ _ => rfl)
  spoiled _ := rfl
  released _ _ := rfl

theorem yoke_of_calm {s t : State} (h : t.calm = s.calm) : t.yoke = s.yoke := by
  simpa only [State.calm] using congrArg State.yoke h

theorem blind_stock : Blind.Deep (fun _ => ()) (fun s => s.yoke.stock) where
  toBlind := blind_calm (fun _ _ => rfl) (fun _ _ h => congrArg Yoke.stock (yoke_of_calm h)) (fun _ _ => rfl) (fun _ _ _ _ => rfl)
    (fun _ s h => h s.yoke) (fun _ _ => rfl) (fun _ _ _ => rfl)
  spoiled _ := rfl
  released _ _ := rfl

/-! ### Claims, frees and torn pockets -/

/-- The pockets that a sleeve uses. -/
def State.usedBy (s : State) (i : Sleeve) : Nat := (s.pool.per.get i).usedCnt

theorem usedBy_modPS {f : PoolSleeve → PoolSleeve} (hf : ∀ x, (f x).usedCnt = x.usedCnt) (k i : Sleeve) (s : State) :
    (modPS k f s).usedBy i = s.usedBy i := by
  show ((vmod s.pool.per k f).get i).usedCnt = _
  by_cases h : k = i
  · rw [h, vget_vmod_same, hf]
    rfl
  · rw [vget_vmod_ne _ _ _ _ h]
    rfl

theorem usedBy_of_pool {s t : State} (h : t.pool = s.pool) (i : Sleeve) : t.usedBy i = s.usedBy i :=
  congrArg (fun p : Pool => (p.per.get i).usedCnt) h

theorem usedBy_judgeSleeve (k i : Sleeve) (s : State) : (judgeSleeve k s).usedBy i = s.usedBy i := by
  unfold judgeSleeve
  extract_lets x a t x' u
  have ht : t.usedBy i = s.usedBy i := by
    unfold t when'
    split
    · refine (usedBy_modPS (by intro _; rfl) k i _).trans ?_
      split
      · exact (usedBy_of_pool (pool_raiseS (code := 0x2086) (by decide) _ _ _) i).trans (usedBy_modPS (by intro _; rfl) k i s)
      · rfl
    · rfl
  have hu : u.usedBy i = t.usedBy i := by
    unfold u
    split
    · exact (usedBy_of_pool (pool_raiseS (code := 0x2085) (by decide) _ _ _) i).trans (usedBy_modPS (by intro _; rfl) k i t)
    · rfl
  refine Eq.trans ?_ (hu.trans ht)
  split
  · have hlow := usedBy_modPS (f := fun y => { y with low := true, evt := y.evt ||| 1 }) (by intro _; rfl) k i u
    have hoffer (w : State) (hw : w.usedBy i = u.usedBy i) : (offer (mkEv w 0x2084 k.val []) w).1.usedBy i = u.usedBy i :=
      (usedBy_of_pool (pool_offerEv (code := 0x2084) (by decide) w _ _ w) i).trans hw
    split
    · exact hoffer _ hlow
    · exact hoffer _ hlow
  · rfl

theorem usedBy_judge (i : Sleeve) (s : State) : (judge s).usedBy i = s.usedBy i := by
  have hglobal (t : State) : (judgeGlobal t).usedBy i = t.usedBy i := by
    unfold judgeGlobal
    dsimp only
    split
    · exact usedBy_of_pool (pool_raiseA (code := 0x2087) (by decide) _ (act := alert 0 0x02) (fun _ => rfl) _) i
    · split <;> rfl
  exact (hglobal _).trans (forAll_keeps (g := fun t => t.usedBy i) (fun k _ t => usedBy_judgeSleeve k i t) s)

theorem scars_losePocket (p : Nat) (s : State) : (losePocket p s).pool.scars = s.pool.scars := by
  have b := blind_scars
  unfold losePocket
  split
  · rfl
  · rename_i x _
    extract_lets i t u v
    have ht : t.pool.scars = s.pool.scars :=
      forAll_keeps (g := fun w => w.pool.scars) (fun n _ w => b.dropFrames i n _ w) s
    clear_value t
    have hu : u.pool.scars = s.pool.scars := ht
    have hv : v.pool.scars = s.pool.scars := by
      unfold v
      split
      · split
        · exact hu
        · exact (b.failOp _ u).trans hu
      · exact hu
    exact hv

theorem scars_forgetPocket (p : Nat) (s : State) : (forgetPocket p s).pool.scars = s.pool.scars := by
  unfold forgetPocket
  dsimp only
  split <;> rfl

theorem scars_retireBank (k : Fin 16) (s : State) : (retireBank k s).pool.scars = s.pool.scars := by
  unfold retireBank
  split
  · rfl
  · exact (scars_maskBank k _).trans (scars_retireUnit_bank s)

theorem scars_tornInScrub (p : Nat) (s : State) : (tornInScrub p s).pool.scars = s.pool.scars := by
  unfold tornInScrub
  dsimp only
  split
  · exact scars_retireBank _ s
  · rfl

/-- A torn pocket's account. -/
theorem scars_tearPocket {p : Nat} {s : State} (h : s.pool.torn.getLsbD p = false) :
    (tearPocket p s).pool.scars = (setPBit s.pool.torn p, p, min 65535 (s.pool.uncorr + 1), s.pool.corr, true) := by
  unfold tearPocket
  rw [if_neg (by rw [h]; decide)]
  extract_lets k owner t u v w x y
  have ht : t.pool.scars = s.pool.scars := (scars_forgetPocket p _).trans (scars_losePocket p s)
  obtain ⟨htorn, ht⟩ := Prod.mk.inj ht
  obtain ⟨-, ht⟩ := Prod.mk.inj ht
  obtain ⟨huncorr, ht⟩ := Prod.mk.inj ht
  obtain ⟨hcorr, -⟩ := Prod.mk.inj ht
  have hbit : (t.pool.evt ||| 0x01).getLsbD 0 = true := by
    rw [BitVec.getLsbD_or]
    exact Bool.or_true _
  have hu : u.pool.scars = (setPBit s.pool.torn p, p, min 65535 (s.pool.uncorr + 1), s.pool.corr, true) := by
    rw [← htorn, ← huncorr, ← hcorr, ← hbit]
    rfl
  have hv : v.pool.scars = u.pool.scars := by
    unfold v
    clear_value owner
    cases owner <;> rfl
  have hw : w.pool.scars = v.pool.scars := scars_raiseD (by decide) _ _
  have hx : x.pool.scars = w.pool.scars := by
    unfold x
    split
    · exact (scars_raiseD (code := 0x5033) (by decide) [] _).trans rfl
    · rfl
  have hy : y.pool.scars = x.pool.scars := (scars_recut _).trans (scars_of_pool (pool_pend _ x))
  refine Eq.trans ?_ (hy.trans (hx.trans (hw.trans (hv.trans hu))))
  split
  · exact scars_retireBank _ y
  · rfl

section
variable {s : State}

theorem setPBit_same {m : BitVec 4096} {p : Nat} (h : p < 4096) : (setPBit m p).getLsbD p = true := by
  rw [setPBit, BitVec.getLsbD_or, BitVec.getLsbD_twoPow]
  simp [h]

theorem clearing_of_stores {p q : Pool} (h : p.stores = q.stores) : p.clearing = q.clearing := by
  simpa only [Pool.stores] using congrArg Pool.clearing h

theorem claimed_of_stores {p q : Pool} (h : p.stores = q.stores) : p.claimed = q.claimed := by
  simpa only [Pool.stores] using congrArg Pool.claimed h

/-- A cleared pocket of a bank in use is freed. -/
theorem execPocketFree_frees {p : Fin 4096} {i : Sleeve} (hfind : s.pool.clearing.find? (fun x => x.1 == p.val) = some (p.val, i))
    (hmask : (s.pool.banks.get (bankOf p.val)).masked = false) :
    ∃ u, exec (.pocketFree p) s = .next u ∧ u.pool.free = setPBit s.pool.free p.val ∧
      u.pool.clearing = s.pool.clearing.filter (fun x => x.1 != p.val) ∧
      (u.pool.per.get i).usedCnt = (s.pool.per.get i).usedCnt - 1 ∧ u.pool.claimed = s.pool.claimed := by
  obtain ⟨v, hv⟩ : ∃ v, modPS i (fun x => { x with usedCnt := x.usedCnt - 1 }) (modPool (fun q => { q with
      clearing := q.clearing.filter (fun x => x.1 != p.val)
      free := if (q.banks.get (bankOf p.val)).masked then q.free else setPBit q.free p.val }) s) = v := ⟨_, rfl⟩
  have hstores : (judge v).pool.stores = v.pool.stores := stores_judge v
  have hfree : v.pool.free = setPBit s.pool.free p.val := by
    rw [← hv]
    show (if (s.pool.banks.get (bankOf p.val)).masked then s.pool.free else setPBit s.pool.free p.val) = _
    rw [hmask]
    rfl
  have hclearing : v.pool.clearing = s.pool.clearing.filter (fun x => x.1 != p.val) := by rw [← hv]; rfl
  have hclaimed : v.pool.claimed = s.pool.claimed := by rw [← hv]; rfl
  have hused : v.usedBy i = s.usedBy i - 1 := by
    rw [← hv]
    exact congrArg PoolSleeve.usedCnt (vget_vmod_same _ _ _)
  refine ⟨judge v, congrArg Host.Outcome.next ?_, (free_of_stores hstores).trans hfree, Eq.trans ?_ hclearing,
    (usedBy_judge i v).trans hused, Eq.trans ?_ hclaimed⟩
  · rw [hfind]
    exact (if_neg (show ¬ (1 = 0) by decide)).trans (congrArg judge hv)
  · exact clearing_of_stores hstores
  · exact claimed_of_stores hstores

/-- A pocket torn outside a read. -/
theorem execPocketTorn_inside {p : Fin 4096} (h : s.pool.torn.getLsbD p.val = false) :
    ∃ u, exec (.pocketTorn p .inside) s = .next u ∧ u.pool.torn.getLsbD p.val = true ∧ u.pool.lastTorn = p.val ∧
      u.pool.uncorr = min 65535 (s.pool.uncorr + 1) ∧ u.pool.evt.getLsbD 0 = true := by
  have hscars : (settleFabric (tornInScrub p.val (tearPocket p.val s))).pool.scars =
      (setPBit s.pool.torn p.val, p.val, min 65535 (s.pool.uncorr + 1), s.pool.corr, true) :=
    (blind_scars.settleFabric _).trans ((scars_tornInScrub _ _).trans (scars_tearPocket h))
  obtain ⟨u, hu⟩ : ∃ u, settleFabric (tornInScrub p.val (tearPocket p.val s)) = u := ⟨_, rfl⟩
  rw [hu] at hscars
  obtain ⟨htorn, hscars⟩ := Prod.mk.inj hscars
  obtain ⟨hlast, hscars⟩ := Prod.mk.inj hscars
  obtain ⟨huncorr, hscars⟩ := Prod.mk.inj hscars
  obtain ⟨-, hevt⟩ := Prod.mk.inj hscars
  refine ⟨u, congrArg Host.Outcome.next ((if_neg ?_).trans hu), ?_, hlast, huncorr, hevt⟩
  · rw [h]
    decide
  · rw [htorn]
    exact setPBit_same p.isLt

/-- The tag that a stream's first unsealed record gets. -/
theorem sealTag_putTag {x : Stream} {r : BitVec 64} {z : Seal} (h : x.sealOf r = some z) (tag : Option (List Byte)) :
    (putTag r tag x).sealTag r = tag := by
  have hmap : ∀ l : List Seal, l.find? (fun z => z.record == r) = some z →
      (l.map (fun z => if z.record == r then { z with tag := tag } else z)).find? (fun z => z.record == r) = some { z with tag := tag } := by
    intro l
    induction l with
    | nil => exact nofun
    | cons y l ih =>
      intro hl
      cases hy : (y.record == r) with
      | true =>
        rw [List.find?_cons, hy] at hl
        obtain rfl := Option.some.inj hl
        rw [List.map_cons, if_pos hy, List.find?_cons]
        dsimp only
        rw [hy]
      | false =>
        rw [List.find?_cons, hy] at hl
        rw [List.map_cons, if_neg (by rw [hy]; decide), List.find?_cons, hy]
        exact ih hl
  unfold Stream.sealTag Stream.sealOf putTag
  rw [hmap x.seals h]
  rfl

theorem sealOf_of_sealNow {x : Stream} {q : BitVec 64 × List Place} {key : List Byte × List Byte} (h : x.sealNow q = some key) :
    ∃ z, x.sealOf q.1 = some z := by
  unfold Stream.sealNow at h
  cases hz : x.sealOf q.1 with
  | some z => exact ⟨z, rfl⟩
  | none =>
    rw [hz] at h
    split at h <;> nomatch h

theorem stream_modStream (i : Sleeve) (n : Fin 4) (f : Stream → Stream) (s : State) :
    ((modStream i n f s).sleeve i).streams.get n = f ((s.sleeve i).streams.get n) := by
  have hsleeve : (modStream i n f s).sleeve i = { s.sleeve i with streams := vmod (s.sleeve i).streams n f } := vget_vmod_same _ _ _
  rw [hsleeve]
  exact vget_vmod_same _ _ _

/-- The first built record whose seal can be made gets it. -/
theorem execStreamSealDone_seals {i : Sleeve} {n : Fin 4} {q : BitVec 64 × List Place} {key : List Byte × List Byte}
    (hfind : ((s.sleeve i).streams.get n).numbered.find? (fun r => (((s.sleeve i).streams.get n).sealNow r).isSome) = some q)
    (hkey : ((s.sleeve i).streams.get n).sealNow q = some key) (hup : s.svcUp = true) :
    ∃ u, exec (.streamSealDone i n) s = .next u ∧
      ((u.sleeve i).streams.get n).sealTag q.1 = some ((hmacWith 0 key.1 key.2 (s.sealMessage i n q)).take 16) ∧
      ((u.sleeve i).streams.get n).chain = ((s.sleeve i).streams.get n).chain ∧ u.pool = s.pool := by
  obtain ⟨z, hz⟩ := sealOf_of_sealNow hkey
  obtain ⟨tag, htag⟩ : ∃ tag, (hmacWith 0 key.1 key.2 (s.sealMessage i n q)).take 16 = tag := ⟨_, rfl⟩
  obtain ⟨v, hv⟩ : ∃ v, modStream i n (putTag q.1 (some tag)) s = v := ⟨_, rfl⟩
  have hstream : (v.sleeve i).streams.get n = putTag q.1 (some tag) ((s.sleeve i).streams.get n) := hv ▸ stream_modStream i n _ s
  refine ⟨noteSeal ⟨i, n, ((s.sleeve i).streams.get n).run, q.1⟩ v, congrArg Host.Outcome.next ?_, ?_, ?_, ?_⟩
  · dsimp only
    rw [hfind]
    dsimp only
    rw [hkey]
    dsimp only
    rw [hup, htag, hv]
    rfl
  · rw [htag]
    show ((v.sleeve i).streams.get n).sealTag q.1 = _
    rw [hstream, sealTag_putTag hz]
  · show ((v.sleeve i).streams.get n).chain = _
    rw [hstream]
    rfl
  · show v.pool = _
    rw [← hv]
    rfl

end

section
variable {s : State} {o : Op} {p : Nat}

/-- A list of pockets that a pocket was inserted into holds it. -/
theorem mem_insertPocket (x : Pocket) (l : List Pocket) : x ∈ insertPocket x l := by
  induction l with
  | nil => exact List.mem_singleton_self x
  | cons y l ih =>
    unfold insertPocket
    split
    · exact List.mem_cons_self
    · exact List.mem_cons_of_mem _ ih

/-- A filled pocket holds what filled it. -/
theorem pocket_fillPocket {v : State} {x : Pocket} (hx : x ∈ v.pool.claimed) (hp : x.index = p) (data : List Byte) :
    ∃ y, (fillPocket p data v).pocket p = some y ∧ y.bytes = data ∧ y.filled = true := by
  have hmem : ({ x with bytes := data, filled := true } : Pocket) ∈
      v.pool.claimed.map (fun x => if x.index = p then { x with bytes := data, filled := true } else x) := by
    refine List.mem_map.mpr ⟨x, hx, ?_⟩
    rw [if_pos hp]
  cases hfind : (fillPocket p data v).pocket p with
  | none =>
    have := List.find?_eq_none.mp hfind _ hmem
    simp [hp] at this
  | some y =>
    refine ⟨y, rfl, ?_⟩
    obtain ⟨y', -, hy⟩ := List.mem_map.mp (List.mem_of_find?_eq_some hfind)
    have hindex : y.index = p := by simpa using List.find?_some hfind
    by_cases h : y'.index = p
    · rw [if_pos h] at hy
      rw [← hy]
      exact ⟨rfl, rfl⟩
    · rw [if_neg h] at hy
      exact absurd (hy ▸ hindex) h

theorem pocket_of_stores {s t : State} (h : t.pool.stores = s.pool.stores) (k : Nat) : t.pocket k = s.pocket k :=
  congrArg (fun l : List Pocket => l.find? (fun x : Pocket => x.index == k)) (claimed_of_stores h)

theorem seedIntoPocket_stores (data : List Byte) (v : State) :
    (seedIntoPocket o p data v).pool.stores = (fillPocket p data v).pool.stores := by
  have b := blind_stores
  unfold seedIntoPocket
  extract_lets made t u
  have hu : u.pool.stores = t.pool.stores := b.modOp _ _ t
  split
  · refine (b.settleFabric _).trans ?_
    have hremove := (b.removeOp o.id u).trans hu
    split
    · exact (b.answerP _ _ _ _ _ _).trans hremove
    · exact hremove
  · exact hu

/-- A place that an operation fills moves to its core's counter lane. -/
theorem placePocket_lane (k : Fin 4) (v : State) :
    (placePocket o k p v).pool.free = v.pool.free ∧ (placePocket o k p v).fabric.claims = v.fabric.claims ∧
      ((placePocket o k p v).fabric.cores.get k).counter.op = some o.id ∧
      (o.isStream = false → ((placePocket o k p v).fabric.cores.get k).counter = .pocket o.id p) := by
  have hwork (q : Nat) (w : State) :
      ((modCore k (fun c => { c with counter := .pocket o.id q }) w).fabric.cores.get k).counter = .pocket o.id q :=
    congrArg AesCore.counter (vget_vmod_same _ _ _)
  unfold placePocket
  extract_lets t work
  cases hkind : o.kind with
  | stream n =>
    dsimp only
    have hstream : o.isStream = true := by rw [Op.isStream, hkind]
    split
    · exact ⟨rfl, rfl, congrArg LaneWork.op (hwork p _), fun h => absurd (hstream.symm.trans h) (by decide)⟩
    · exact ⟨rfl, rfl, congrArg LaneWork.op (hwork 4096 _), fun h => absurd (hstream.symm.trans h) (by decide)⟩
  | _ => exact ⟨rfl, rfl, congrArg LaneWork.op (hwork p _), fun _ => hwork p _⟩

/-- A claim that waits takes the lowest free pocket. -/
theorem serveClaim_serves {c : StalledClaim} {w : State} :
    (serveClaim c o p w).pool.free = w.pool.free ∧
      (∀ k, c.core = some k → (serveClaim c o p w).fabric.claims = w.fabric.claims ∧
        ((serveClaim c o p w).fabric.cores.get k).counter.op = some o.id ∧
        (o.isStream = false → ((serveClaim c o p w).fabric.cores.get k).counter = .pocket o.id p)) ∧
      (∀ x ∈ w.pool.claimed, x.index = p → c.core = none →
        ∃ y, (serveClaim c o p w).pocket p = some y ∧ y.bytes = c.data ∧ y.filled = true) := by
  have b := blind_stores
  unfold serveClaim
  cases hcore : c.core with
  | some k =>
    obtain ⟨hfree, hclaims, hop, hcounter⟩ := placePocket_lane (o := o) (p := p) k w
    refine ⟨hfree, fun k' hk => ?_, fun _ _ _ => nofun⟩
    obtain rfl := Option.some.inj hk
    exact ⟨hclaims, hop, hcounter⟩
  | none =>
    dsimp only
    obtain ⟨t, ht⟩ : ∃ t, seedIntoPocket o p c.data w = t := ⟨_, rfl⟩
    have hseed : t.pool.stores = (fillPocket p c.data w).pool.stores := ht ▸ seedIntoPocket_stores c.data w
    rw [ht]
    obtain ⟨u, hu⟩ : ∃ u, (match t.findOp o.id with | some q => joinDrawers q q.grantUnits t | none => t) = u := ⟨_, rfl⟩
    have hstores : u.pool.stores = (fillPocket p c.data w).pool.stores := by
      rw [← hu]
      split
      · exact (b.joinDrawers _ _ t).trans hseed
      · exact hseed
    refine ⟨?_, fun _ => nofun, fun x hx hp _ => ?_⟩
    · exact (congrArg (fun v : State => v.pool.free) hu).trans ((free_of_stores hstores).trans rfl)
    · obtain ⟨y, hy, hbytes⟩ := pocket_fillPocket (v := w) hx hp c.data
      exact ⟨y, (congrArg (fun v : State => v.pocket p) hu).trans ((pocket_of_stores hstores p).trans hy), hbytes⟩

theorem ops_claimRound (f : Fabric) : f.claimRound.ops = f.ops := by
  unfold Fabric.claimRound
  split <;> rfl

theorem execPocketClaim_late {n : Nat} {c : StalledClaim} (hc : s.fabric.claimRound.claims[n]? = some c) (hlate : c.late = true) :
    exec (.pocketClaim n) s = .next (modFabric Fabric.claimRound s) := by
  refine congrArg Host.Outcome.next ?_
  dsimp only
  rw [show (modFabric Fabric.claimRound s).fabric.claims[n]? = some c from hc]
  exact if_pos hlate

theorem execPocketClaim_claims {n : Nat} {c : StalledClaim} (hc : s.fabric.claimRound.claims[n]? = some c) (hlate : c.late = false)
    (ho : s.findOp c.op = some o) (hp : s.pool.lowestFree = some p) :
    exec (.pocketClaim n) s = .next (serveClaim c o p (modFabric (fun f => { f with claims := f.claims.eraseIdx n })
      (modPool (fun q => { q with free := clearPBit q.free p, claimed := insertPocket ⟨p, o.sl, [], false⟩ q.claimed })
        (modFabric Fabric.claimRound s)))) := by
  have hop : (modFabric Fabric.claimRound s).findOp c.op = some o := by
    rw [State.findOp]
    exact (congrArg (fun l : List Op => l.find? (fun o : Op => o.id == c.op)) (ops_claimRound s.fabric)).trans ho
  refine congrArg Host.Outcome.next ?_
  dsimp only
  rw [show (modFabric Fabric.claimRound s).fabric.claims[n]? = some c from hc]
  dsimp only
  rw [hlate, hop]
  dsimp only
  rw [claimPocket, show (modFabric Fabric.claimRound s).pool.lowestFree = some p from hp]
  rfl

/-- Settles O53: each row of the pool by the lemma about what it does. -/
theorem pocketsMove : Obligations.PocketsMove := by
  refine fun s => ⟨?_, fun p i hfind hmask => execPocketFree_frees hfind hmask, fun p h => execPocketTorn_inside h,
    fun p r h => congrArg Host.Outcome.next (if_pos h), fun i h => congrArg Host.Outcome.next (if_pos h), ?_⟩
  · intro n c v hc
    refine ⟨execPocketClaim_late hc, fun o p hlate ho hp => ?_⟩
    obtain ⟨w, hw⟩ : ∃ w, modFabric (fun f => { f with claims := f.claims.eraseIdx n })
      (modPool (fun q => { q with free := clearPBit q.free p, claimed := insertPocket ⟨p, o.sl, [], false⟩ q.claimed })
        (modFabric Fabric.claimRound s)) = w := ⟨_, rfl⟩
    obtain ⟨hfree, hcore, hnone⟩ := serveClaim_serves (o := o) (p := p) (c := c) (w := w)
    refine ⟨serveClaim c o p w, (execPocketClaim_claims hc hlate ho hp).trans (by rw [hw]), hfree.trans ?_, fun k hk => ?_, ?_⟩
    · rw [← hw]
      rfl
    · obtain ⟨hclaims, hop, hcounter⟩ := hcore k hk
      exact ⟨hclaims.trans (by rw [← hw]; rfl), hop, hcounter⟩
    · exact hnone ⟨p, o.sl, [], false⟩ (by rw [← hw]; exact mem_insertPocket _ _) rfl
  · intro i n q key x hfind hkey hup
    exact execStreamSealDone_seals hfind hkey hup

end

/-! ### A pocket that is free and held at once

The statement about grants speaks of every state. In one whose map shows a pocket as free that another sleeve still holds, the
grant leaves that sleeve's pocket in front. -/

/-- A GENERATE of sleeve 0 that waits for its pocket. -/
def waitingGenerate : Op where
  id := 0
  sl := 0
  inst := 0
  kind := .generate
  addl := []
  addlNow := none
  nbytes := 64
  urgent := false
  pr := false
  cmd := none
  phase := .output
  began := true
  passedOver := 0
  booked := 1
  pockets := []
  made := 0
  seed := []
  leaving := false

/-- A serving module whose only free pocket, pocket 0, is also in the hands of sleeve 1. -/
def heldTwice : State :=
  { State.reset with
    power := { Power.reset with phase := .serving }
    pool := { Pool.reset with free := 1, claimed := [⟨0, 1, [], false⟩] }
    fabric := { Fabric.reset with ops := [waitingGenerate] } }

theorem heldTwice_settled : finishCounter 0 heldTwice = modCore 0 (fun c => { c with counter := .idle }) heldTwice := rfl

theorem heldTwice_lowestFree : heldTwice.pool.lowestFree = some 0 := by decide +kernel

/-- The pocket that is found under a number after a row. -/
def pocketAfter (r : Res) (p : Nat) : Option Pocket :=
  match r with
  | .next u => u.pocket p
  | _ => none

/-- The grant at the boundary of core 0 leaves pocket 0 in the hands of sleeve 1. -/
theorem heldTwice_grant : pocketAfter (exec (.pocketGrant 0) heldTwice) 0 = some ⟨0, 1, [], false⟩ := by decide +kernel

/-- Refutes O52: where the free map and the claimed pockets disagree, the pocket that a grant takes is found with another owner. -/
theorem not_fabricGrants : ¬ Obligations.FabricGrants := by
  intro h
  obtain ⟨hgrants, -⟩ := h heldTwice 0 rfl
  obtain ⟨hnow, -⟩ := hgrants waitingGenerate 0 (by rw [heldTwice_settled]; rfl) (by rw [heldTwice_settled]; rfl)
    (by rw [heldTwice_settled]; decide) (by rw [heldTwice_settled]; rfl)
  obtain ⟨u, hu, -, -, -, -, howner⟩ := hnow (by rw [heldTwice_settled]; rfl) (by rw [heldTwice_settled]; exact heldTwice_lowestFree)
  have hpocket := heldTwice_grant
  rw [hu] at hpocket
  exact absurd (howner _ hpocket) (by decide)

end Sys2Proof.Machine
end

section
/-! SUPPORT. Yoke's bytes, blocks and units. -/

namespace Sys2Proof.Machine

/-! ### Bytes, blocks and units -/

section
variable {α β : Type} {m : Inst → β} {view : State → α}

theorem Blind.Deep.refuseDraws (b : Blind.Deep m view) (s : State) : view (refuseDraws s) = view s :=
  forAll_keeps (g := view) (fun o _ t => by
    split
    · exact b.requeue o t
    · exact (b.released _ _).trans (b.refuseOp _ _ t)) s

/-- The fall below the floor is told: event 0x5040, and every sleeve's alert where the event is not lost (R176). -/
def tellFall (s : State) : State :=
  let r := offer (mkEv s 0x5040 15 []) s
  if r.2 then forAll allSleeves (fun i => alert i 0x40) r.1 else r.1

theorem Blind.tellFall (b : Blind m view) (s : State) : view (tellFall s) = view s := by
  have hoffer : view (offer (mkEv s 0x5040 15 []) s).1 = view s := b.raiseD (code := 0x5040) (by decide) [] s
  unfold Machine.tellFall
  dsimp only
  split
  · exact (forAll_keeps (g := view) (fun i _ w => b.sleeves i _ w (by intro _; rfl)) _).trans hoffer
  · exact hoffer

theorem judgeFloor_eq (s : State) : judgeFloor s =
    if !s.ready then s
    else if s.isBelow s.creditSum then
      if s.floor.below then modFloor (fun f => { f with okSince := none }) s
      else refuseDraws (tellFall (modFloor (fun f => { f with below := true, evt := f.evt ||| 0x08 })
        (modFloor (fun f => { f with okSince := none }) s)))
    else if s.floor.okSince.isNone then modFloor (fun f => { f with okSince := some s.now }) s
    else s := rfl

/-- The judging of the floor. -/
theorem Blind.Deep.judgeFloor (b : Blind.Deep m view) (hfloor : ∀ f s, view (modFloor f s) = view s) (s : State) :
    view (judgeFloor s) = view s := by
  rw [judgeFloor_eq]
  split
  · rfl
  · split
    · split
      · exact hfloor _ s
      · exact (b.refuseDraws _).trans ((b.tellFall _).trans ((hfloor _ _).trans (hfloor _ s)))
    · split
      · exact hfloor _ s
      · rfl

end

section
variable {s : State} {k : Fin 4}

theorem reservoir_of_stock {y z : Yoke} (h : y.stock = z.stock) : y.reservoir = z.reservoir := by
  simpa only [Yoke.stock] using congrArg Yoke.reservoir h

theorem discCount_of_stock {y z : Yoke} (h : y.stock = z.stock) : y.discCount = z.discCount := by
  simpa only [Yoke.stock] using congrArg Yoke.discCount h

theorem staged_of_stock {y z : Yoke} (h : y.stock = z.stock) (k : Fin 4) : (y.cores.get k).staged = (z.cores.get k).staged := by
  have hcores : y.cores.map (fun c : CondCore => { c with kat := false }) = z.cores.map (fun c : CondCore => { c with kat := false }) := by
    simpa only [Yoke.stock] using congrArg Yoke.cores h
  have hk := congrArg (fun v : Vector CondCore 4 => v[k.val].staged) hcores
  simp only [Vector.getElem_map] at hk
  exact hk

/-- The fault of a conditioning core leaves Yoke's stock. -/
theorem stock_faultCond {code : BitVec 16} (h : rankOf code ≠ 3) (src : Nat) (data : List Byte) (s : State) :
    (faultUnit (.sha (condSha k)) code src data s).yoke.stock = s.yoke.stock := by
  have hevent (t : State) : (retireEvent (.sha (condSha k)) t).yoke.stock = t.yoke.stock := by
    unfold retireEvent
    dsimp only
    split
    · exact (blind_stock.raiseD (code := 0x5051) (by decide) _ _).trans rfl
    · exact (blind_stock.raiseD (code := 0x3003) (by decide) _ _).trans rfl
  exact faultUnit_keeps (u := .sha (condSha k)) (view := fun t => t.yoke.stock) (fun _ _ => rfl) (fun _ _ => rfl) (fun _ => rfl)
    (retireUnit_keeps (u := .sha (condSha k)) (view := fun t => t.yoke.stock) (fun _ _ => rfl) (fun _ _ => rfl) (fun _ _ => rfl)
      (fun _ _ => rfl) (fun _ => rfl) hevent) h src data s

/-- A conditioning core that fails its test leaves service, with nothing staged. -/
theorem condKatEnd_fails (hst : (s.digest.cores.get (condSha k)).st = .inService) (hkat : (s.yoke.cores.get k).kat = true) :
    ∃ u, exec (.condKatEnd k false) s = .next u ∧ (u.yoke.cores.get k).staged = [] ∧
        u.yoke.reservoir = s.yoke.reservoir ∧ (u.digest.cores.get (condSha k)).st ≠ .inService ∧
        u.yoke.discCount = min 65535 (s.yoke.discCount + (s.yoke.cores.get k).staged.length) := by
  obtain ⟨v, hv⟩ : ∃ v, discardStaged k s = v := ⟨_, rfl⟩
  obtain ⟨w, hw⟩ : ∃ w, faultUnit (.sha (condSha k)) 0x5050 15 [BitVec.ofNat 8 k.val] v = w := ⟨_, rfl⟩
  have hidle : (afterCondFault (justIdle k w)).yoke.stock = (justIdle k w).yoke.stock :=
    (blind_stock.judgeFloor (fun _ _ => rfl) _).trans rfl
  have hstock : w.yoke.stock = v.yoke.stock := hw ▸ stock_faultCond (by decide) 15 _ v
  have hdigest : (afterCondFault (justIdle k w)).digest = w.digest := (blind_digest.judgeFloor (fun _ _ => rfl) _).trans rfl
  refine ⟨afterCondFault (justIdle k w), congrArg Host.Outcome.next ?_, ?_, ?_, ?_, ?_⟩
  · have hnot : ¬ ((s.health (.sha (condSha k))).st = .quarantined ∧ (s.health (.sha (condSha k))).retest = true ∧
        (s.health (.sha (condSha k))).bist = false) := fun h => absurd (hst.symm.trans h.1) (by decide)
    dsimp only
    rw [if_neg hnot, hkat, if_pos rfl, if_neg (by decide), hv, hw]
  · rw [staged_of_stock hidle]
    show (w.yoke.cores.get k).staged = []
    rw [staged_of_stock hstock, ← hv]
    exact congrArg CondCore.staged (vget_vmod_same _ _ _)
  · rw [reservoir_of_stock hidle]
    show w.yoke.reservoir = _
    rw [reservoir_of_stock hstock, ← hv]
    rfl
  · rw [hdigest, ← hw]
    exact faultUnit_out (u := .sha (condSha k)) (contained_of_plain rfl) (by decide) 15 _ v
  · rw [discCount_of_stock hidle]
    show w.yoke.discCount = _
    rw [discCount_of_stock hstock, ← hv]
    rfl

/-- A conditioning core that passes its test releases what is staged. -/
theorem condKatEnd_passes (hst : (s.digest.cores.get (condSha k)).st = .inService) (hkat : (s.yoke.cores.get k).kat = true) :
    exec (.condKatEnd k true) s = .next (justIdle k (releaseStaged k s)) := by
  have hnot : ¬ ((s.health (.sha (condSha k))).st = .quarantined ∧ (s.health (.sha (condSha k))).retest = true ∧
      (s.health (.sha (condSha k))).bist = false) := fun h => absurd (hst.symm.trans h.1) (by decide)
  refine congrArg Host.Outcome.next ?_
  dsimp only
  rw [if_neg hnot, hkat, if_pos rfl, if_pos rfl]

theorem yoke_dropLowCredit (s : State) : (dropLowCredit s).yoke = s.yoke :=
  forAll_keeps (g := State.yoke) (f := fun t => modThread t (fun x => { x with release := [] })) (fun _ _ _ => rfl) s

/-- A byte that leaves the block open joins it; one that fills the block closes it. -/
theorem addByte_adds (y : Yoke) (t : Thread) (b : Byte) (credit : Nat) :
    (y.addByte t b credit).lastThread = t ∧ (y.addByte t b credit).reservoir = y.reservoir ∧
    (y.openCredit + 8 * credit < 576000 → (y.addByte t b credit).openBytes = y.openBytes ++ [b] ∧
      (y.addByte t b credit).openCredit = y.openCredit + 8 * credit ∧ (y.addByte t b credit).waiting = y.waiting) ∧
    (576000 ≤ y.openCredit + 8 * credit → (y.addByte t b credit).openBytes = [] ∧ (y.addByte t b credit).openCredit = 0 ∧
      (y.addByte t b credit).waiting = y.waiting ++ [natBytes 4 y.blockCount ++
        natBytes 2 (y.openMask ||| BitVec.twoPow 16 t.val).toNat ++ natBytes 2 (y.openBytes.length + 1) ++ y.openBytes ++ [b]] ∧
      (y.addByte t b credit).blockCount = (y.blockCount + 1) % 2 ^ 32) := by
  unfold Yoke.addByte
  dsimp only
  split
  case isTrue h =>
    refine ⟨rfl, rfl, fun hlt => absurd h (Nat.not_le.mpr hlt), fun _ => ⟨rfl, rfl, ?_, rfl⟩⟩
    rw [List.length_append, List.length_singleton, blockHeader]
    simp only [List.append_assoc]
  case isFalse h => exact ⟨rfl, rfl, fun _ => ⟨rfl, rfl, rfl⟩, fun hle => absurd hle h⟩

theorem execYokeTakeByte_takes {t : Thread} {b : Byte} {r : List Byte} (hopen : (dropLowCredit s).yokeOpen = true)
    (hgiver : (dropLowCredit s).nextGiver = some t) (hrel : ((dropLowCredit s).thread t).release = b :: r) :
    exec .yokeTakeByte s = .next (modYoke (fun y => y.addByte t b ((dropLowCredit s).creditBit t))
      (modThread t (fun x => { x with release := r }) (dropLowCredit s))) := by
  refine congrArg Host.Outcome.next ?_
  dsimp only
  rw [hopen, hgiver]
  dsimp only
  rw [hrel]
  rfl

/-- A grant to a drawer that seeds an instance gives it three units. -/
theorem execReservoirGrant_seeds {n id : Nat} {o : Op} (hrun : s.running = true) (hfloor : s.floor.below = false)
    (hdrawer : s.fabric.drawers[n]? = some id) (ho : s.findOp id = some o) (hkind : o.kind ≠ .getSeed)
    (hlen : 3 ≤ s.yoke.reservoir.length) :
    exec (.reservoirGrant n) s = .next (modFabric (fun f => f.roundAfter o.id false)
      (modOp o.id (fun x => { x with
          seed := (s.yoke.reservoir.take 3).flatMap (fun w => natBytes 16 w.toNat), phase := .updSeed })
        (modYoke (fun y => { y with reservoir := y.reservoir.drop 3, drawCount := satAdd 32 y.drawCount 3 }) s))) := by
  have hunits : o.grantUnits = 3 := if_neg hkind
  refine congrArg Host.Outcome.next ?_
  rw [hdrawer, Option.bind_some, ho]
  dsimp only
  rw [hrun, hfloor, hunits, if_neg (by decide), if_neg (Nat.not_lt.mpr hlen)]
  unfold grantUnitsTo
  dsimp only
  rw [hunits, if_neg hkind]

/-- A changed operation is found under its number. -/
theorem findOp_modOp {id : Nat} {o : Op} {f : Op → Op} (hf : ∀ x, (f x).id = x.id) (ho : s.findOp id = some o) :
    (modOp id f s).findOp id = some (f o) := by
  have hl : ∀ l : List Op, l.find? (fun o => o.id == id) = some o →
      (l.map (fun o => if o.id = id then f o else o)).find? (fun o => o.id == id) = some (f o) := by
    intro l
    induction l with
    | nil => exact nofun
    | cons p l ih =>
      intro h
      by_cases hp : p.id = id
      · rw [List.find?_cons, beq_iff_eq.mpr hp] at h
        obtain rfl := Option.some.inj h
        rw [List.map_cons, if_pos hp, List.find?_cons, beq_iff_eq.mpr ((hf p).trans hp)]
      · rw [List.find?_cons, beq_eq_false_iff_ne.mpr hp] at h
        rw [List.map_cons, if_neg hp, List.find?_cons, beq_eq_false_iff_ne.mpr hp]
        exact ih h
  exact hl _ ho

theorem ops_roundAfter (f : Fabric) (id : Nat) (again : Bool) : (f.roundAfter id again).ops = f.ops := by
  unfold Fabric.roundAfter
  dsimp only
  split <;> rfl

/-- Settles O51: each row by the lemma about its step; the failed test leaves all but the floor's draws as it made them. -/
theorem entropyFlows : Obligations.EntropyFlows := by
  intro s k
  refine ⟨?_, fun b r ks hwait htakers => ?_, fun b hblock => ?_, fun hstaged hdue => ?_,
    fun hst hkat => ⟨?_, condKatEnd_fails hst hkat⟩, fun n id o hrun hfloor hdrawer ho hkind hlen => ?_⟩
  · intro t b r v hopen hgiver hrel
    have hyoke : v.yoke = s.yoke := yoke_dropLowCredit s
    obtain ⟨hlast, hres, hopened, hclosed⟩ := addByte_adds v.yoke t b (v.creditBit t)
    rw [hyoke] at hlast hres hopened hclosed
    obtain ⟨u, hu⟩ : ∃ u, modYoke (fun y => y.addByte t b (v.creditBit t)) (modThread t (fun x => { x with release := r }) v) = u := ⟨_, rfl⟩
    have huyoke : u.yoke = s.yoke.addByte t b (v.creditBit t) := by
      rw [← hu, ← hyoke]
      rfl
    refine ⟨u, (execYokeTakeByte_takes hopen hgiver hrel).trans (congrArg Host.Outcome.next hu), ?_, ?_⟩
    · rw [← hu]
      exact congrArg ThreadSt.release (thread_modThread_same t (fun x => { x with release := r }) v)
    · rw [huyoke]
      exact ⟨hlast, hres, hopened, hclosed⟩
  · refine ⟨modCond k (fun c => { c with block := some b }) (modYoke (fun y => { y with waiting := r }) s),
      congrArg Host.Outcome.next ?_, rfl, congrArg CondCore.block (vget_vmod_same _ _ _), rfl⟩
    rw [hwait, htakers]
  · obtain ⟨kat, hkat⟩ : ∃ kat, (s.drawShort || (s.digest.cores.get (condSha k)).bist) = kat := ⟨_, rfl⟩
    refine ⟨justIdle k (modCond k (fun c => { c with
        block := none, staged := c.staged ++ [BitVec.ofNat 512 (bytesNat (sha 2 b))]
        since := if c.staged.isEmpty then s.now else c.since, kat := c.kat || kat || decide (32 ≤ c.staged.length + 1) }) s),
      congrArg Host.Outcome.next (by rw [hblock, ← hkat]), congrArg CondCore.block (vget_vmod_same _ _ _),
      congrArg CondCore.staged (vget_vmod_same _ _ _), List.getLast?_concat, rfl⟩
  · refine congrArg Host.Outcome.next (if_pos ?_)
    rw [decide_eq_true hdue, Bool.and_true, Bool.not_eq_true', List.isEmpty_eq_false_iff]
    exact hstaged
  · exact ⟨_, condKatEnd_passes hst hkat, congrArg CondCore.staged (vget_vmod_same _ _ _), congrArg CondCore.kat (vget_vmod_same _ _ _),
      rfl, rfl, rfl⟩
  · obtain rfl : o.id = id := by simpa using List.find?_some ho
    obtain ⟨v, hv⟩ : ∃ v, modYoke (fun y => { y with reservoir := y.reservoir.drop 3, drawCount := satAdd 32 y.drawCount 3 }) s = v := ⟨_, rfl⟩
    have hov : v.findOp o.id = some o := by
      rw [← hv]
      exact ho
    refine ⟨_, { o with seed := (s.yoke.reservoir.take 3).flatMap (fun w => natBytes 16 w.toNat), phase := .updSeed },
      (execReservoirGrant_seeds hrun hfloor hdrawer ho hkind hlen).trans (by rw [hv]), ?_, ?_, rfl, rfl, ?_⟩
    · rw [← hv]
      rfl
    · exact (congrArg (fun l : List Op => l.find? (fun p : Op => p.id == o.id)) (ops_roundAfter _ _ _)).trans
        (findOp_modOp (by intro _; rfl) hov)
    · rw [← hv]
      rfl

end

end Sys2Proof.Machine
end

section
/-! SUPPORT. Faults and reloads of cores, instances and slots. -/

namespace Sys2Proof.Machine

/-! ### Faults of the AES cores -/

section
variable {α β : Type} {m : Inst → β} {view : State → α} (b : Blind.Deep m view)
include b

theorem Blind.Deep.withdrawOp (id : Nat) (worked : Op → Bool) (s : State) : view (withdrawOp id worked s) = view s := by
  unfold Machine.withdrawOp
  split
  · rfl
  · dsimp only
    split
    · exact (b.modInst _ _ b.spoiled _).trans ((b.released _ _).trans (b.removeOp _ s))
    · exact (b.released _ _).trans (b.removeOp _ s)

/-- A pattern that a boundary applies. -/
theorem Blind.Deep.settlePattern (i : Sleeve) (n : Fin 4) (s : State) : view (settlePattern i n s) = view s := by
  have hunbind (o : Op) (t : State) : view (unbind i n o t) = view t := by
    unfold unbind
    split
    · exact b.modOp _ _ t
    · exact b.withdrawOp _ _ t
  have hrenew (o : Op) (t : State) : view (renewRequest i n o t) = view t := by
    unfold renewRequest
    dsimp only
    split
    · rfl
    · exact (b.modOp _ _ _).trans (b.requeue o t)
  unfold Machine.settlePattern
  dsimp only
  split
  · unfold applyPattern
    dsimp only
    refine (forAll_keeps (g := view) (fun k _ t => b.newRequest i n k t) _).trans ((b.releaseTags _ _ _).trans ?_)
    refine (forAll_keeps (g := view) (fun o _ t => hrenew o t) _).trans ?_
    exact (forAll_keeps (g := view) (fun o _ t => hunbind o t) _).trans (b.modStream _ _ _ s)
  · rfl

theorem Blind.Deep.claimFrame (i : Sleeve) (n : Fin 4) (f : List Place) (s : State) : view (claimFrame i n f s) = view s :=
  (b.settleFabric _).trans ((b.settlePattern _ _ _).trans ((b.settleChain _ _ _).trans ((b.modStream _ _ _ _).trans (b.released _ s))))

end

theorem fabric_sendRecord (c : Sel) (body : List Byte) (unheld : List Nat) (st : Byte) (counter : Nat) (sh : Shift) (s : State) :
    (sendRecord c body unheld st counter sh s).1.fabric = s.fabric := by
  have hnote (t : State) : (noteUnderrun c t).fabric = t.fabric := by
    unfold noteUnderrun
    extract_lets u
    have hu : u.fabric = t.fabric := by
      unfold u
      split <;> rfl
    split
    · obtain ⟨l, hl⟩ := raiseSel_log (code := 0x9010) (by decide) c (modSel c (fun x => { x with lastUndr := some u.now }) u)
      rw [hl]
      exact hu
    · exact hu
  unfold sendRecord
  dsimp only
  split
  · rfl
  · dsimp only
    split
    · rfl
    · exact hnote _

theorem wear_recordCut {β : Type} {m : Inst → β} (b : Blind.Deep m (fun s => s.fabric.wear m)) (c : Sel) (n : Fin 4) (k : Nat) (sh : Shift)
    (s : State) : (recordCut c n k sh s).fabric.wear m = s.fabric.wear m := by
  unfold recordCut
  dsimp only
  rw [fabric_sendRecord]
  exact (b.claimFrame _ _ _ _).trans rfl

section
variable {s : State} {k : Fin 4}

theorem health_of_wear {β : Type} {m : Inst → β} {f g : Fabric} (h : f.wear m = g.wear m) (k : Fin 4) :
    (f.cores.get k).health = (g.cores.get k).health := by
  have hcores := congrArg (fun v : Vector Health 4 => v[k.val]) (Prod.mk.inj h).1
  simp only [Vector.getElem_map] at hcores
  exact hcores

theorem marks_of_wear {β : Type} {m : Inst → β} {f g : Fabric} (h : f.wear m = g.wear m) : f.mismatch = g.mismatch ∧ f.evt = g.evt := by
  obtain ⟨-, h⟩ := Prod.mk.inj h
  obtain ⟨hmismatch, h⟩ := Prod.mk.inj h
  exact ⟨hmismatch, (Prod.mk.inj h).1⟩

/-- The mismatches counted and the event bit of a core's fault. -/
def Fabric.faults (f : Fabric) : Nat × Bool := (f.mismatch, f.evt.getLsbD 0)

theorem retireEvent_aes (k : Fin 4) (t : State) :
    ∃ l, retireEvent (.aes k) t = { modFabric (fun f => { f with evt := f.evt ||| 0x2 }) t with log := l } :=
  raiseD_log (by decide) [BitVec.ofNat 8 k.val] (modFabric (fun f => { f with evt := f.evt ||| 0x2 }) t)

theorem faults_faultAes {code : BitVec 16} (h : rankOf code ≠ 3) (src : Nat) (data : List Byte) (s : State) :
    (faultUnit (.aes k) code src data s).fabric.faults = s.fabric.faults := by
  have hevent (t : State) : (retireEvent (.aes k) t).fabric.faults = t.fabric.faults := by
    obtain ⟨l, hl⟩ := retireEvent_aes k t
    have hbit : (t.fabric.evt ||| 0x2).getLsbD 0 = t.fabric.evt.getLsbD 0 := by simp
    rw [hl]
    exact congrArg (fun c => (t.fabric.mismatch, c)) hbit
  exact faultUnit_keeps (u := .aes k) (view := fun t => t.fabric.faults) (fun _ _ => rfl) (fun _ _ => rfl) (fun _ => rfl)
    (retireUnit_keeps (u := .aes k) (view := fun t => t.fabric.faults) (fun _ _ => rfl) (fun _ _ => rfl) (fun _ _ => rfl)
      (fun _ _ => rfl) (fun _ => rfl) hevent) h src data s

/-- A faulted AES core is out of service, and the fault is marked. -/
theorem aesFault_faults (s : State) : ((aesFault k s).fabric.cores.get k).health.st ≠ .inService ∧
    (aesFault k s).fabric.mismatch = s.fabric.mismatch ∧ (aesFault k s).fabric.evt.getLsbD 0 = true := by
  have b := blind_wearKept
  obtain ⟨v, hv⟩ : ∃ v, modFabric (fun f => { f with evt := f.evt ||| 0x1 }) s = v := ⟨_, rfl⟩
  obtain ⟨w, hw⟩ : ∃ w, faultUnit (.aes k) 0x1001 15 [BitVec.ofNat 8 k.val] v = w := ⟨_, rfl⟩
  have hwear : (aesFault k s).fabric.wear Inst.kept = w.fabric.wear Inst.kept := by
    refine (b.settleFabric _).trans ((b.endAllOps _).trans ((forAll_keeps (g := fun t => t.fabric.wear Inst.kept) (f := failOp)
      (fun o _ t => b.failOp o t) _).trans ?_))
    rw [← hw, ← hv]
  have hfaults : w.fabric.faults = v.fabric.faults := hw ▸ faults_faultAes (by decide) 15 _ v
  obtain ⟨hmismatch, hevt⟩ := marks_of_wear hwear
  obtain ⟨hmismatch', hevt'⟩ := Prod.mk.inj hfaults
  refine ⟨?_, (hmismatch.trans hmismatch').trans (by rw [← hv]; rfl), ?_⟩
  · rw [health_of_wear hwear, ← hw]
    exact faultUnit_out (u := .aes k) (contained_of_plain rfl) (by decide) 15 _ v
  · rw [hevt, hevt', ← hv]
    show (s.fabric.evt ||| 0x1).getLsbD 0 = true
    simp

theorem execAesMismatch_faults (hst : (s.fabric.cores.get k).health.st = .inService) (hbist : (s.fabric.cores.get k).health.bist = false)
    (reader : Option (Sel × Shift)) : ∃ u, exec (.aesMismatch ⟨k, reader⟩) s = .next u ∧ (u.fabric.cores.get k).health.st ≠ .inService ∧
      u.fabric.mismatch = min 65535 (s.fabric.mismatch + 1) ∧ u.fabric.evt.getLsbD 0 = true := by
  have hlive : ¬ ((s.fabric.cores.get k).health.st = .retired ∨ (s.fabric.cores.get k).health.bist = true) := by
    rintro (h | h)
    · exact absurd (hst.symm.trans h) (by decide)
    · exact absurd (hbist.symm.trans h) (by decide)
  obtain ⟨t, hexec, hwear⟩ : ∃ t, exec (.aesMismatch ⟨k, reader⟩) s =
      .next (aesFault k (modFabric (fun f => { f with mismatch := satAdd 16 f.mismatch 1 }) t)) ∧
      t.fabric.wear Inst.kept = s.fabric.wear Inst.kept := by
    cases reader with
    | none => exact ⟨s, congrArg Host.Outcome.next (if_neg hlive), rfl⟩
    | some c =>
      cases hframe : s.claimedFrame c.1 (s.coreOps k) with
      | none =>
        refine ⟨s, congrArg Host.Outcome.next ((if_neg hlive).trans ?_), rfl⟩
        dsimp only
        rw [hframe]
      | some q =>
        refine ⟨recordCut c.1 q.1 q.2 c.2 s, congrArg Host.Outcome.next ((if_neg hlive).trans ?_), wear_recordCut blind_wearKept _ _ _ _ s⟩
        dsimp only
        rw [hframe]
  obtain ⟨hout, hmismatch, hevt⟩ := aesFault_faults (k := k) (modFabric (fun f => { f with mismatch := satAdd 16 f.mismatch 1 }) t)
  refine ⟨_, hexec, hout, hmismatch.trans ?_, hevt⟩
  show satAdd 16 t.fabric.mismatch 1 = _
  rw [(marks_of_wear hwear).1]
  rfl

theorem passRetest_passes {u : UnitRef} (h : s.recovers u = true) : passRetest u s =
    modHealth u (fun h => { h with st := .inService, retest := false, unhandled := false, again := false }) s := if_pos h

theorem passRetest_inService {u : UnitRef} (h : s.recovers u = true) : ((passRetest u s).health u).st = .inService := by
  rw [passRetest_passes h, health_modHealth]

/-- The end of a re-test of an AES core. -/
theorem execAesRetestEnd_ends (hst : (s.fabric.cores.get k).health.st = .quarantined) (hretest : (s.fabric.cores.get k).health.retest = true)
    (hbist : (s.fabric.cores.get k).health.bist = false) :
    (s.recovers (.aes k) = true → ∃ u, exec (.aesRetestEnd k true) s = .next u ∧ (u.fabric.cores.get k).health.st = .inService ∧
      u.fabric.ops = s.fabric.ops ∧ u.fabric.insts = s.fabric.insts) ∧
    (∃ u, exec (.aesRetestEnd k false) s = .next u ∧ (u.fabric.cores.get k).health.st = .retired ∧
      u.fabric.ops = s.fabric.ops ∧ u.fabric.insts = s.fabric.insts) := by
  refine ⟨fun hrec => ?_, retireUnit (.aes k) s, congrArg Host.Outcome.next ((if_pos ⟨hst, hretest, hbist⟩).trans rfl),
    retireUnit_retired (u := .aes k) rfl s, ?_, ?_⟩
  · obtain ⟨l, hl⟩ := raiseD_log (code := 0x1002) (by decide) [BitVec.ofNat 8 k.val] (passRetest (.aes k) s)
    refine ⟨{ passRetest (.aes k) s with log := l }, congrArg Host.Outcome.next ((if_pos ⟨hst, hretest, hbist⟩).trans ?_),
      passRetest_inService (u := .aes k) hrec, ?_, ?_⟩
    · rw [hrec, ← hl]
      rfl
    · rw [passRetest_passes hrec]
      rfl
    · rw [passRetest_passes hrec]
      rfl
  · exact retireUnit_keeps (u := .aes k) (view := fun t => t.fabric.ops) (fun _ _ => rfl) (fun _ _ => rfl) (fun _ _ => rfl)
      (fun _ _ => rfl) (fun _ => rfl) (fun t => by
        obtain ⟨l, hl⟩ := retireEvent_aes k t
        rw [hl]
        rfl) s
  · exact retireUnit_keeps (u := .aes k) (view := fun t => t.fabric.insts) (fun _ _ => rfl) (fun _ _ => rfl) (fun _ _ => rfl)
      (fun _ _ => rfl) (fun _ => rfl) (fun t => by
        obtain ⟨l, hl⟩ := retireEvent_aes k t
        rw [hl]
        rfl) s

end

/-! ### Faults of the service cores -/

section
variable {s : State}

/-- The service element without the health of its cores and the event bits other than that of a failed known-answer test. -/
def Digest.bench (d : Digest) : Digest × Bool := ({ d with cores := Vector.replicate 6 .fresh, evt := 0 }, d.evt.getLsbD 0)

theorem bench_faultSha (k : Fin 6) {code : BitVec 16} (h : rankOf code ≠ 3) (src : Nat) (data : List Byte) (s : State) :
    (faultUnit (.sha k) code src data s).digest.bench = s.digest.bench := by
  have hevent (t : State) : (retireEvent (.sha k) t).digest.bench = t.digest.bench := by
    unfold retireEvent
    dsimp only
    split
    · obtain ⟨l, hl⟩ := raiseD_log (code := 0x5051) (by decide) [BitVec.ofNat 8 k.val] (modYoke (fun y => { y with evt := y.evt ||| 0x2 }) t)
      rw [hl]
      rfl
    · obtain ⟨l, hl⟩ := raiseD_log (code := 0x3003) (by decide) [BitVec.ofNat 8 k.val] (modDigest (fun d => { d with evt := d.evt ||| 0x02 }) t)
      have hbit : (t.digest.evt ||| 0x02).getLsbD 0 = t.digest.evt.getLsbD 0 := by simp
      rw [hl]
      exact congrArg (fun c => (t.digest.bench.1, c)) hbit
  exact faultUnit_keeps (u := .sha k) (view := fun t => t.digest.bench) (fun _ _ => rfl) (fun _ _ => rfl) (fun _ => rfl)
    (retireUnit_keeps (u := .sha k) (view := fun t => t.digest.bench) (fun _ _ => rfl) (fun _ _ => rfl) (fun _ _ => rfl)
      (fun _ _ => rfl) (fun _ => rfl) hevent) h src data s

/-- Dropping what an engine may have spoilt leaves every context as it was, or idle. -/
theorem dropSuspects_contexts (l : List (Sleeve × Fin 4)) (s : State) :
    ∃ v, (forAll l dropSuspect s).digest = { s.digest with contexts := v } ∧
      ∀ i k, ((v.get i).get k) = Context.reset ∨ (v.get i).get k = s.ctx i k := by
  induction l generalizing s with
  | nil => exact ⟨s.digest.contexts, rfl, fun _ _ => .inr rfl⟩
  | cons c l ih =>
    obtain ⟨v, hv, hctx⟩ := ih (dropSuspect c s)
    have hstep : (dropSuspect c s).digest = s.digest ∨ (dropSuspect c s).digest = (modCtx c.1 c.2 (fun _ => .reset) s).digest := by
      unfold dropSuspect
      split
      · exact .inl rfl
      · have hanswers : (forAll (s.ctx c.1 c.2).commands (fun id => answer id stFenced []) (modCtx c.1 c.2 (fun _ => .reset) s)).digest =
            (modCtx c.1 c.2 (fun _ => .reset) s).digest := forAll_keeps (g := State.digest) (fun id _ t => digest_answer id stFenced [] t) _
        unfold when'
        split
        · exact .inr hanswers
        · exact .inr hanswers
    refine ⟨v, ?_, fun i k => ?_⟩
    · refine (show (forAll (c :: l) dropSuspect s).digest = _ from hv).trans ?_
      obtain h | h := hstep
      · rw [h]
      · rw [h]
        rfl
    · obtain hreset | hsame := hctx i k
      · exact .inl hreset
      · obtain h | h := hstep
        · exact .inr (hsame.trans (congrArg (fun d : Digest => (d.contexts.get i).get k) h))
        · have hk : (v.get i).get k = (modCtx c.1 c.2 (fun _ => .reset) s).ctx i k :=
            hsame.trans (congrArg (fun d : Digest => (d.contexts.get i).get k) h)
          by_cases hik : c.1 = i ∧ c.2 = k
          · obtain ⟨rfl, rfl⟩ := hik
            exact .inl (hk.trans (ctx_modCtx_same _ _ _ s))
          · exact .inr (hk.trans (ctx_modCtx_ne hik _ s))

/-- The engines of a core once their suspects are dropped. -/
def clearEngines (k : Fin 2) (v : Vector Engine 16) : Vector Engine 16 :=
  v.mapFinIdx (fun j e _ => if j / 8 = k.val then { e with suspects := [], seals := [], since := 0 } else e)

theorem clearEngines_get {k : Fin 2} {e : Fin 16} (h : engineCore e = k) (v : Vector Engine 16) : ((clearEngines k v).get e).suspects = [] := by
  show ((clearEngines k v)[e.val]).suspects = []
  unfold clearEngines
  rw [Vector.getElem_mapFinIdx, if_pos (show e.val / 8 = k.val from congrArg Fin.val h)]

/-- A seal that an engine of the core may have spoilt is made anew. -/
def remakeSeal (r : SealRef) : State → State :=
  modStream r.sl r.stream (fun x => if x.run = r.run then putTag r.record none x else x)

theorem clearSuspects_digest (k : Fin 2) (s : State) :
    ∃ v, (clearSuspects k s).digest = { s.digest with contexts := v, engines := clearEngines k s.digest.engines } ∧
      ∀ i c, ((v.get i).get c) = Context.reset ∨ (v.get i).get c = s.ctx i c := by
  obtain ⟨v, hv, hctx⟩ := dropSuspects_contexts ((enginesOf k).flatMap (fun e => (s.digest.engines.get e).suspects)) s
  obtain ⟨t, ht⟩ : ∃ t, forAll ((enginesOf k).flatMap (fun e => (s.digest.engines.get e).suspects)) dropSuspect s = t := ⟨_, rfl⟩
  rw [ht] at hv
  have hseals : (forAll ((enginesOf k).flatMap (fun e => (s.digest.engines.get e).seals)) remakeSeal t).digest = t.digest :=
    forAll_keeps (g := State.digest) (f := remakeSeal) (fun _ _ _ => rfl) t
  refine ⟨v, ?_, hctx⟩
  refine Eq.trans (b := ({ t.digest with engines := clearEngines k t.digest.engines } : Digest)) ?_ (by rw [hv])
  rw [← hseals, ← ht]
  rfl

/-- A faulted service core is out of service, its suspects are dropped, and the contexts are as they were or idle. -/
theorem svcFault_faults {k : Fin 2} {code : BitVec 16} (h : rankOf code ≠ 3) (s : State) :
    ((svcFault k code s).digest.cores.get (svcSha k)).st ≠ .inService ∧
    (svcFault k code s).digest.katFail = s.digest.katFail ∧ (svcFault k code s).digest.evt.getLsbD 0 = s.digest.evt.getLsbD 0 ∧
    (svcFault k code s).digest.engines = clearEngines k s.digest.engines ∧
    ∀ i c, (svcFault k code s).ctx i c = Context.reset ∨ (svcFault k code s).ctx i c = s.ctx i c := by
  obtain ⟨v, hv, hctx⟩ := clearSuspects_digest k s
  have hbench : (svcFault k code s).digest.bench = (clearSuspects k s).digest.bench := bench_faultSha _ h _ _ _
  obtain ⟨hrest, hbit⟩ := Prod.mk.inj hbench
  rw [hv] at hrest hbit
  have hcontexts : (svcFault k code s).digest.contexts = v := (congrArg Digest.contexts hrest :)
  refine ⟨faultUnit_out (u := .sha (svcSha k)) (contained_of_plain rfl) h _ _ _, (congrArg Digest.katFail hrest :), hbit, (congrArg Digest.engines hrest :),
    fun i c => ?_⟩
  rw [State.ctx, hcontexts]
  exact hctx i c

theorem get_engine (e : Fin 16) (f : Engine → Engine) (s : State) : (modEngine e f s).digest.engines.get e = f (s.digest.engines.get e) :=
  vget_vmod_same _ _ _

/-- A known-answer compression of an engine. -/
theorem execSvcKat_ends {e : Fin 16} (hon : s.svcOn (engineCore e) = true) :
    (∃ u, exec (.svcKat e true) s = .next u ∧ (u.digest.engines.get e).since = 0 ∧ (u.digest.engines.get e).suspects = [] ∧
      (u.digest.engines.get e).katAt = s.now ∧ (u.digest.engines.get e).alt = !(s.digest.engines.get e).alt ∧
      u.digest.contexts = s.digest.contexts ∧ u.digest.cores = s.digest.cores ∧ u.log = s.log) ∧
    (∃ u, exec (.svcKat e false) s = .next u ∧ (u.digest.cores.get (svcSha (engineCore e))).st ≠ .inService ∧
      u.digest.katFail = min 65535 (s.digest.katFail + 1) ∧ u.digest.evt.getLsbD 0 = true ∧
      (u.digest.engines.get e).suspects = []) := by
  have hnot : ¬ (!s.svcOn (engineCore e)) = true := by rw [hon]; decide
  refine ⟨?_, ?_⟩
  · obtain ⟨v, hv⟩ : ∃ v, modEngine e (fun x => { x with katAt := s.now, alt := !x.alt }) s = v := ⟨_, rfl⟩
    have hengine : v.digest.engines.get e = { s.digest.engines.get e with katAt := s.now, alt := !(s.digest.engines.get e).alt } :=
      hv ▸ get_engine e _ s
    have hnew := get_engine e (fun x => { x with since := 0, suspects := [], seals := [] }) v
    refine ⟨modEngine e (fun x => { x with since := 0, suspects := [], seals := [] }) v,
      congrArg Host.Outcome.next ((if_neg hnot).trans (congrArg (modEngine e _) hv)), ?_, ?_, ?_, ?_, ?_, ?_, ?_⟩
    · rw [hnew]
    · rw [hnew]
    · rw [hnew, hengine]
    · rw [hnew, hengine]
    · rw [← hv]
      rfl
    · rw [← hv]
      rfl
    · rw [← hv]
      rfl
  · obtain ⟨v, hv⟩ : ∃ v, modDigest (fun d => { d with katFail := satAdd 16 d.katFail 1, evt := d.evt ||| 0x01 })
      (modEngine e (fun x => { x with katAt := s.now, alt := !x.alt }) s) = v := ⟨_, rfl⟩
    obtain ⟨hout, hfail, hevt, hengines, -⟩ := svcFault_faults (k := engineCore e) (code := 0x3001) (by decide) v
    refine ⟨svcFault (engineCore e) 0x3001 v, congrArg Host.Outcome.next ((if_neg hnot).trans (by rw [← hv]; rfl)), hout,
      hfail.trans (by rw [← hv]; rfl), hevt.trans ?_, ?_⟩
    · rw [← hv]
      show (s.digest.evt ||| 0x01).getLsbD 0 = true
      simp
    · rw [hengines]
      exact clearEngines_get rfl _

theorem execSvcCoreFault_faults {c : Fin 2} (h : (s.digest.cores.get (svcSha c)).inSvc = true) :
    ∃ u, exec (.svcCoreFault c) s = .next u ∧ (u.digest.cores.get (svcSha c)).st ≠ .inService ∧
      (∀ i k x, x ∈ enginesOf c → (i, k) ∈ (s.digest.engines.get x).suspects → u.ctx i k = Context.reset ∨ u.ctx i k = s.ctx i k) := by
  have hbist : ¬ (s.digest.cores.get (svcSha c)).bist = true := by
    rw [Health.inSvc, Bool.and_eq_true] at h
    simpa using h.2
  obtain ⟨hout, -, -, -, hctx⟩ := svcFault_faults (k := c) (code := 0x3001) (by decide) s
  exact ⟨_, congrArg Host.Outcome.next (if_neg hbist), hout, fun i k _ _ _ => hctx i k⟩

theorem execSvcRetestEnd_ends {c : Fin 2} (hst : (s.digest.cores.get (svcSha c)).st = .quarantined)
    (hretest : (s.digest.cores.get (svcSha c)).retest = true) (hbist : (s.digest.cores.get (svcSha c)).bist = false) :
    (s.recovers (.sha (svcSha c)) = true → ∃ u, exec (.svcRetestEnd c true) s = .next u ∧
      (u.digest.cores.get (svcSha c)).st = .inService ∧ u.digest.contexts = s.digest.contexts) ∧
    (∃ u, exec (.svcRetestEnd c false) s = .next u ∧ (u.digest.cores.get (svcSha c)).st = .retired ∧
      u.digest.contexts = s.digest.contexts) := by
  refine ⟨fun hrec => ?_, retireUnit (.sha (svcSha c)) s, congrArg Host.Outcome.next ((if_pos ⟨hst, hretest, hbist⟩).trans rfl),
    retireUnit_retired (u := .sha (svcSha c)) rfl s, ?_⟩
  · obtain ⟨l, hl⟩ := raiseD_log (code := 0x3002) (by decide) [BitVec.ofNat 8 (4 + c.val)] (passRetest (.sha (svcSha c)) s)
    refine ⟨{ passRetest (.sha (svcSha c)) s with log := l }, congrArg Host.Outcome.next ((if_pos ⟨hst, hretest, hbist⟩).trans ?_),
      passRetest_inService (u := .sha (svcSha c)) hrec, ?_⟩
    · rw [hrec, ← hl]
      rfl
    · rw [passRetest_passes hrec]
      rfl
  · refine retireUnit_keeps (u := .sha (svcSha c)) (view := fun t => t.digest.contexts) (fun _ _ => rfl) (fun _ _ => rfl) (fun _ _ => rfl)
      (fun _ _ => rfl) (fun _ => rfl) (fun t => ?_) s
    unfold retireEvent
    dsimp only
    split
    · obtain ⟨l, hl⟩ := raiseD_log (code := 0x5051) (by decide) [BitVec.ofNat 8 (svcSha c).val] (modYoke (fun y => { y with evt := y.evt ||| 0x2 }) t)
      rw [hl]
      rfl
    · obtain ⟨l, hl⟩ := raiseD_log (code := 0x3003) (by decide) [BitVec.ofNat 8 (svcSha c).val] (modDigest (fun d => { d with evt := d.evt ||| 0x02 }) t)
      rw [hl]
      rfl

end

/-! ### Lining faults of instances and slots -/

section
variable {s : State}

theorem handleUnit_retires_or_keeps {α : Type} {view : State → α} {u : UnitRef} (hu : u.plain = true)
    (hhealth : ∀ f s, view (modHealth u f s) = view s) (hretest : ∀ s, view (startRetest u s) = view s) (at_ : Nat) (s : State) :
    ((handleUnit u at_ s).health u).st = .retired ∨ view (handleUnit u at_ s) = view s := by
  have hretire : ((retireNow u s).health u).st = .retired := by rw [retireNow_plain hu, retireUnit_retired hu]
  unfold handleUnit
  dsimp only
  split
  · split
    · exact .inr (hhealth _ s)
    · split
      · exact .inl hretire
      · split
        · exact .inr ((hretest _).trans (hhealth _ s))
        · split
          · exact .inl hretire
          · exact .inr ((hretest _).trans (hhealth _ s))
  · exact .inr rfl

/-- A fault retires its unit, or leaves what the unit's health does not show. -/
theorem faultUnit_retires_or_keeps {α : Type} {view : State → α} {u : UnitRef} (hu : u.plain = true)
    (hlog : ∀ l s, view { s with log := l } = view s) (hhealth : ∀ f s, view (modHealth u f s) = view s)
    (hretest : ∀ s, view (startRetest u s) = view s) {code : BitVec 16} (h : rankOf code ≠ 3) (src : Nat) (data : List Byte) (s : State) :
    ((faultUnit u code src data s).health u).st = .retired ∨ view (faultUnit u code src data s) = view s := by
  have hoffer (t : State) : ((offerUnit u code src data t).health u).st = .retired ∨ view (offerUnit u code src data t) = view t := by
    obtain ⟨l, heq | ⟨at_, heq⟩⟩ := offerUnit_cases h u src data t
    · rw [heq]
      exact .inr (hlog l t)
    · rw [heq]
      exact (handleUnit_retires_or_keeps hu hhealth hretest at_ _).imp id (fun hview => hview.trans (hlog l t))
  unfold faultUnit
  dsimp only
  split
  · exact .inr rfl
  · split
    · exact .inr (hhealth _ s)
    · exact (hoffer _).imp id (fun hview => hview.trans (hhealth _ s))
  · exact (hoffer _).imp id (fun hview => hview.trans (hhealth _ s))

theorem inst_of_wear {β : Type} {m : Inst → β} {s t : State} (h : t.fabric.wear m = s.fabric.wear m) (i : Sleeve) (k : Fin 4) :
    m (t.inst i k) = m (s.inst i k) := by
  obtain ⟨-, h⟩ := Prod.mk.inj h
  obtain ⟨-, h⟩ := Prod.mk.inj h
  obtain ⟨-, h⟩ := Prod.mk.inj h
  have hi := congrArg (fun v : Vector (Vector β 4) 8 => (v[i.val])[k.val]) h
  simp only [Vector.getElem_map] at hi
  exact hi

theorem retireEvent_inst (i : Sleeve) (k : Fin 4) (s : State) : ∃ l, retireEvent (.inst i k) s = { s with log := l } :=
  raiseS_log (by decide) _ _ _

theorem retireEvent_slot (k : Fin 32) (s : State) : ∃ l, retireEvent (.slot k) s = { s with log := l } := raiseS_log (by decide) _ _ _

/-- An instance whose check fails leaves service, with the verdict on its copy. -/
theorem execInstLiningFault_faults {i : Sleeve} {k : Fin 4} (hst : (s.inst i k).health.st = .inService) (howned : (s.inst i k).owned = true)
    (good : Bool) : ∃ u, exec (.instLiningFault i k good) s = .next u ∧ (u.inst i k).health.st ≠ .inService ∧
      ((u.inst i k).health.st = .quarantined → (u.inst i k).copyOk = good) ∧ u.fabric.evt.getLsbD 2 = true := by
  obtain ⟨t, ht⟩ : ∃ t, exec (.instLiningFault i k good) s = .next (settleFabric (faultUnit (.inst i k) 0x1005 i.val [BitVec.ofNat 8 k.val]
      (modInst i k (fun x => { x with copyOk := good }) (modFabric (fun f => { f with evt := f.evt ||| 0x4 }) t)))) := by
    have hlive : ¬ ((s.inst i k).health.st = .retired ∨
        ((s.inst i k).health.st = .inService ∧ (s.inst i k).owned = false ∧ s.readerOf i k = none)) := by
      rintro (h | ⟨-, h, -⟩)
      · exact absurd (hst.symm.trans h) (by decide)
      · exact absurd (howned.symm.trans h) (by decide)
    exact ⟨_, congrArg Host.Outcome.next (if_neg hlive)⟩
  obtain ⟨v, hv⟩ : ∃ v, modInst i k (fun x => { x with copyOk := good }) (modFabric (fun f => { f with evt := f.evt ||| 0x4 }) t) = v := ⟨_, rfl⟩
  obtain ⟨w, hw⟩ : ∃ w, faultUnit (.inst i k) 0x1005 i.val [BitVec.ofNat 8 k.val] v = w := ⟨_, rfl⟩
  have hcopy : (v.inst i k).copyOk = good := by rw [← hv, inst_modInst_same]
  have hwear : (settleFabric w).fabric.wear Inst.kept = w.fabric.wear Inst.kept := blind_wearKept.settleFabric w
  obtain ⟨hhealth, hcopyOk⟩ := Prod.mk.inj (inst_of_wear (s := w) (t := settleFabric w) hwear i k)
  have hout : (w.inst i k).health.st ≠ .inService := hw ▸ faultUnit_out (u := .inst i k) (contained_of_plain rfl) (by decide) _ _ v
  have hverdict : (w.inst i k).health.st = .retired ∨ (w.inst i k).copyOk = (v.inst i k).copyOk := hw ▸
    faultUnit_retires_or_keeps (u := .inst i k) (view := fun t => (t.inst i k).copyOk) rfl (fun _ _ => rfl)
      (fun f t => (congrArg Inst.copyOk (inst_modInst_same i k (fun x => { x with health := f x.health }) t) :))
      (fun t => (congrArg Inst.copyOk (inst_modInst_same i k (fun x => { x with health := { x.health with retest := true } }) t) :))
      (by decide) _ _ v
  have hevt : w.fabric.evt = v.fabric.evt := hw ▸
    faultUnit_keeps (u := .inst i k) (view := fun t => t.fabric.evt) (fun _ _ => rfl) (fun _ _ => rfl) (fun _ => rfl)
      (retireUnit_keeps (u := .inst i k) (view := fun t => t.fabric.evt) (fun _ _ => rfl) (fun _ _ => rfl) (fun _ _ => rfl)
        (fun _ _ => rfl) (fun _ => rfl) (fun t => by
          obtain ⟨l, hl⟩ := retireEvent_inst i k t
          rw [hl])) (by decide) _ _ v
  refine ⟨settleFabric w, by rw [ht, hv, hw], by rw [hhealth]; exact hout, fun hq => ?_, ?_⟩
  · rw [hcopyOk]
    obtain hret | hsame := hverdict
    · rw [hhealth, hret] at hq
      nomatch hq
    · rw [hsame, hcopy]
  · rw [(marks_of_wear hwear).2, hevt, ← hv]
    show (t.fabric.evt ||| 0x4).getLsbD 2 = true
    simp

theorem evt_failSlotReader (k : Fin 32) (s : State) : (failSlotReader k s).digest.evt = s.digest.evt := by
  unfold failSlotReader
  dsimp only
  split
  · exact (congrArg Digest.evt (blind_digest.answerOpt _ _ _ _)).trans rfl
  · refine congrArg Digest.evt (forAll_keeps (g := State.digest) (fun n _ t => ?_) s)
    exact (blind_digest.settleChain _ n (modStream _ n (unkeySeal k) t)).trans rfl

theorem evt_clearSlotContexts (k : Fin 32) (s : State) : (clearSlotContexts k s).digest.evt = s.digest.evt := by
  unfold clearSlotContexts
  refine forAll_keeps (g := fun t => t.digest.evt) (fun c _ t => ?_) s
  unfold clearCtx
  exact (congrArg Digest.evt (forAll_keeps (g := State.digest) (fun id _ w => digest_answer id stBadOpcode [] w) _)).trans rfl

/-- A slot whose check fails leaves service, with the verdict on its copy. -/
theorem execSlotLiningFault_faults {k : Fin 32} (hst : (s.slot k).health.st = .inService) (good : Bool) :
    ∃ u, exec (.slotLiningFault k good) s = .next u ∧ (u.slot k).health.st ≠ .inService ∧
      ((u.slot k).health.st = .quarantined → (u.slot k).copyOk = good) ∧ u.digest.evt.getLsbD 4 = true := by
  have hlive : ¬ (s.slot k).health.st = .retired := fun h => absurd (hst.symm.trans h) (by decide)
  obtain ⟨t, ht⟩ : ∃ t, clearSlotContexts k (failSlotReader k (modDigest (fun d => { d with evt := d.evt ||| 0x10 }) s)) = t := ⟨_, rfl⟩
  obtain ⟨v, hv⟩ : ∃ v, modSlot k (fun x => { x with copyOk := good }) t = v := ⟨_, rfl⟩
  have hcopy : (v.slot k).copyOk = good := by rw [← hv, slot_modSlot_same]
  have hverdict := faultUnit_retires_or_keeps (u := .slot k) (view := fun t => (t.slot k).copyOk) rfl (fun _ _ => rfl)
    (fun f t => (congrArg Slot.copyOk (slot_modSlot_same k (fun x => { x with health := f x.health }) t) :))
    (fun t => (congrArg Slot.copyOk (slot_modSlot_same k (fun x => { x with health := { x.health with retest := true } }) t) :)) (code := 0x4005) (by decide)
    (k.val / 4) [BitVec.ofNat 8 k.val] v
  have hevt := faultUnit_keeps (u := .slot k) (view := fun t => t.digest.evt) (fun _ _ => rfl) (fun _ _ => rfl) (fun _ => rfl)
    (retireUnit_keeps (u := .slot k) (view := fun t => t.digest.evt) (fun _ _ => rfl) (fun _ _ => rfl) (fun _ _ => rfl)
      (fun _ _ => rfl) (fun _ => rfl) (fun t => by
        obtain ⟨l, hl⟩ := retireEvent_slot k t
        rw [hl])) (code := 0x4005) (by decide) (k.val / 4) [BitVec.ofNat 8 k.val] v
  refine ⟨faultUnit (.slot k) 0x4005 (k.val / 4) [BitVec.ofNat 8 k.val] v, congrArg Host.Outcome.next ((if_neg hlive).trans ?_),
    faultUnit_out (u := .slot k) (contained_of_plain rfl) (by decide) _ _ v, fun hq => ?_, ?_⟩
  · rw [← hv, ← ht]
  · obtain hret | hsame := hverdict
    · exact absurd (hq.symm.trans hret) (by decide)
    · exact hsame.trans hcopy
  · have htevt : v.digest.evt = s.digest.evt ||| 0x10 := by
      rw [← hv, ← ht]
      exact (evt_clearSlotContexts k _).trans (evt_failSlotReader k _)
    rw [hevt, htevt]
    simp

end

/-! ### Reloads that end with a tick -/

section
variable {s : State}

/-- An instance but for the mark that its exhaustion was told. -/
def Inst.unsaid (x : Inst) : Inst := { x with belowSaid := false }

theorem inst_modInst_ne {i j : Sleeve} {k c : Fin 4} (h : ¬ (i = j ∧ k = c)) (f : Inst → Inst) (s : State) :
    (modInst i k f s).inst j c = s.inst j c := by
  show ((vmod s.fabric.insts i fun v => vmod v k f).get j).get c = _
  by_cases hi : i = j
  · subst hi
    rw [vget_vmod_same, vget_vmod_ne _ _ _ _ (fun hk => h ⟨rfl, hk⟩)]
    rfl
  · rw [vget_vmod_ne _ _ _ _ hi]
    rfl

theorem unsaid_settleFabric (i : Sleeve) (k : Fin 4) (s : State) : ((settleFabric s).inst i k).unsaid = (s.inst i k).unsaid :=
  inst_of_wear (t := settleFabric s) ((blind_wear (m := Inst.unsaid) (fun _ _ => rfl)).settleFabric s) i k

/-- A reload of an instance writes that instance alone. -/
theorem reloadInst_eq (i : Sleeve) (k : Fin 4) (s : State) : ∃ f, reloadInst i k s = modInst i k f s ∧ (∀ x, (f x).health = x.health) ∧
    ∀ x, (f x).owned = true → (f x).reseedReq = true := by
  have htwice (f g : Inst → Inst) : modInst i k f (modInst i k g s) = modInst i k (fun x => f (g x)) s := by
    unfold modInst modFabric
    dsimp only
    rw [vmod_vmod]
    refine congrArg (fun v => ({ s with fabric := { s.fabric with insts := v } } : State)) ?_
    refine congrArg (vset s.fabric.insts i) ?_
    dsimp only
    rw [vmod_vmod]
  unfold reloadInst
  dsimp only
  split
  · exact ⟨_, rfl, fun _ => rfl, fun _ => nofun⟩
  · unfold reloadRecord loadRecord
    dsimp only
    unfold loadInst
    split
    · exact ⟨_, htwice _ _, fun _ => rfl, fun _ _ => rfl⟩
    · exact ⟨_, htwice _ _, fun _ => rfl, fun _ => nofun⟩

/-- The end of a reload leaves every other instance. -/
theorem endInstReload_other {i j : Sleeve} {k c : Fin 4} (h : ¬ (i = j ∧ k = c)) (s : State) :
    ((endInstReload i k s).inst j c).unsaid = (s.inst j c).unsaid := by
  unfold endInstReload
  dsimp only
  split
  · rw [unsaid_settleFabric]
    split
    · rename_i hpass
      obtain ⟨f, hf, -, -⟩ := reloadInst_eq i k s
      have hpassed (t : State) : ((passRetest (.inst i k) t).inst j c) = t.inst j c := by
        unfold passRetest
        split
        · exact inst_modInst_ne h _ t
        · exact retireUnit_keeps (u := .inst i k) (view := fun t => t.inst j c) (fun _ _ => rfl) (fun _ _ => rfl) (fun _ _ => rfl)
            (fun _ t => inst_modInst_ne h _ t) (fun t => inst_modInst_ne h _ t) (fun t => by
              obtain ⟨l, hl⟩ := retireEvent_inst i k t
              rw [hl]
              rfl) t
      rw [hpassed, hf, inst_modInst_ne h]
    · exact congrArg Inst.unsaid (retireUnit_keeps (u := .inst i k) (view := fun t => t.inst j c) (fun _ _ => rfl) (fun _ _ => rfl)
        (fun _ _ => rfl) (fun _ t => inst_modInst_ne h _ t) (fun t => inst_modInst_ne h _ t) (fun t => by
          obtain ⟨l, hl⟩ := retireEvent_inst i k t
          rw [hl]
          rfl) s)
  · rfl

/-- What the end of a reload owes the instance that it ends for, by what it was. -/
def Inst.reloaded (old new : Inst) : Prop :=
  old.health.st = .quarantined → old.health.retest = true →
    (old.copyOk = true → (!old.health.unhandled && !old.health.again) = true →
      new.health.st = .inService ∧ (new.owned = true → new.reseedReq = true)) ∧
    ((old.copyOk = false ∨ (!old.health.unhandled && !old.health.again) = false) → new.health.st = .retired ∧ new.key = 0)

theorem reloaded_congr {old old' new new' : Inst} (ho : old'.unsaid = old.unsaid) (hn : new'.unsaid = new.unsaid)
    (h : old.reloaded new) : old'.reloaded new' := by
  have hh : old'.health = old.health := (congrArg Inst.health ho :)
  have hc : old'.copyOk = old.copyOk := (congrArg Inst.copyOk ho :)
  have hh' : new'.health = new.health := (congrArg Inst.health hn :)
  have howned : new'.owned = new.owned := (congrArg Inst.owned hn :)
  have hreq : new'.reseedReq = new.reseedReq := (congrArg Inst.reseedReq hn :)
  have hkey : new'.key = new.key := (congrArg Inst.key hn :)
  unfold Inst.reloaded
  rw [hh, hc, hh', howned, hreq, hkey]
  exact h

theorem reloaded_unsaid {old new : Inst} (h : old.reloaded new) : old.unsaid.reloaded new.unsaid := reloaded_congr rfl rfl h

theorem reloaded_of_unsaid {old new new' : Inst} (hn : new'.unsaid = new.unsaid) (h : old.unsaid.reloaded new.unsaid) :
    old.reloaded new' := reloaded_congr (old := old.unsaid) (new := new.unsaid) rfl hn h

theorem key_retireUnit_inst (i : Sleeve) (k : Fin 4) (s : State) : ((retireUnit (.inst i k) s).inst i k).key = 0 := by
  obtain ⟨v, hv⟩ : ∃ v, dropTest (.inst i k) (modHealth (.inst i k) (fun h => { h with
    st := .retired, retest := false, unhandled := false, again := false }) s) = v := ⟨_, rfl⟩
  have hkey : (v.inst i k).key = 0 := by
    rw [← hv]
    exact congrArg Inst.key (inst_modInst_same i k (fun x => { Inst.reset with health := x.health, owned := x.owned }) _)
  have hkeep := retireTail_keeps (u := .inst i k) (view := fun t => (t.inst i k).key) (fun _ _ => rfl) (fun _ _ => rfl) (fun _ _ => rfl)
    (fun t => by
      obtain ⟨l, hl⟩ := retireEvent_inst i k t
      rw [hl]
      rfl) s
  rw [hv] at hkeep
  exact hkeep.trans hkey

/-- The end of a reload. -/
theorem endInstReload_reloads (i : Sleeve) (k : Fin 4) (s : State) : (s.inst i k).reloaded ((endInstReload i k s).inst i k) := by
  intro hst hretest
  have hend : endInstReload i k s = settleFabric (if (s.inst i k).copyOk && s.recovers (.inst i k) then
      passRetest (.inst i k) (reloadInst i k s) else failRetest (.inst i k) s) := if_pos ⟨hst, hretest⟩
  obtain ⟨v, hv⟩ : ∃ v, (if (s.inst i k).copyOk && s.recovers (.inst i k) then
      passRetest (.inst i k) (reloadInst i k s) else failRetest (.inst i k) s) = v := ⟨_, rfl⟩
  rw [hend, hv]
  have hsettled := unsaid_settleFabric i k v
  have hhealth : ((settleFabric v).inst i k).health = (v.inst i k).health := (congrArg Inst.health hsettled :)
  have howned : ((settleFabric v).inst i k).owned = (v.inst i k).owned := (congrArg Inst.owned hsettled :)
  have hreq : ((settleFabric v).inst i k).reseedReq = (v.inst i k).reseedReq := (congrArg Inst.reseedReq hsettled :)
  have hkey : ((settleFabric v).inst i k).key = (v.inst i k).key := (congrArg Inst.key hsettled :)
  rw [hhealth, howned, hreq, hkey]
  refine ⟨fun hcopy hrec => ?_, fun hfail => ?_⟩
  · obtain ⟨f, hf, hfhealth, hfreq⟩ := reloadInst_eq i k s
    have hreload : ((modInst i k f s).inst i k) = f (s.inst i k) := inst_modInst_same i k f s
    have hrecovers : (modInst i k f s).recovers (.inst i k) = true := by
      show (!((modInst i k f s).inst i k).health.unhandled && !((modInst i k f s).inst i k).health.again) = true
      rw [hreload, hfhealth]
      exact hrec
    have hpass : v = modHealth (.inst i k) (fun h => { h with st := .inService, retest := false, unhandled := false, again := false })
        (modInst i k f s) := by
      rw [← hv, hcopy, show s.recovers (.inst i k) = true from hrec, hf]
      exact passRetest_passes hrecovers
    have hinst : v.inst i k = { f (s.inst i k) with health := { (f (s.inst i k)).health with
        st := .inService, retest := false, unhandled := false, again := false } } := by
      rw [hpass, ← hreload]
      exact inst_modInst_same i k _ _
    rw [hinst]
    exact ⟨rfl, hfreq _⟩
  · have hnot : ((s.inst i k).copyOk && s.recovers (.inst i k)) = false := by
      obtain h | h := hfail
      · rw [h, Bool.false_and]
      · rw [show s.recovers (.inst i k) = false from h, Bool.and_false]
    have hretire : v = retireUnit (.inst i k) s := by
      rw [← hv, hnot]
      rfl
    rw [hretire]
    exact ⟨retireUnit_retired (u := .inst i k) rfl s, key_retireUnit_inst i k s⟩

end

section
variable {s : State}

/-- A loop over distinct things does to what only one of them touches what that one does. -/
theorem forAll_once {α β : Type} {f : β → State → State} {g : State → α} {R : α → α → Prop} {x : β} {l : List β} (hx : x ∈ l)
    (hl : l.Nodup) (hother : ∀ y, y ≠ x → ∀ s, g (f y s) = g s) (hself : ∀ s, R (g s) (g (f x s))) (s : State) :
    R (g s) (g (forAll l f s)) := by
  obtain ⟨l₁, l₂, rfl⟩ := List.append_of_mem hx
  rw [List.nodup_append] at hl
  obtain ⟨-, hnodup, hdisjoint⟩ := hl
  have hbefore : g (forAll l₁ f s) = g s :=
    forAll_keeps (fun y hy t => hother y (hdisjoint y hy x List.mem_cons_self) t) s
  have hafter (t : State) : g (forAll l₂ f t) = g t :=
    forAll_keeps (fun y hy t => hother y (fun e => (List.nodup_cons.mp hnodup).1 (e ▸ hy)) t) t
  have hsplit : forAll (l₁ ++ x :: l₂) f s = forAll l₂ f (f x (forAll l₁ f s)) := by
    unfold forAll
    rw [List.foldl_append, List.foldl_cons]
  rw [hsplit, hafter, ← hbefore]
  exact hself _

theorem allEntries_nodup : (allEntries).Nodup := by decide

theorem mem_allEntries (q : Sleeve × Fin 4) : q ∈ allEntries := by
  revert q
  decide

theorem slots_of_calm {s t : State} (h : t.calm = s.calm) : t.slots = s.slots := by
  simpa only [State.calm] using congrArg State.slots h

theorem blind_slots : Blind (fun _ => ()) (fun s => s.slots) :=
  blind_calm (fun _ _ => rfl) (fun _ _ h => slots_of_calm h) (fun _ _ => rfl) (fun _ _ _ _ => rfl) (fun _ _ _ => rfl) (fun _ _ => rfl)
    (fun _ _ _ => rfl)

/-- The end of an instance's reload leaves the slots. -/
theorem slots_endInstReload (i : Sleeve) (k : Fin 4) (s : State) : (endInstReload i k s).slots = s.slots := by
  have hretire (t : State) : (retireUnit (.inst i k) t).slots = t.slots :=
    retireUnit_keeps (u := .inst i k) (view := fun t => t.slots) (fun _ _ => rfl) (fun _ _ => rfl) (fun _ _ => rfl)
      (fun _ _ => rfl) (fun _ => rfl) (fun t => by
        obtain ⟨l, hl⟩ := retireEvent_inst i k t
        rw [hl]) t
  unfold endInstReload
  dsimp only
  split
  · refine (blind_slots.settleFabric _).trans ?_
    split
    · obtain ⟨f, hf, -, -⟩ := reloadInst_eq i k s
      rw [hf]
      unfold passRetest
      split
      · rfl
      · exact (hretire _).trans rfl
    · exact hretire s
  · rfl

/-- A reload of a slot writes that slot alone, and keeps its health. -/
theorem reloadSlot_eq (k : Fin 32) (s : State) : ∃ f, reloadSlot k s = modSlot k f s ∧ ∀ x, (f x).health = x.health := by
  unfold reloadSlot
  split
  · exact ⟨_, rfl, fun _ => rfl⟩
  · unfold reloadRecord loadRecord
    dsimp only
    unfold loadSlotRec
    split
    · exact ⟨_, rfl, fun _ => rfl⟩
    · exact ⟨_, rfl, fun _ => rfl⟩

theorem endSlotReload_keeps {α : Type} {view : State → α} {k : Fin 32} (hslot : ∀ f s, view (modSlot k f s) = view s)
    (hlog : ∀ l s, view { s with log := l } = view s) (hlining : ∀ f s, view (modLining f s) = view s)
    (hfloor : ∀ e s, view (modFloor (fun f => { f with evt := f.evt ||| e }) s) = view s) (s : State) : view (endSlotReload k s) = view s := by
  have hretire (t : State) : view (retireUnit (.slot k) t) = view t :=
    retireUnit_keeps (u := .slot k) (view := view) hlog hlining hfloor
      (fun _ t => hslot _ t) (fun t => hslot _ t) (fun t => by
        obtain ⟨l, hl⟩ := retireEvent_slot k t
        rw [hl, hlog]) t
  unfold endSlotReload
  dsimp only
  split
  · split
    · obtain ⟨f, hf, -⟩ := reloadSlot_eq k s
      rw [hf]
      unfold passRetest
      split
      · exact (hslot _ _).trans (hslot f s)
      · exact (hretire _).trans (hslot f s)
    · exact hretire s
  · rfl

/-- What the end of a reload owes the slot that it ends for, by what it was. -/
def Slot.reloaded (old new : Slot) : Prop :=
  old.health.st = .quarantined → old.health.retest = true →
    (old.copyOk = true → (!old.health.unhandled && !old.health.again) = true → new.health.st = .inService) ∧
    ((old.copyOk = false ∨ (!old.health.unhandled && !old.health.again) = false) →
      new.health.st = .retired ∧ new.hash = 0 ∧ new.inner = [] ∧ new.outer = [])

theorem secret_retireUnit_slot (k : Fin 32) (s : State) : ((retireUnit (.slot k) s).slot k).hash = 0 ∧
    ((retireUnit (.slot k) s).slot k).inner = [] ∧ ((retireUnit (.slot k) s).slot k).outer = [] := by
  have hkeep := retireTail_keeps (u := .slot k) (view := fun t => t.slot k) (fun _ _ => rfl) (fun _ _ => rfl) (fun _ _ => rfl)
    (fun t => by
      obtain ⟨l, hl⟩ := retireEvent_slot k t
      rw [hl]
      rfl) s
  have hdrop (v : State) : (dropTest (.slot k) v).slot k = { v.slot k with hash := 0, inner := [], outer := [] } := slot_modSlot_same k _ v
  rw [hkeep, hdrop]
  exact ⟨rfl, rfl, rfl⟩

theorem endSlotReload_reloads (k : Fin 32) (s : State) : (s.slot k).reloaded ((endSlotReload k s).slot k) := by
  intro hst hretest
  have hend : endSlotReload k s = (if (s.slot k).copyOk && s.recovers (.slot k) then
      passRetest (.slot k) (reloadSlot k s) else failRetest (.slot k) s) := if_pos ⟨hst, hretest⟩
  refine ⟨fun hcopy hrec => ?_, fun hfail => ?_⟩
  · obtain ⟨f, hf, hfhealth⟩ := reloadSlot_eq k s
    have hrecovers : (modSlot k f s).recovers (.slot k) = true := by
      show (!((modSlot k f s).slot k).health.unhandled && !((modSlot k f s).slot k).health.again) = true
      rw [slot_modSlot_same, hfhealth]
      exact hrec
    rw [hend, hcopy, show s.recovers (.slot k) = true from hrec, hf]
    exact passRetest_inService (u := .slot k) hrecovers
  · have hnot : ((s.slot k).copyOk && s.recovers (.slot k)) = false := by
      obtain h | h := hfail
      · rw [h, Bool.false_and]
      · rw [show s.recovers (.slot k) = false from h, Bool.and_false]
    have hretire : endSlotReload k s = retireUnit (.slot k) s := by
      rw [hend, hnot]
      rfl
    rw [hretire]
    exact ⟨retireUnit_retired (u := .slot k) rfl s, secret_retireUnit_slot k s⟩

theorem endInstReload_reloads_unsaid (i : Sleeve) (k : Fin 4) (s : State) :
    (s.inst i k).unsaid.reloaded ((endInstReload i k s).inst i k).unsaid := by
  have h := endInstReload_reloads i k s
  obtain ⟨x, hx⟩ : ∃ x, (endInstReload i k s).inst i k = x := ⟨_, rfl⟩
  rw [hx] at h ⊢
  exact reloaded_unsaid h

/-- A tick ends the reloads that instances and slots wait for. -/
theorem endReloads_reloads (i : Sleeve) (k : Fin 4) (c : Fin 32) (s : State) :
    (s.inst i k).reloaded ((endReloads s).inst i k) ∧ (s.slot c).reloaded ((endReloads s).slot c) := by
  obtain ⟨v, hv⟩ : ∃ v, forAll allEntries (fun q => endInstReload q.1 q.2) s = v := ⟨_, rfl⟩
  have hend : endReloads s = forAll (List.finRange 32) endSlotReload v := by
    rw [← hv]
    rfl
  have hfabric : (endReloads s).fabric = v.fabric := by
    rw [hend]
    exact forAll_keeps (g := State.fabric) (fun k _ t => endSlotReload_keeps (fun _ _ => rfl) (fun _ _ => rfl) (fun _ _ => rfl)
      (fun _ _ => rfl) t) v
  have hslots : v.slots = s.slots := by
    rw [← hv]
    exact forAll_keeps (f := fun q : Sleeve × Fin 4 => endInstReload q.1 q.2) (g := State.slots)
      (fun q _ t => slots_endInstReload q.1 q.2 t) s
  constructor
  · obtain ⟨e, he⟩ : ∃ e : Sleeve × Fin 4 → State → State, (fun q => endInstReload q.1 q.2) = e := ⟨_, rfl⟩
    have hother (q : Sleeve × Fin 4) (hq : q ≠ (i, k)) (t : State) : ((e q t).inst i k).unsaid = (t.inst i k).unsaid := by
      rw [← he]
      exact endInstReload_other (fun h => hq (Prod.ext h.1 h.2)) t
    have hself (t : State) : (t.inst i k).unsaid.reloaded ((e (i, k) t).inst i k).unsaid := by
      rw [← he]
      exact endInstReload_reloads_unsaid i k t
    have hloop := forAll_once (g := fun t => (t.inst i k).unsaid) (R := Inst.reloaded) (f := e) (mem_allEntries (i, k)) allEntries_nodup
      hother hself s
    rw [he] at hv
    rw [hv] at hloop
    refine reloaded_of_unsaid ?_ hloop
    exact congrArg (fun f : Fabric => ((f.insts.get i).get k).unsaid) hfabric
  · have hloop := forAll_once (g := fun t => t.slot c) (R := Slot.reloaded) (List.mem_finRange c) (List.nodup_finRange 32)
      (f := endSlotReload)
      (fun j hj t => endSlotReload_keeps (k := j) (view := fun t => t.slot c) (fun f t => slot_modSlot_ne _ _ f t hj) (fun _ _ => rfl)
        (fun _ _ => rfl) (fun _ _ => rfl) t)
      (fun t => endSlotReload_reloads c t) v
    rw [← hend] at hloop
    have hslot : v.slot c = s.slot c := congrArg (fun w => w.get c) hslots
    rwa [hslot] at hloop

/-- Settles O57: the rows of each kind of unit, and the tick that ends the reloads. -/
theorem unitsRecover : Obligations.UnitsRecover := by
  intro s k c e i slot
  refine ⟨fun hst hbist reader => execAesMismatch_faults hst hbist reader, fun hst hretest hbist => execAesRetestEnd_ends hst hretest hbist,
    execSvcKat_ends, execSvcCoreFault_faults, fun hst hretest hbist => execSvcRetestEnd_ends hst hretest hbist,
    fun hst howned good => execInstLiningFault_faults hst howned good, fun hst good => execSlotLiningFault_faults hst good,
    fun hpending hrun => ?_⟩
  obtain ⟨hinst, hslot⟩ := endReloads_reloads i k slot (passMicrosecond s)
  refine ⟨endReloads (passMicrosecond s), ?_, hinst, hslot⟩
  unfold step
  rw [hpending]
  exact congrArg Host.Outcome.next (if_pos hrun)

end

end Sys2Proof.Machine
end

section
/-! SUPPORT. Samples, tests and captures of the threads, and the floor. -/

namespace Sys2Proof.Machine

/-! ### Trips of a thread -/

section
variable {P : State → Prop} {u : UnitRef}

/-- The handling of a fault keeps what each of its steps keeps. -/
theorem handleUnit_preserves (hhealth : ∀ f s, P s → P (modHealth u f s)) (hretest : ∀ s, P s → P (startRetest u s))
    (hretire : ∀ s, P s → P (retireNow u s)) (at_ : Nat) {s : State} (h : P s) : P (handleUnit u at_ s) := by
  unfold handleUnit
  dsimp only
  split
  · split
    · exact hhealth _ _ h
    · split
      · exact hretire _ h
      · split
        · exact hretest _ (hhealth _ _ h)
        · split
          · exact hretire _ h
          · exact hretest _ (hhealth _ _ h)
  · exact h

theorem offerUnit_preserves (hlog : ∀ l s, P s → P { s with log := l }) (hhealth : ∀ f s, P s → P (modHealth u f s))
    (hretest : ∀ s, P s → P (startRetest u s)) (hretire : ∀ s, P s → P (retireNow u s)) {code : BitVec 16} (h3 : rankOf code ≠ 3)
    (src : Nat) (data : List Byte) {s : State} (h : P s) : P (offerUnit u code src data s) := by
  obtain ⟨l, heq | ⟨at_, heq⟩⟩ := offerUnit_cases h3 u src data s
  · rw [heq]
    exact hlog l s h
  · rw [heq]
    exact handleUnit_preserves hhealth hretest hretire at_ (hlog l s h)

theorem faultUnit_preserves (hlog : ∀ l s, P s → P { s with log := l }) (hhealth : ∀ f s, P s → P (modHealth u f s))
    (hretest : ∀ s, P s → P (startRetest u s)) (hretire : ∀ s, P s → P (retireNow u s)) {code : BitVec 16} (h3 : rankOf code ≠ 3)
    (src : Nat) (data : List Byte) {s : State} (h : P s) : P (faultUnit u code src data s) := by
  have hoffer {t : State} (ht : P t) : P (offerUnit u code src data t) :=
    offerUnit_preserves hlog hhealth hretest hretire h3 src data ht
  unfold faultUnit
  dsimp only
  split
  · exact h
  · split
    · exact hhealth _ _ h
    · exact hoffer (hhealth _ _ h)
  · exact hoffer (hhealth _ _ h)

end

section
variable {t : Thread} {s u v : State}

theorem modThread_modThread (t : Thread) (f g : ThreadSt → ThreadSt) (s : State) :
    modThread t f (modThread t g s) = modThread t (fun x => f (g x)) s :=
  congrArg (fun v => ({ s with threads := v } : State)) (vmod_vmod s.threads t f g)

/-- What THR_TRIP shows. -/
def Floor.toll (f : Floor) : Nat × Nat × Nat := (f.trips, f.lastThread, f.lastKind)

/-- `y` is what recovery makes of `x`: it may drop windows and the pass of a test, and keeps the block estimates. -/
structure ThreadSt.Lapses (x y : ThreadSt) : Prop where
  held : x.heldBack = [] → y.heldBack = []
  pos : x.estPos = 0 → y.estPos = 0
  ests : y.ests = x.ests
  passed : x.passed = false → y.passed = false

theorem ThreadSt.Lapses.refl (x : ThreadSt) : x.Lapses x := ⟨id, id, rfl, id⟩

theorem ThreadSt.Lapses.trans {x y z : ThreadSt} (h : x.Lapses y) (h' : y.Lapses z) : x.Lapses z :=
  ⟨fun e => h'.held (h.held e), fun e => h'.pos (h.pos e), h'.ests.trans h.ests, fun e => h'.passed (h.passed e)⟩

/-- A step of recovery of the thread `t`: THR_TRIP stays and the thread lapses. -/
structure Recoils (t : Thread) (s u : State) : Prop where
  toll : u.floor.toll = s.floor.toll
  lapse : (s.thread t).Lapses (u.thread t)

theorem Recoils.refl (t : Thread) (s : State) : Recoils t s s := ⟨rfl, .refl _⟩

theorem Recoils.trans (h : Recoils t s u) (h' : Recoils t u v) : Recoils t s v := ⟨h'.toll.trans h.toll, h.lapse.trans h'.lapse⟩

theorem recoils_modThread {f : ThreadSt → ThreadSt} (h : ∀ x : ThreadSt, x.Lapses (f x)) (k : Thread) (s : State) :
    Recoils t s (modThread k f s) := by
  refine ⟨rfl, ?_⟩
  by_cases hk : k = t
  · subst hk
    rw [thread_modThread_same]
    exact h _
  · rw [thread_modThread_ne _ _ _ _ hk]
    exact .refl _

theorem recoils_modHealth (t : Thread) (f : Health → Health) (s : State) : Recoils t s (modHealth (.thread t) f s) :=
  recoils_modThread (by intro _; exact ⟨id, id, rfl, id⟩) t s

theorem recoils_startShort (t : Thread) (s : State) : Recoils t s (startShort t s) :=
  recoils_modThread (by intro _; exact ⟨fun _ => rfl, fun _ => rfl, rfl, fun _ => rfl⟩) t s

theorem recoils_startRetest (t : Thread) (s : State) : Recoils t s (startRetest (.thread t) s) := by
  rw [startRetest_thread]
  split
  · exact recoils_modHealth t _ s
  · exact (recoils_modHealth t _ s).trans (recoils_startShort t _)

theorem recoils_retireUnit (t : Thread) (s : State) : Recoils t s (retireUnit (.thread t) s) := by
  have hkeep := retireTail_keeps (u := .thread t) (view := fun u => (u.floor.toll, u.thread t)) (fun _ _ => rfl) (fun _ _ => rfl)
    (fun _ _ => rfl) (fun u => by
      obtain ⟨l, hl⟩ := raiseD_log (code := 0x5031) (by decide) [BitVec.ofNat 8 t.val]
        (modFloor (fun f => { f with evt := f.evt ||| 0x02 }) u)
      unfold retireEvent
      dsimp only
      rw [hl]
      rfl) s
  obtain ⟨htoll, hthread⟩ := Prod.mk.inj hkeep
  have hdrop : Recoils t s (dropTest (.thread t) (modHealth (.thread t) (fun h => { h with
      st := .retired, retest := false, unhandled := false, again := false }) s)) :=
    (recoils_modHealth t _ s).trans (recoils_modThread (by intro _; exact ⟨id, id, rfl, fun _ => rfl⟩) t _)
  exact ⟨htoll.trans hdrop.toll, hthread ▸ hdrop.lapse⟩

theorem recoils_offerUnit {code : BitVec 16} (h3 : rankOf code ≠ 3) (src : Nat) (data : List Byte) (t : Thread) (s : State) :
    Recoils t s (offerUnit (.thread t) code src data s) :=
  offerUnit_preserves (P := Recoils t s) (fun _ _ h => h.trans ⟨rfl, .refl _⟩) (fun _ _ h => h.trans (recoils_modHealth t _ _))
    (fun _ h => h.trans (recoils_startRetest t _)) (fun _ h => h.trans (recoils_retireUnit t _)) h3 src data (.refl t s)

theorem recoils_faultUnit {code : BitVec 16} (h3 : rankOf code ≠ 3) (src : Nat) (data : List Byte) (t : Thread) (s : State) :
    Recoils t s (faultUnit (.thread t) code src data s) :=
  faultUnit_preserves (P := Recoils t s) (fun _ _ h => h.trans ⟨rfl, .refl _⟩) (fun _ _ h => h.trans (recoils_modHealth t _ _))
    (fun _ h => h.trans (recoils_startRetest t _)) (fun _ h => h.trans (recoils_retireUnit t _)) h3 src data (.refl t s)

/-- The fold thread's successor starts a test; no thread's health changes. -/
theorem foldTakeover_recoils (t : Thread) (s : State) :
    Recoils t s (foldTakeover s) ∧ ((foldTakeover s).thread t).health = (s.thread t).health := by
  have hstep {f : ThreadSt → ThreadSt} (h : ∀ x : ThreadSt, x.Lapses (f x) ∧ (f x).health = x.health) (k : Thread) (v : State) :
      Recoils t v (modThread k f v) ∧ ((modThread k f v).thread t).health = (v.thread t).health := by
    refine ⟨recoils_modThread (fun x => (h x).1) k v, ?_⟩
    by_cases hk : k = t
    · subst hk
      rw [thread_modThread_same]
      exact (h _).2
    · rw [thread_modThread_ne _ _ _ _ hk]
  unfold foldTakeover
  split
  · exact ⟨.refl t s, rfl⟩
  · split
    · exact ⟨.refl t s, rfl⟩
    · split
      · exact ⟨.refl t s, rfl⟩
      · rename_i k _ _
        dsimp only
        obtain ⟨hoff, hoffh⟩ := hstep (f := fun x => { ThreadSt.restart x with foldOff := true, test := .none })
          (fun _ => ⟨⟨fun _ => rfl, fun _ => rfl, rfl, id⟩, rfl⟩) k s
        split
        · rename_i j _ _
          obtain ⟨hon, honh⟩ := hstep (f := fun x => { x with foldOff := false }) (fun _ => ⟨⟨id, id, rfl, id⟩, rfl⟩) j
            (modThread k (fun x => { ThreadSt.restart x with foldOff := true, test := .none }) s)
          obtain ⟨hfull, hfullh⟩ := hstep (f := fun x => { x with
              test := .full, testPos := 0, testBad := false, checkPos := 0, checkHits := 0, fullDue := false, secondTry := false
              passed := false, rctCount := 0, aptCount := 0, aptPos := 0, heldBack := [], driftPos := 0, driftOnes := 0
              driftPairs := 0, estPos := 0, estOnes := 0, estPairs := Vector.replicate 4 0, bits := [] })
            (fun _ => ⟨⟨fun _ => rfl, fun _ => rfl, rfl, fun _ => rfl⟩, rfl⟩) j (modThread j (fun x => { x with foldOff := false })
              (modThread k (fun x => { ThreadSt.restart x with foldOff := true, test := .none }) s))
          exact ⟨(hoff.trans hon).trans (hfull.trans ⟨rfl, .refl _⟩), hfullh.trans (honh.trans hoffh)⟩
        · exact ⟨hoff.trans ⟨rfl, .refl _⟩, hoffh⟩

/-- What a trip of the thread `t` owes: THR_TRIP counts it, the thread is out of service and its windows are gone. -/
structure Tripped (t : Thread) (kind : Nat) (s u : State) : Prop where
  trips : u.floor.trips = min 65535 (s.floor.trips + 1)
  lastThread : u.floor.lastThread = t.val
  lastKind : u.floor.lastKind = kind
  out : (u.thread t).health.st ≠ .inService
  held : (u.thread t).heldBack = []
  pos : (u.thread t).estPos = 0
  ests : (u.thread t).ests = (s.thread t).ests
  passed : (s.thread t).passed = false → (u.thread t).passed = false

theorem rankOf_tripCode (kind : Nat) : rankOf (tripCode kind) ≠ 3 := by
  unfold tripCode
  split <;> decide

theorem tripNow_trips (h : s.captured t = false) (kind : Nat) : Tripped t kind s (tripNow t kind s) := by
  obtain ⟨v, hv⟩ : ∃ v, modThread t (fun x => { ThreadSt.fresh x with secondTry := false, capHold := false }) (noteTrip t kind s) = v :=
    ⟨_, rfl⟩
  have hthread : v.thread t = { ThreadSt.fresh (s.thread t) with secondTry := false, capHold := false } := by
    rw [← hv]
    exact thread_modThread_same t _ _
  have hfloor : v.floor.toll = (min 65535 (s.floor.trips + 1), t.val, kind) := by
    rw [← hv]
    rfl
  obtain ⟨w, hw⟩ : ∃ w, faultUnit (.thread t) (tripCode kind) 15 [BitVec.ofNat 8 t.val] v = w := ⟨_, rfl⟩
  have htrip : tripNow t kind s = foldTakeover w := by
    rw [tripNow, trip, if_neg (by rw [h]; decide), tripThread, hv, hw]
  have hfault : Recoils t v w := hw ▸ recoils_faultUnit (rankOf_tripCode kind) 15 _ t v
  have hout : (w.thread t).health.st ≠ .inService := hw ▸ faultUnit_out (u := .thread t) (contained_of_plain rfl) (rankOf_tripCode kind) 15 _ v
  obtain ⟨hfold, hhealth⟩ := foldTakeover_recoils t w
  obtain ⟨htoll, hheld, hpos, hests, hpassed⟩ := hfault.trans hfold
  rw [hthread] at hheld hpos hests hpassed
  rw [hfloor] at htoll
  obtain ⟨htrips, hrest⟩ := Prod.mk.inj htoll
  obtain ⟨hlast, hkind⟩ := Prod.mk.inj hrest
  rw [htrip]
  exact ⟨htrips, hlast, hkind, by rwa [hhealth], hheld rfl, hpos rfl, hests, hpassed⟩

end

/-! ### Samples, windows and blocks -/

section
variable {t : Thread} {s u : State}

theorem modThread_const (t : Thread) (f : ThreadSt → ThreadSt) (s : State) :
    modThread t (fun _ => (modThread t f s).thread t) s = modThread t f s := by
  rw [thread_modThread_same]
  rfl

theorem rctCutoff_eq (t : Thread) : rctCutoff t = if t.val < 12 then 61 else 39 := by simp [rctCutoff, isM]
theorem aptCutoff_eq (t : Thread) : aptCutoff t = if t.val < 12 then 813 else 684 := by simp [aptCutoff, isM]
theorem driftCutoff_eq (t : Thread) : driftCutoff t = if t.val < 12 then 196 else 184 := by simp [driftCutoff, isM]
theorem estTrip_eq (t : Thread) : estTrip t = if t.val < 12 then 250 else 400 := by simp [estTrip, isM]

/-- The repetition count after a sample. -/
def ThreadSt.runAfter (b : Bool) (x : ThreadSt) : Nat :=
  if x.rctCount = 0 then 1 else if x.rctLast = b then x.rctCount + 1 else 1

/-- The adaptive proportion count after a sample. -/
def ThreadSt.sameAfter (b : Bool) (x : ThreadSt) : Nat :=
  if x.aptPos = 0 then 1 else if b = x.aptRef then x.aptCount + 1 else x.aptCount

theorem aptStep_eq (b : Bool) (x : ThreadSt) :
    ∃ r, aptStep b x = { x with aptRef := r, aptCount := x.sameAfter b, aptPos := x.aptPos + 1 } := by
  unfold aptStep ThreadSt.sameAfter
  split
  · rename_i h
    rw [h]
    exact ⟨b, rfl⟩
  · exact ⟨x.aptRef, rfl⟩

/-- What a sample leaves of a thread: counted, and seen by the servo of an A-thread. -/
def ThreadSt.counted (t : Thread) (b : Bool) (x : ThreadSt) : ThreadSt :=
  if isM t then { x with count := x.count + 1 } else servoStep b { x with count := x.count + 1 }

theorem ThreadSt.counted_eq (t : Thread) (b : Bool) (x : ThreadSt) : ∃ n, x.counted t b =
    { x with count := x.count + 1, servoOnes := n, servoPos := x.servoPos + if t.val < 12 then 0 else 1 } := by
  unfold ThreadSt.counted
  split
  · rename_i hM
    rw [if_pos (of_decide_eq_true hM)]
    exact ⟨x.servoOnes, rfl⟩
  · rename_i hM
    rw [if_neg (fun h => hM (decide_eq_true h))]
    exact ⟨x.servoOnes + bit b, rfl⟩

/-- A thread under no test and no capture, with no window full, takes a sample. -/
theorem threadSample_runs {code : BitVec 4} (hsamples : s.samples t = true) (hcap : s.captured t = false)
    (hbist : (s.thread t).health.bist = false) (htest : (s.thread t).test = .none) (hapt : (s.thread t).aptPos < 1024)
    (hdrift : (s.thread t).driftPos < 4096) (hest : (s.thread t).estPos < 65536) (hservo : (s.thread t).servoPos < 65536) :
    threadSample t code s = sampleRun t (code.getLsbD 0) (modThread t (ThreadSt.counted t (code.getLsbD 0)) s) := by
  obtain ⟨v, hv⟩ : ∃ v, modThread t (fun x => { x with count := x.count + 1 }) s = v := ⟨_, rfl⟩
  have hthread : v.thread t = { s.thread t with count := (s.thread t).count + 1 } := by
    rw [← hv]
    exact thread_modThread_same t _ s
  have hclosed : closeServo t (closeEstimate t (closeDrift t (closeApt t v))) = v := by
    have happt : closeApt t v = v := by
      rw [closeApt, if_neg]
      rw [hthread]
      exact fun h => absurd h.2 hapt.ne
    have hdrft : closeDrift t v = v := by
      rw [closeDrift, if_neg]
      rw [hthread]
      exact hdrift.ne
    have hestm : closeEstimate t v = v := by
      rw [closeEstimate, if_neg]
      rw [hthread]
      exact hest.ne
    have hsrv : closeServo t v = v := by
      rw [closeServo, if_pos]
      rw [hthread]
      exact Bool.or_eq_true_iff.mpr (.inr (decide_eq_true hservo.ne))
    rw [happt, hdrft, hestm, hsrv]
  have huncaptured : sampleCapture t code v = v := by
    have hvcap : v.captured t = false := by
      rw [← hv]
      exact hcap
    unfold sampleCapture
    rw [hvcap]
    rfl
  have hcounted : (if isM t then v else modThread t (servoStep (code.getLsbD 0)) v) =
      modThread t (ThreadSt.counted t (code.getLsbD 0)) s := by
    rw [← hv, modThread_modThread]
    unfold ThreadSt.counted
    split <;> rfl
  unfold threadSample
  dsimp only
  rw [if_neg (by rw [hsamples, hbist]; decide), if_neg (by rw [ThreadSt.injecting, htest]; exact Bool.false_ne_true),
    if_neg (by rw [htest]; exact Bool.false_ne_true), hv, hclosed, huncaptured, hcounted, if_pos]
  obtain ⟨n, hn⟩ := (s.thread t).counted_eq t (code.getLsbD 0)
  rw [thread_modThread_same, hn]
  exact htest

/-- A sample counted in every test. -/
def ThreadSt.sampled (t : Thread) (b : Bool) (x : ThreadSt) : ThreadSt := runStep t b (x.counted t b)

theorem sampleRun_counted (b : Bool) (s : State) : sampleRun t b (modThread t (ThreadSt.counted t b) s) =
    if (s.thread t).runAfter b = rctCutoff t then tripNow t 0 (modThread t (ThreadSt.sampled t b) s)
    else if (s.thread t).sameAfter b = aptCutoff t then tripNow t 1 (modThread t (ThreadSt.sampled t b) s)
    else modThread t (ThreadSt.sampled t b) s := by
  obtain ⟨n, hn⟩ := (s.thread t).counted_eq t b
  obtain ⟨r, hr⟩ := aptStep_eq b (rctStep b ((s.thread t).counted t b))
  have hrun : (aptStep b (rctStep b ((s.thread t).counted t b))).rctCount = (s.thread t).runAfter b := by
    rw [hr, hn]
    rfl
  have hsame : (aptStep b (rctStep b ((s.thread t).counted t b))).aptCount = (s.thread t).sameAfter b := by
    rw [hr, hn]
    rfl
  unfold sampleRun
  dsimp only
  rw [thread_modThread_same, modThread_modThread, hrun, hsame]
  rfl

theorem ThreadSt.sampled_fields {b : Bool} {x : ThreadSt} (h : x.sameAfter b ≠ aptCutoff t) : let y := x.sampled t b
    y.heldBack = b :: x.heldBack ∧ y.rctCount = x.runAfter b ∧ y.rctLast = b ∧ y.aptCount = x.sameAfter b ∧ y.aptPos = x.aptPos + 1 ∧
      y.driftPos = x.driftPos + 1 ∧ y.estPos = x.estPos + 1 ∧ y.estOnes = x.estOnes + bit b ∧ y.health = x.health ∧
      y.release = x.release ∧ y.servoPos = x.servoPos + (if t.val < 12 then 0 else 1) := by
  obtain ⟨n, hn⟩ := x.counted_eq t b
  obtain ⟨r, hr⟩ := aptStep_eq b (rctStep b (x.counted t b))
  have hstep : x.sampled t b = { estStep b (driftStep b (aptStep b (rctStep b (x.counted t b)))) with
      heldBack := b :: (estStep b (driftStep b (aptStep b (rctStep b (x.counted t b))))).heldBack } := by
    unfold ThreadSt.sampled runStep
    refine if_neg ?_
    rw [hr, hn]
    exact h
  rw [hstep, hr, hn]
  exact ⟨rfl, rfl, rfl, rfl, rfl, rfl, rfl, rfl, rfl, rfl, rfl⟩

/-! ### The ends of windows and blocks -/

theorem closeApt_releases (htest : (s.thread t).test = .none) (hpos : (s.thread t).aptPos = 1024) (hdel : s.delivers t = true) :
    closeApt t s = modThread t (fun x => { x with
      release := (x.release ++ (takeBytes 200 ((s.thread t).bits ++ (s.thread t).heldBack.reverse)).1).take
        (max x.release.length Config.releaseBytes)
      bits := (takeBytes 200 ((s.thread t).bits ++ (s.thread t).heldBack.reverse)).2, aptPos := 0, aptCount := 0, heldBack := [] }) s := by
  rw [closeApt, if_pos ⟨htest, hpos⟩, releaseWindow, if_pos hdel, modThread_modThread]
  rfl

theorem closeDrift_fresh (hpos : (s.thread t).driftPos = 4096) (h : driftFigure (s.thread t) < driftCutoff t) :
    closeDrift t s = modThread t (fun y => { y with driftPos := 0, driftOnes := 0, driftPairs := 0 }) s := by
  rw [closeDrift, if_pos hpos, if_neg (Nat.not_le.mpr h)]

theorem closeDrift_trips (hcap : s.captured t = false) (hpos : (s.thread t).driftPos = 4096)
    (h : driftCutoff t ≤ driftFigure (s.thread t)) : Tripped t 2 (modThread t (fun y => { y with
      driftPos := 0, driftOnes := 0, driftPairs := 0 }) s) (closeDrift t s) := by
  rw [closeDrift, if_pos hpos, if_pos h]
  exact tripNow_trips (s := modThread t _ s) hcap 2

/-- The note of a low credit leaves THR_TRIP, the capture and all of the thread but what it has released. -/
theorem noteLowCredit_keeps (t : Thread) (s : State) : (noteLowCredit t s).floor = s.floor ∧
    (noteLowCredit t s).capture = s.capture ∧ ∃ low bytes, (noteLowCredit t s).thread t =
      { s.thread t with lowCred := low, release := bytes } := by
  obtain ⟨f, hf⟩ : ∃ f : ThreadSt → ThreadSt, (fun x : ThreadSt => { x with
      lowCred := decide (s.creditBit t < 100), release := if decide (s.creditBit t < 100) then [] else x.release }) = f := ⟨_, rfl⟩
  have hthread : (modThread t f s).thread t = { s.thread t with
      lowCred := decide (s.creditBit t < 100), release := if decide (s.creditBit t < 100) then [] else (s.thread t).release } := by
    rw [← hf]
    exact thread_modThread_same t _ s
  unfold noteLowCredit
  dsimp only
  rw [hf]
  split
  · obtain ⟨l, hl⟩ := raiseD_log (code := 0x5055) (by decide) [BitVec.ofNat 8 t.val]
      (modYoke (fun y => { y with evt := y.evt ||| 0x8 }) (modThread t f s))
    rw [hl]
    exact ⟨rfl, rfl, _, _, hthread⟩
  · exact ⟨rfl, rfl, _, _, hthread⟩

theorem closeEstimate_ends (hcap : s.captured t = false) (hpos : (s.thread t).estPos = 65536) :
    let e := blockEstimate (s.thread t).estOnes (s.thread t).estPairs.toList
    ((closeEstimate t s).thread t).estPos = 0 ∧ ((closeEstimate t s).thread t).ests = (e :: (s.thread t).ests).take 4 ∧
      (e < estTrip t → (closeEstimate t s).floor.lastKind = 3 ∧
        (closeEstimate t s).floor.trips = min 65535 (s.floor.trips + 1) ∧
        ((closeEstimate t s).thread t).health.st ≠ .inService) ∧
      (estTrip t ≤ e → ((closeEstimate t s).thread t).health = (s.thread t).health ∧
        (closeEstimate t s).floor.trips = s.floor.trips) := by
  intro e
  obtain ⟨w, hw⟩ : ∃ w, modThread t (fun y => { y with
    estPos := 0, estOnes := 0, estPairs := Vector.replicate 4 0, ests := (e :: y.ests).take 4 }) s = w := ⟨_, rfl⟩
  have hclose : closeEstimate t s = if e < estTrip t then tripNow t 3 (noteLowCredit t w) else noteLowCredit t w := by
    rw [closeEstimate, if_pos hpos]
    dsimp only
    rw [hw]
  have hthread : w.thread t = { s.thread t with
      estPos := 0, estOnes := 0, estPairs := Vector.replicate 4 0, ests := (e :: (s.thread t).ests).take 4 } := by
    rw [← hw]
    exact thread_modThread_same t _ s
  have hwfloor : w.floor = s.floor := by
    rw [← hw]
    rfl
  have hwcapture : w.capture = s.capture := by
    rw [← hw]
    rfl
  obtain ⟨hfloor, hcapture, low, bytes, hlow⟩ := noteLowCredit_keeps t w
  rw [hthread] at hlow
  rw [hwfloor] at hfloor
  by_cases htrip : e < estTrip t
  · have hlowcap : (noteLowCredit t w).captured t = false := by
      rw [State.captured, hcapture, hwcapture]
      exact hcap
    obtain ⟨htrips, -, hkind, hout, -, hpos0, hests, -⟩ := tripNow_trips hlowcap 3
    rw [hclose, if_pos htrip]
    rw [hlow] at hests
    rw [hfloor] at htrips
    exact ⟨hpos0, hests, fun _ => ⟨hkind, htrips, hout⟩, fun h => absurd htrip (Nat.not_lt.mpr h)⟩
  · rw [hclose, if_neg htrip, hlow, hfloor]
    exact ⟨rfl, rfl, fun h => absurd h htrip, fun _ => ⟨rfl, rfl⟩⟩

theorem closeServo_steps (hA : isM t = false) (hpos : (s.thread t).servoPos = 65536) (hend : (s.thread t).servoEnd < 15) :
    ((closeServo t s).thread t).servo = servoStepTo (s.thread t).servo (s.thread t).servoOnes ∧
      ((closeServo t s).thread t).servoPos = 0 ∧ ((closeServo t s).thread t).health = (s.thread t).health ∧
      (closeServo t s).floor = s.floor := by
  obtain ⟨n, hn⟩ : ∃ n, (if servoStepTo (s.thread t).servo (s.thread t).servoOnes = 0 ∨
    servoStepTo (s.thread t).servo (s.thread t).servoOnes = 127 then (s.thread t).servoEnd + 1 else 0) = n := ⟨_, rfl⟩
  have hlt : ¬ 16 ≤ n := by
    rw [← hn]
    split <;> omega
  obtain ⟨w, hw⟩ : ∃ w, (if servoStepTo (s.thread t).servo (s.thread t).servoOnes ≠ (s.thread t).servo ∧ s.captured t = true then
    modCapture (fun c => { c with servoSteps := min 65535 (c.servoSteps + 1) }) s else s) = w := ⟨_, rfl⟩
  have hkeep : w.thread t = s.thread t ∧ w.floor = s.floor := by
    rw [← hw]
    split
    · exact ⟨rfl, rfl⟩
    · exact ⟨rfl, rfl⟩
  obtain ⟨hthread, hfloor⟩ := hkeep
  have hclose : closeServo t s = modThread t (fun y => { y with
      servo := servoStepTo (s.thread t).servo (s.thread t).servoOnes, servoPos := 0, servoOnes := 0
      servoEnd := if 16 ≤ n then 0 else n }) w := by
    unfold closeServo
    dsimp only
    rw [if_neg (by rw [hA, hpos]; decide), hn, hw, if_neg hlt]
  rw [hclose, thread_modThread_same, hthread]
  exact ⟨rfl, rfl, rfl, hfloor⟩

theorem execThreadStall_trips (hsamples : s.samples t = true) (hbist : (s.thread t).health.bist = false)
    (hst : (s.thread t).health.st = .inService) (hsettled : (s.thread t).test = .full → (s.thread t).settleAt ≤ s.now)
    (hcap : s.captured t = false) : ∃ u, exec (.threadStall t) s = .next u ∧
      Tripped t 5 (modThread t (fun y => { y with test := .none, passed := false }) s) u := by
  have hwait : ¬ ((!s.samples t || (s.thread t).health.bist || decide ((s.thread t).test = .full) &&
      decide (s.now < (s.thread t).settleAt)) = true) := by
    rw [hsamples, hbist]
    simp only [Bool.not_true, Bool.false_or, Bool.and_eq_true, decide_eq_true_eq, not_and, Nat.not_lt]
    exact hsettled
  refine ⟨tripNow t 5 (modThread t (fun y => { y with test := .none, passed := false }) s), ?_, tripNow_trips (s := modThread t _ s) hcap 5⟩
  refine congrArg Host.Outcome.next ?_
  rw [if_neg hwait, hcap]
  dsimp only
  rw [if_neg Bool.false_ne_true, hst]

/-- Settles O49: the sample itself, then each window's and block's end. -/
theorem samplesTested : Obligations.SamplesTested := by
  refine ⟨fun t code s hsamples hcap => ?_, fun t s hcap => ?_⟩
  · intro x b run same hbist htest hapt hdrift hest hservo
    have hexec : exec (.threadSample t code) s = .next (sampleRun t b (modThread t (ThreadSt.counted t b) s)) :=
      congrArg Host.Outcome.next (threadSample_runs hsamples hcap hbist htest hapt hdrift hest hservo)
    have hfell (kind : Nat) := tripNow_trips (t := t) (s := modThread t (ThreadSt.sampled t b) s) hcap kind
    rw [sampleRun_counted] at hexec
    rw [← rctCutoff_eq, ← aptCutoff_eq]
    refine ⟨fun hrun hsame => ?_, fun hrun => ?_, fun hrun hsame => ?_⟩
    · refine ⟨modThread t (ThreadSt.sampled t b) s, hexec.trans (congrArg Host.Outcome.next ((if_neg hrun).trans (if_neg hsame))),
        (modThread_const t _ s).symm, ?_⟩
      rw [thread_modThread_same]
      exact ThreadSt.sampled_fields hsame
    · obtain ⟨htrips, hlast, hkind, hout, hheld, -, -, -⟩ := hfell 0
      exact ⟨_, hexec.trans (congrArg Host.Outcome.next (if_pos hrun)), htrips, hlast, hkind, hheld, fun _ => hout⟩
    · obtain ⟨htrips, -, hkind, hout, hheld, -, -, -⟩ := hfell 1
      exact ⟨_, hexec.trans (congrArg Host.Outcome.next ((if_neg hrun).trans (if_pos hsame))), htrips, hkind, hheld, fun _ => hout⟩
  · intro x
    rw [← driftCutoff_eq, ← estTrip_eq]
    refine ⟨fun htest hpos hdel => congrArg Host.Outcome.next (closeApt_releases htest hpos hdel),
      fun hpos hfig => congrArg Host.Outcome.next (closeDrift_fresh hpos hfig), fun hpos hfig => ?_, fun hpos => ?_,
      fun hA hpos hend hservo => ⟨_, rfl, closeServo_steps hA hpos hend⟩, fun hsamples hbist hst hsettled => ?_⟩
    · obtain ⟨htrips, -, hkind, hout, -, -, -, -⟩ := closeDrift_trips hcap hpos hfig
      exact ⟨_, rfl, hkind, htrips, fun _ => hout⟩
    · obtain ⟨hpos0, hests, htrip, hno⟩ := closeEstimate_ends hcap hpos
      refine ⟨_, rfl, hpos0, hests, fun h => ?_, hno⟩
      obtain ⟨hkind, htrips, hout⟩ := htrip h
      exact ⟨hkind, htrips, fun _ => hout⟩
    · obtain ⟨u, hu, htrips, -, hkind, hout, -, -, -, hpassed⟩ := execThreadStall_trips hsamples hbist hst hsettled hcap
      refine ⟨u, hu, hkind, htrips, hout, hpassed ?_⟩
      rw [thread_modThread_same]

end

/-! ### The ends of tests and captures, and the floor -/

section
variable {t : Thread} {s u v : State}

/-! ### Tests -/

theorem passThread_thread (t : Thread) (s : State) : (passThread t s).thread t = { ThreadSt.fresh (s.thread t) with
    test := .none, testPos := 0, testBad := false, secondTry := false, passed := true, capHold := false } :=
  thread_modThread_same t _ s

theorem passQuarantined_passes (hcust : (s.thread t).custHold = false) (hrec : s.recovers (.thread t) = true) :
    ((passQuarantined t s).thread t).health.st = .inService ∧ ((passQuarantined t s).thread t).passed = true ∧
      (passQuarantined t s).log = (placeEv (mkEv s 0x5030 15 [BitVec.ofNat 8 t.val]) s.log).1 := by
  obtain ⟨v, hv⟩ : ∃ v, modThread t (fun x => { x with release := [] }) (passThread t s) = v := ⟨_, rfl⟩
  have hthread : v.thread t = { (passThread t s).thread t with release := [] } := by
    rw [← hv]
    exact thread_modThread_same t _ _
  rw [passThread_thread] at hthread
  have hvrec : v.recovers (.thread t) = true := by
    show (!(v.thread t).health.unhandled && !(v.thread t).health.again) = true
    rw [hthread]
    exact hrec
  obtain ⟨w, hw⟩ : ∃ w, modHealth (.thread t) (fun h => { h with
    st := .inService, retest := false, unhandled := false, again := false }) v = w := ⟨_, rfl⟩
  have hpass : passQuarantined t s = raiseD 0x5030 [BitVec.ofNat 8 t.val] w := by
    unfold passQuarantined
    rw [hcust, hrec, ← hw, ← passRetest_passes hvrec, ← hv]
    rfl
  have hback : w.thread t = { v.thread t with health := { (v.thread t).health with
      st := .inService, retest := false, unhandled := false, again := false } } := by
    rw [← hw]
    exact thread_modThread_same t _ v
  have hlog : w.log = s.log := by
    rw [← hw, ← hv]
    rfl
  have hnow : w.now = s.now := by
    rw [← hw, ← hv]
    rfl
  rw [hpass, raiseD_quiet _ _ _ (by decide)]
  refine ⟨congrArg (fun x : ThreadSt => x.health.st) hback, (congrArg ThreadSt.passed hback).trans (congrArg ThreadSt.passed hthread), ?_⟩
  dsimp only
  rw [hlog, mkEv, hnow]
  rfl

theorem failQuarantined_retires (hcust : (s.thread t).custHold = false) : ((failQuarantined t s).thread t).health.st = .retired := by
  obtain ⟨w, hw⟩ : ∃ w, failRetest (.thread t) (modThread t ThreadSt.fresh s) = w := ⟨_, rfl⟩
  have hfail : failQuarantined t s = foldTakeover w := by
    rw [failQuarantined, if_neg (by rw [hcust]; exact Bool.false_ne_true), hw]
  rw [hfail, (foldTakeover_recoils t w).2, ← hw]
  exact (retireUnit_thread t _).2

theorem startupFail_fails (t : Thread) (s : State) : ((startupFail t s).thread t).health.st ≠ .inService ∧
    ((startupFail t s).thread t).passed = false ∧ (startupFail t s).floor.lastKind = 4 := by
  obtain ⟨v, hv⟩ : ∃ v, modHealth (.thread t) (fun h => { h with st := .quarantined, retest := false, unhandled := true, again := false })
      (modThread t (fun x => { ThreadSt.fresh x with test := .none, passed := false, secondTry := true }) (noteTrip t 4 s)) = v := ⟨_, rfl⟩
  obtain ⟨w, hw⟩ : ∃ w, offerUnit (.thread t) 0x5024 15 [BitVec.ofNat 8 t.val] v = w := ⟨_, rfl⟩
  have hfail : startupFail t s = foldTakeover w := by
    rw [← hw, ← hv]
    rfl
  have hthread : (v.thread t).health.st = .quarantined ∧ (v.thread t).passed = false := by
    rw [← hv]
    simp only [modHealth, thread_modThread_same, and_self]
  have hfloor : v.floor.lastKind = 4 := by
    rw [← hv]
    rfl
  obtain ⟨hst, hpassed⟩ := hthread
  have hout : (w.health (.thread t)).st ≠ .inService := hw ▸ offerUnit_out (u := .thread t) (contained_of_plain rfl) (by decide) 15 _ (by
    rw [show v.health (.thread t) = (v.thread t).health from rfl, hst]
    decide)
  have hoffer : Recoils t v w := hw ▸ recoils_offerUnit (by decide) 15 _ t v
  obtain ⟨hfold, hhealth⟩ := foldTakeover_recoils t w
  obtain ⟨htoll, hlapse⟩ := hoffer.trans hfold
  obtain ⟨-, hrest⟩ := Prod.mk.inj htoll
  obtain ⟨-, hkind⟩ := Prod.mk.inj hrest
  rw [hfail]
  exact ⟨by rwa [hhealth], hlapse.passed hpassed, hkind.trans hfloor⟩

section
variable (hshort : (s.thread t).test = .short) (hover : (s.thread t).testOver = true)
include hshort hover

theorem execThreadRetestEnd_quarantined (hst : (s.thread t).health.st = .quarantined) :
    exec (.threadRetestEnd t) s = .next (if (s.thread t).testBad then failQuarantined t s else passQuarantined t s) := by
  refine congrArg Host.Outcome.next ((if_neg ?_).trans ?_)
  · rw [hshort, hover]
    exact fun h => h.elim (fun h => h rfl) nofun
  · rw [hst]
    cases (s.thread t).testBad with
    | true => rfl
    | false => rfl

theorem execThreadRetestEnd_inService (hst : (s.thread t).health.st = .inService) :
    exec (.threadRetestEnd t) s = .next (if (s.thread t).testBad then failInService t s else passThread t s) := by
  refine congrArg Host.Outcome.next ((if_neg ?_).trans ?_)
  · rw [hshort, hover]
    exact fun h => h.elim (fun h => h rfl) nofun
  · rw [hst]
    cases (s.thread t).testBad with
    | true => rfl
    | false => rfl

theorem threadRetestEnd_quarantined (hcust : (s.thread t).custHold = false) (hst : (s.thread t).health.st = .quarantined)
    (hbad : (s.thread t).testBad = true ∨ s.recovers (.thread t) = false) :
    ∃ u, exec (.threadRetestEnd t) s = .next u ∧ (u.thread t).health.st = .retired := by
  refine ⟨failQuarantined t s, ?_, failQuarantined_retires hcust⟩
  rw [execThreadRetestEnd_quarantined hshort hover hst]
  cases htest : (s.thread t).testBad with
  | true => rfl
  | false =>
    have hrec : s.recovers (.thread t) = false := hbad.resolve_left (by rw [htest]; exact Bool.false_ne_true)
    refine congrArg Host.Outcome.next ?_
    unfold passQuarantined
    rw [hcust, hrec]
    rfl

end

section
variable (hfull : (s.thread t).test = .full) (hover : (s.thread t).testOver = true)
include hfull hover

theorem execStartupTestEnd_inService (hreadmit : (s.thread t).readmit = false) (hst : (s.thread t).health.st = .inService) :
    exec (.startupTestEnd t ()) s = .next (if (s.thread t).testBad then startupFail t s else passThread t s) := by
  refine congrArg Host.Outcome.next ((if_neg ?_).trans ?_)
  · rw [hfull, hover]
    exact fun h => h.elim (fun h => h rfl) nofun
  · rw [hreadmit, hst]
    cases (s.thread t).testBad with
    | true => rfl
    | false => rfl

theorem execStartupTestEnd_readmits (hreadmit : (s.thread t).readmit = true) (hbad : (s.thread t).testBad = false) :
    exec (.startupTestEnd t ()) s = .next (requestCommit ⟨.threads, .empty, false, .readmit (.thread t), s.readmitCmd t⟩
      (modThread t (fun y => { ThreadSt.fresh y with test := .none }) s)) := by
  refine congrArg Host.Outcome.next ((if_neg ?_).trans ?_)
  · rw [hfull, hover]
    exact fun h => h.elim (fun h => h rfl) nofun
  · rw [hreadmit, hbad]
    rfl

end

/-! ### Captures -/

theorem endCapture_ends (c : Nat) (s : State) : (endCapture c s).capture.active = false ∧ (endCapture c s).capture.done = true ∧
    (endCapture c s).capture.part = [] ∧ (endCapture c s).capture.thread = s.capture.thread := by
  obtain ⟨v, hv, hactive, hdone, hpart, hthread⟩ : ∃ v, endCapture c s =
      afterCapture s.capture.thread (raiseD 0x5011 [BitVec.ofNat 8 s.capture.thread.val] v) ∧ v.capture.active = false ∧
      v.capture.done = true ∧ v.capture.part = [] ∧ v.capture.thread = s.capture.thread := ⟨_, rfl, rfl, rfl, rfl, rfl⟩
  have hcapture : (endCapture c s).capture = v.capture := by
    rw [hv]
    have hrest := (retests_afterCapture s.capture.thread (raiseD 0x5011 [BitVec.ofNat 8 s.capture.thread.val] v)).rest
    have hcut : (afterCapture s.capture.thread (raiseD 0x5011 [BitVec.ofNat 8 s.capture.thread.val] v)).capture =
        (raiseD 0x5011 [BitVec.ofNat 8 s.capture.thread.val] v).capture := (congrArg State.capture hrest :)
    exact hcut.trans (capture_of_calm (calm_raiseD (code := 0x5011) (by decide) _ v))
  rw [hcapture]
  exact ⟨hactive, hdone, hpart, hthread⟩

/-! ### The floor -/

theorem floor_of_calm (h : u.calm = s.calm) : u.floor = s.floor := by
  simpa only [State.calm] using congrArg State.floor h

theorem blind_floor : Blind.Deep (fun _ => ()) (fun s => (s.floor, s.threads)) where
  toBlind := blind_calm (fun _ _ => rfl) (fun _ _ h => Prod.ext (floor_of_calm h) (threads_of_calm h)) (fun _ _ => rfl)
    (fun _ _ _ _ => rfl) (fun _ _ _ => rfl) (fun _ _ => rfl) (fun _ _ _ => rfl)
  spoiled _ := rfl
  released _ _ := rfl

/-- The judging of the floor. -/
theorem judgeFloor_judges (s : State) : (judgeFloor s).threads = s.threads ∧ ∃ below since evt,
    (judgeFloor s).floor = { s.floor with below := below, okSince := since, evt := evt } ∧
    (s.ready = true → s.isBelow s.creditSum = true → below = true ∧ since = none) ∧
    (s.isBelow s.creditSum = false → below = s.floor.below ∧ (judgeFloor s).log = s.log) ∧
    (s.ready = false → below = s.floor.below) := by
  rw [judgeFloor_eq]
  cases hready : s.ready with
  | false => exact ⟨rfl, s.floor.below, _, _, rfl, nofun, fun _ => ⟨rfl, rfl⟩, fun _ => rfl⟩
  | true =>
    rw [if_neg (by decide)]
    cases hlow : s.isBelow s.creditSum with
    | true =>
      rw [if_pos rfl]
      cases hbelow : s.floor.below with
      | true => exact ⟨rfl, s.floor.below, none, _, rfl, fun _ _ => ⟨hbelow, rfl⟩, nofun, nofun⟩
      | false =>
        rw [if_neg Bool.false_ne_true]
        obtain ⟨hfloor, hthreads⟩ := Prod.mk.inj ((blind_floor.refuseDraws _).trans (blind_floor.tellFall (modFloor (fun f => { f with
          below := true, evt := f.evt ||| 0x08 }) (modFloor (fun f => { f with okSince := none }) s))))
        exact ⟨hthreads, true, none, _, hfloor, fun _ _ => ⟨rfl, rfl⟩, nofun, nofun⟩
    | false =>
      rw [if_neg Bool.false_ne_true]
      split
      · exact ⟨rfl, s.floor.below, _, _, rfl, fun _ => nofun, fun _ => ⟨rfl, rfl⟩, nofun⟩
      · exact ⟨rfl, s.floor.below, _, _, rfl, fun _ => nofun, fun _ => ⟨rfl, rfl⟩, nofun⟩

theorem thread_endPeriod (us : Nat) (t : Thread) (s : State) :
    ({ s with threads := s.threads.map (ThreadSt.endPeriod us) } : State).thread t = (s.thread t).endPeriod us := by
  show (s.threads.map (ThreadSt.endPeriod us))[t.val] = _
  rw [Vector.getElem_map]
  rfl

theorem execFloorRatioUpdate_ends (hrun : s.running = true) (hdue : s.floor.periodAt + 20 ≤ s.now) :
    exec (.floorRatioUpdate ()) s = .next (judgeFloor (showFloor (modFloor (fun f => { f with periodAt := s.now })
      { s with threads := s.threads.map (ThreadSt.endPeriod (s.now - s.floor.periodAt)) }))) := by
  refine congrArg Host.Outcome.next (if_neg ?_)
  rw [hrun]
  have hlong : ¬ s.now - s.floor.periodAt < 20 := by omega
  simpa using hlong

theorem floorRatioUpdate_shows (hrun : s.running = true) (hdue : s.floor.periodAt + 20 ≤ s.now) :
    ∃ u, exec (.floorRatioUpdate ()) s = .next u ∧ let v : State := { s with threads := u.threads }
       (∀ t, u.thread t = (s.thread t).endPeriod (s.now - s.floor.periodAt)) ∧
       u.floor.ratio = v.ratioOf v.creditSum ∧ u.floor.periodAt = s.now ∧
       (s.ready = true → v.isBelow v.creditSum = true → u.floor.below = true ∧ u.floor.okSince = none) ∧
       (v.isBelow v.creditSum = false → u.floor.below = s.floor.below ∧ u.log = s.log) ∧
       (s.ready = false → u.floor.below = s.floor.below) := by
  obtain ⟨ts, hts⟩ : ∃ ts, s.threads.map (ThreadSt.endPeriod (s.now - s.floor.periodAt)) = ts := ⟨_, rfl⟩
  have hthread (t : Thread) : ({ s with threads := ts } : State).thread t = (s.thread t).endPeriod (s.now - s.floor.periodAt) := by
    rw [← hts]
    exact thread_endPeriod _ t s
  obtain ⟨w, hw⟩ : ∃ w, showFloor (modFloor (fun f => { f with periodAt := s.now }) { s with threads := ts }) = w := ⟨_, rfl⟩
  have hexec := execFloorRatioUpdate_ends hrun hdue
  rw [hts, hw] at hexec
  obtain ⟨hthreads, below, since, evt, hfloor, hfall, hstay, hidle⟩ := judgeFloor_judges w
  have hwthreads : w.threads = ts := by
    rw [← hw]
    rfl
  refine ⟨judgeFloor w, hexec, ?_⟩
  rw [hthreads, hwthreads, hfloor]
  intro v
  have hcredit : w.isBelow w.creditSum = v.isBelow v.creditSum := by
    rw [← hw]
    rfl
  have hready : w.ready = s.ready := by
    rw [← hw]
    rfl
  have hbelow : w.floor.below = s.floor.below := by
    rw [← hw]
    rfl
  have hlog : w.log = s.log := by
    rw [← hw]
    rfl
  have hratio : w.floor.ratio = v.ratioOf v.creditSum ∧ w.floor.periodAt = s.now := by
    rw [← hw]
    exact ⟨rfl, rfl⟩
  rw [hcredit, hready] at hfall
  rw [hcredit, hbelow, hlog] at hstay
  rw [hready, hbelow] at hidle
  refine ⟨fun t => ?_, hratio.1, hratio.2, hfall, hstay, hidle⟩
  rw [← hthread t, State.thread, hthreads, hwthreads]
  rfl

/-- Settles O50: the tests' ends, the capture's end, and the floor's period and return. -/
theorem testsEnd : Obligations.TestsEnd := by
  refine ⟨fun t s => ⟨fun hshort hover hcust => ⟨fun hst hbad hrec => ?_, fun hst hbad => threadRetestEnd_quarantined hshort hover hcust hst hbad,
    fun hst hbad => ?_, fun hst hbad hcap => ?_⟩, fun hfull hover => ⟨fun hreadmit hst hbad => ?_, fun hreadmit hst hbad => ?_,
    fun hreadmit hbad => ?_⟩, fun hactive htaken => ?_, fun htaken => ?_⟩, fun s => ⟨fun hrun hdue => ?_, fun hearly => ?_,
    fun at_ hsince hready hbelow hdue => ?_, fun at_ hsince hearly => ?_⟩⟩
  · have hexec := execThreadRetestEnd_quarantined hshort hover hst
    rw [hbad] at hexec
    exact ⟨_, hexec, passQuarantined_passes hcust hrec⟩
  · have hexec := execThreadRetestEnd_inService hshort hover hst
    rw [hbad] at hexec
    refine ⟨passThread t s, hexec, ?_⟩
    rw [passThread_thread]
    exact ⟨rfl, rfl, rfl⟩
  · have hexec := execThreadRetestEnd_inService hshort hover hst
    rw [hbad] at hexec
    obtain ⟨-, -, hkind, hout, -, -, -, -⟩ := tripNow_trips (t := t)
      (s := modThread t (fun x => { ThreadSt.fresh x with test := .none, passed := false }) s) hcap 4
    exact ⟨_, hexec, hout, hkind⟩
  · have hexec := execStartupTestEnd_inService hfull hover hreadmit hst
    rw [hbad] at hexec
    refine ⟨passThread t s, hexec, ?_⟩
    rw [passThread_thread]
    exact ⟨rfl, rfl⟩
  · have hexec := execStartupTestEnd_inService hfull hover hreadmit hst
    rw [hbad] at hexec
    exact ⟨_, hexec, startupFail_fails t s⟩
  · refine ⟨_, execStartupTestEnd_readmits hfull hover hreadmit hbad, rfl, ?_⟩
    exact health_modThread (by intro _; rfl) s
  · refine ⟨endCapture 0 s, congrArg Host.Outcome.next (if_pos ?_), endCapture_ends 0 s⟩
    rw [hactive, htaken, beq_self_eq_true]
    rfl
  · refine congrArg Host.Outcome.next (if_neg ?_)
    rw [beq_eq_false_iff_ne.mpr htaken, Bool.and_false]
    exact Bool.false_ne_true
  · obtain ⟨u, hu, hthreads, hrest⟩ := floorRatioUpdate_shows hrun hdue
    refine ⟨u, hu, fun t => ?_, hrest⟩
    rw [hthreads t]
    refine ⟨rfl, fun hheld => if_pos ?_, fun hrail hride hfold => if_neg ?_⟩
    · simpa only [Bool.or_eq_true, or_assoc] using hheld
    · rw [hrail, hride, hfold]
      decide
  · refine congrArg Host.Outcome.next (if_pos ?_)
    have hshort : s.now - s.floor.periodAt < 20 := by omega
    rw [decide_eq_true hshort, Bool.or_true]
  · refine ⟨settleFabric (raise 0x5041 (modFloor (fun f => { f with below := false }) s)), ?_, ?_⟩
    · refine congrArg Host.Outcome.next ?_
      rw [hsince, hready, hbelow]
      exact if_pos (decide_eq_true hdue)
    · exact congrArg Floor.below (Prod.mk.inj ((blind_floor.settleFabric _).trans (blind_floor.raiseD (by decide) _ _))).1
  · refine congrArg Host.Outcome.next ?_
    rw [hsince]
    refine if_neg ?_
    rw [decide_eq_false (Nat.not_le.mpr hearly), Bool.and_false]
    exact Bool.false_ne_true

end

end Sys2Proof.Machine
end

section
/-! SUPPORT. The start of the module. -/

namespace Sys2Proof.Machine

/-! ### The start from VIN, READY and the recorded patch -/

section
variable {s : State} {vinMv : Nat}

theorem execVinStartQualified_starts (hoff : s.power.phase = .off) (hlow : 4300 < vinMv) (hhigh : vinMv < 24000) :
    exec (.vinStartQualified vinMv false) s = .next (modPower (fun p => { p with phase := .starting, cause := 0 })
      (modSupply (fun p => { p with vinMv := vinMv, switchOn := true, ovOpen := false }) s)) :=
  congrArg Host.Outcome.next (if_pos ⟨hoff, hlow, by omega, .inr hhigh⟩)

theorem execVinStartQualified_stays (h : s.power.phase ≠ .off ∨ vinMv ≤ 4300 ∨ 24500 ≤ vinMv ∨ s.supply.ovOpen = true ∧ 24000 ≤ vinMv) :
    exec (.vinStartQualified vinMv false) s = .next s := by
  refine congrArg Host.Outcome.next (if_neg ?_)
  rintro ⟨hoff, hlow, hhigh, hov⟩
  obtain h | h | h | ⟨hopen, h⟩ := h
  · exact h hoff
  · omega
  · omega
  · obtain hclosed | hfell := hov
    · rw [hopen] at hclosed
      exact absurd hclosed (by decide)
    · omega

theorem execOvervoltageDisconnect_off (hoff : s.power.phase = .off) (hhigh : 24500 < vinMv) :
    exec (.overvoltageDisconnect vinMv) s =
      .next (modSupply (fun p => { p with ovOpen := true }) (modSupply (fun p => { p with vinMv := vinMv }) s)) :=
  congrArg Host.Outcome.next (if_pos ⟨hhigh, hoff⟩)

/-- The first HOLD measurement of a start (R90). -/
def firstMeasure (hold10mV : Nat) (p : Supply) : Supply :=
  if hold10mV < 200 then { p with measuring := true } else dischargeMeasure p

theorem firstMeasure_eq (hold10mV : Nat) (p : Supply) :
    ∃ m d c, firstMeasure hold10mV p = { p with measuring := m, measureDue := d, charge := c } := by
  unfold firstMeasure
  split
  · exact ⟨_, _, _, rfl⟩
  · unfold dischargeMeasure
    split
    · exact ⟨_, _, _, rfl⟩
    · exact ⟨_, _, _, rfl⟩

theorem execRegulatorsUp_starts (hst : s.power.phase = .starting) (ioSelOpen : Bool) (hold10mV : Nat) :
    ∃ u, exec (.regulatorsUp ioSelOpen hold10mV) s = .next u ∧
       u.power.phase = (if s.power.rstLow then .inReset else .regulated) ∧ u.power.ioSelOpen = ioSelOpen ∧
       u.supply.vcore = 850 ∧ u.supply.policyOn = true ∧ u.supply.hold10mV = hold10mV ∧ u.supply.policyWord = 40 ∧
       u.tally = { Tally.reset with running := true } ∧ u.lining = s.lining ∧ u.threads = s.threads ∧ u.log = s.log := by
  obtain ⟨p, hp⟩ : ∃ p, firstMeasure hold10mV { s.supply with hold10mV := hold10mV, vcore := 850, policyOn := true, charge := 25 } = p :=
    ⟨_, rfl⟩
  obtain ⟨m, d, c, hmeasure⟩ := firstMeasure_eq hold10mV { s.supply with
    hold10mV := hold10mV, vcore := 850, policyOn := true, charge := 25 }
  rw [hp] at hmeasure
  refine ⟨{ s with tally := { Tally.reset with running := true }, supply := p, power := { s.power with
    ioSelOpen := ioSelOpen, startAt := 0, phase := if s.power.rstLow then .inReset else .regulated } }, ?_, rfl, rfl, ?_⟩
  · rw [← hp]
    exact congrArg Host.Outcome.next (if_pos hst)
  · rw [hmeasure]
    exact ⟨rfl, rfl, rfl, rfl, rfl, rfl, rfl, rfl⟩

/-! ### The recorded patch -/

section
variable {core : Fin 2} {f0 : List Byte} (hphase : s.power.phase = .startup) (hdone : s.power.patchDone = false) (hran : s.coreRan core = true)
include hphase hdone hran

theorem patchRecheck_due : ¬ (s.power.phase ≠ .startup ∨ s.power.patchDone = true ∨ s.coreRan core = false) := by
  rw [hphase, hdone, hran]
  decide

theorem execPatchRecheck_fails (h0 : recordedImage s.ports.xip f0 = false) {f1 : List Byte} (h1 : recordedImage s.ports.xip f1 = false) :
    exec (.patchRecheck core f0 f1) s = .next (raise 0xA003 (readImage true s.ports.xip.recOffset s.ports.xip.recLen
      (modPower (fun p => { p with patchDone := true }) s))) := by
  refine congrArg Host.Outcome.next ((if_neg (patchRecheck_due hphase hdone hran)).trans ?_)
  dsimp only
  rw [h0, h1]
  rfl

theorem execPatchRecheck_takes (h0 : recordedImage s.ports.xip f0 = true) (f1 : List Byte) :
    ∃ u, exec (.patchRecheck core f0 f1) s = .next u ∧ u.power.patchDone = true ∧
      u.ports.xip.version = s.ports.xip.recVersion ∧ u.ports.xip.codeLen = imageCode f0 ∧ u.log = s.log := by
  refine ⟨_, congrArg Host.Outcome.next ((if_neg (patchRecheck_due hphase hdone hran)).trans (if_pos h0)), ?_⟩
  exact ⟨rfl, rfl, rfl, rfl⟩

end

/-- Settles O38: VIN, the regulators, READY and the recorded patch. -/
theorem startsAndServes : Obligations.StartsAndServes := by
  refine ⟨fun vinMv hold10mV ioSelOpen s => ⟨execVinStartQualified_starts, execOvervoltageDisconnect_off, execVinStartQualified_stays,
    fun hst => execRegulatorsUp_starts hst ioSelOpen hold10mV⟩, fun s => ⟨fun hdue => ?_, fun hdue => ?_,
    fun core f0 f1 hphase hdone hran => ⟨fun h0 h1 => execPatchRecheck_fails hphase hdone hran h0 h1,
      fun h0 => execPatchRecheck_takes hphase hdone hran h0 f1⟩⟩⟩
  · exact ⟨_, congrArg Host.Outcome.next (if_pos hdue), rfl, rfl, rfl, rfl, rfl, rfl⟩
  · exact congrArg Host.Outcome.next (if_neg (by rw [hdue]; exact Bool.false_ne_true))

end

end Sys2Proof.Machine
end

section
/-! SUPPORT. Lane bursts, push windows and port F. -/

namespace Sys2Proof.Machine

/-! ### The push engine and the windows of its entries -/

section
variable {s u v : State} {p : Fin 3} {i : Sleeve} {e : Fin 4} {q : Sleeve × Fin 4}

@[simp] theorem entry_modPush_same (i : Sleeve) (e : Fin 4) (f : PushEntry → PushEntry) (s : State) :
    (modPush i e f s).entry (i, e) = f (s.entry (i, e)) := by
  unfold State.entry modPush
  dsimp only
  rw [sleeve_modSleeve_same]
  exact vget_vmod_same _ e f

theorem entry_modPush_ne (f : PushEntry → PushEntry) (s : State) (h : (i, e) ≠ q) : (modPush i e f s).entry q = s.entry q := by
  obtain ⟨j, c⟩ := q
  unfold State.entry modPush
  dsimp only
  by_cases hi : i = j
  · subst hi
    rw [sleeve_modSleeve_same]
    exact vget_vmod_ne _ e c f (fun hc => h (Prod.ext rfl hc))
  · rw [sleeve_modSleeve_ne _ _ _ _ hi]

theorem port_modPort_same (p : Fin 3) (f : PortSt → PortSt) (s : State) :
    (modPort p f s).ports.ports.get p = f (s.ports.ports.get p) := vget_vmod_same s.ports.ports p f

/-! ### Entries enter a port's queue -/

/-- Entries join a port's transfer queue. -/
def enqueue (p : Fin 3) (l : List MasterEntry) : State → State := modPort p (fun z => { z with queue := z.queue ++ l })

theorem enqueue_nil (p : Fin 3) (s : State) : enqueue p [] s = s := by
  have hport : vmod s.ports.ports p (fun z => { z with queue := z.queue ++ [] }) = s.ports.ports := vmod_fixed (by rw [List.append_nil])
  unfold enqueue modPort modPorts
  dsimp only
  rw [hport]

theorem enqueue_enqueue (p : Fin 3) (l l' : List MasterEntry) (s : State) : enqueue p l' (enqueue p l s) = enqueue p (l ++ l') s := by
  unfold enqueue modPort modPorts
  dsimp only
  rw [vmod_vmod]
  simp only [List.append_assoc]

theorem queue_enqueue (p : Fin 3) (l : List MasterEntry) (s : State) :
    ((enqueue p l s).ports.ports.get p).queue = (s.ports.ports.get p).queue ++ l :=
  congrArg PortSt.queue (port_modPort_same p _ s)

theorem queueRecords_enqueues (q : Sleeve × Fin 4) (n : Nat) (s : State) :
    ∃ l, queueRecords q n s = enqueue (pePort (s.entry q).words) l s := by
  induction n generalizing s with
  | zero => exact ⟨[], (enqueue_nil _ s).symm⟩
  | succ n ih =>
    unfold queueRecords
    dsimp only
    split
    · obtain ⟨l, hl⟩ := ih (modPort (pePort (s.entry q).words) (fun z => { z with queue := z.queue ++
        [⟨q.1, q.2, false, pePartner (s.entry q).words, peStream (s.entry q).words, (s.entry q).spanEnd,
          (s.partnerCfg (pePartner (s.entry q).words)).1, (s.partnerCfg (pePartner (s.entry q).words)).2⟩] }) s)
      exact ⟨_, hl.trans (enqueue_enqueue _ _ l s)⟩
    · exact ⟨[], (enqueue_nil _ s).symm⟩

theorem queueProbe_enqueues (q : Sleeve × Fin 4) (s : State) : ∃ l, queueProbe q s = enqueue (pePort (s.entry q).words) l s := by
  unfold queueProbe
  dsimp only
  split
  · exact ⟨_, rfl⟩
  · exact ⟨[], (enqueue_nil _ s).symm⟩

/-- A fold that takes each element or leaves it ends with an element, or with what it began with. -/
theorem mem_of_foldl_choice {α : Type} {f : Option α → α → Option α} (hf : ∀ best a, f best a = some a ∨ f best a = best) {l : List α}
    {best : Option α} {b : α} (h : l.foldl f best = some b) : b ∈ l ∨ best = some b := by
  induction l generalizing best with
  | nil => exact .inr h
  | cons a l ih =>
    obtain hmem | hbest := ih h
    · exact .inl (List.mem_cons_of_mem a hmem)
    · obtain ha | ha := hf best a
      · exact .inl (List.mem_cons.mpr (.inl (Option.some.inj (hbest.symm.trans ha))))
      · exact .inr (ha.symm.trans hbest)

/-- The window that a port serves is one of the port's. -/
theorem holder_port (h : s.holder p = some q) : pePort (s.entry q).words = p := by
  obtain hmem | hnone := mem_of_foldl_choice (fun best a => by
    cases best with
    | none => exact .inl rfl
    | some b =>
      dsimp only
      split
      · exact .inl rfl
      · exact .inr rfl) h
  · have hb := (List.mem_filter.mp hmem).2
    rw [Bool.and_eq_true, decide_eq_true_eq] at hb
    exact hb.2
  · nomatch hnone

/-- The push engine only adds to its port's queue. -/
theorem pushEngine_enqueues (p : Fin 3) (s : State) : ∃ l, pushEngine p s = enqueue p l s := by
  unfold pushEngine
  split
  · rename_i q hq
    obtain ⟨l, hl⟩ := queueProbe_enqueues q s
    obtain ⟨l', hl'⟩ := queueRecords_enqueues q 8 (queueProbe q s)
    rw [hl', hl]
    have hwords : pePort ((enqueue (pePort (s.entry q).words) l s).entry q).words = p := holder_port hq
    rw [hwords, holder_port hq]
    exact ⟨l ++ l', enqueue_enqueue p l l' s⟩
  · exact ⟨[], (enqueue_nil p s).symm⟩

theorem queueRecords_unacked (h : (s.entry q).acked = false) (n : Nat) : queueRecords q n s = s := by
  cases n with
  | zero => rfl
  | succ n =>
    unfold queueRecords
    dsimp only
    rw [if_neg]
    rw [h]
    simp

end

/-! ### Windows: their start, probe, transfer and end -/

/-! ### The present window (R435) -/

section
variable {w : Vector Word 4} {epoch d after now k : Nat}

theorem pePeriod_pos (w : Vector Word 4) : 0 < pePeriod w := lt_of_lt_of_le (by decide) (le_max_left 100 _)

theorem le_mul_of_div {a P k : Nat} (hP : 0 < P) (h : (a + P - 1) / P ≤ k) : a ≤ k * P := by
  have hlt : a + P - 1 < P * (k + 1) := (Nat.div_lt_iff_lt_mul hP).mp (Nat.lt_succ_of_le h) |>.trans_eq (Nat.mul_comm _ _)
  rw [Nat.mul_add, Nat.mul_comm P k] at hlt
  omega

theorem div_le_of_le_mul {a P k : Nat} (hP : 0 < P) (h : a ≤ k * P) : (a + P - 1) / P ≤ k := by
  refine Nat.le_of_lt_succ ((Nat.div_lt_iff_lt_mul hP).mpr ?_)
  rw [Nat.succ_mul]
  omega

/-- The first window that may begin after the last one's end. -/
def firstAfter (w : Vector Word 4) (epoch d after : Nat) : Nat :=
  if after ≤ epoch then 0 else (after + effGuard w d - (epoch + peOffset w) + pePeriod w - 1) / pePeriod w

/-- The first window that has not ended. -/
def firstOpen (w : Vector Word 4) (epoch d now : Nat) : Nat :=
  if now < epoch + peOffset w + peWindow w + effGuard w d then 0
  else (now - (epoch + peOffset w + peWindow w + effGuard w d)) / pePeriod w + 1

theorem firstAfter_le_iff : firstAfter w epoch d after ≤ k ↔ after ≤ (spanOf w epoch d k).1 := by
  unfold firstAfter spanOf nominalStart
  dsimp only
  split
  · rename_i h
    exact ⟨fun _ => h.trans (le_max_left _ _), fun _ => Nat.zero_le k⟩
  · rename_i h
    constructor
    · intro hk
      have hmul := le_mul_of_div (pePeriod_pos w) hk
      exact le_max_of_le_right (by omega)
    · intro hk
      refine div_le_of_le_mul (pePeriod_pos w) ?_
      obtain hle | hle := le_max_iff.mp hk
      · exact absurd hle h
      · omega

theorem firstOpen_le_iff : firstOpen w epoch d now ≤ k ↔ now < (spanOf w epoch d k).2 := by
  unfold firstOpen spanOf nominalStart
  dsimp only
  obtain ⟨base, hbase⟩ : ∃ base, epoch + peOffset w + peWindow w + effGuard w d = base := ⟨_, rfl⟩
  obtain ⟨m, hm⟩ : ∃ m, k * pePeriod w = m := ⟨_, rfl⟩
  have hspan : epoch + peOffset w + k * pePeriod w + peWindow w + effGuard w d = base + m := by omega
  rw [hspan, hbase]
  split
  · exact ⟨fun _ => by omega, fun _ => Nat.zero_le k⟩
  · rw [Nat.succ_le_iff, Nat.div_lt_iff_lt_mul (pePeriod_pos w), hm]
    omega

/-- The present window is the first that begins late enough and has not ended. -/
theorem windowNow_eq (hafter : after ≤ (spanOf w epoch d k).1)
    (hbefore : ∀ j, j < k → (spanOf w epoch d j).1 < after ∨ (spanOf w epoch d j).2 ≤ now) (hopen : now < (spanOf w epoch d k).2) :
    windowNow w epoch d after now = k := by
  have hwindow : windowNow w epoch d after now = max (firstAfter w epoch d after) (firstOpen w epoch d now) := rfl
  rw [hwindow]
  refine le_antisymm (max_le (firstAfter_le_iff.mpr hafter) (firstOpen_le_iff.mpr hopen)) (Nat.le_of_not_lt fun hlt => ?_)
  have hmax : max (firstAfter w epoch d after) (firstOpen w epoch d now) ≤ max (firstAfter w epoch d after) (firstOpen w epoch d now) := le_rfl
  obtain ⟨hfirst, hnow⟩ := max_le_iff.mp hmax
  obtain h | h := hbefore _ hlt
  · exact absurd (firstAfter_le_iff.mp hfirst) (Nat.not_le.mpr h)
  · exact absurd (firstOpen_le_iff.mp hnow) (Nat.not_lt.mpr h)

end

section
variable {s u v : State} {p : Fin 3} {i : Sleeve} {e : Fin 4} {q : Sleeve × Fin 4}

/-- The span of the present window of an entry. -/
def State.presentSpan (s : State) (i : Sleeve) (e : Fin 4) : Nat × Nat :=
  let w := (s.sleeve i).pushWords e
  spanOf w ((s.sleeve i).pushEpoch e w) (s.entry (i, e)).doublings
    (windowNow w ((s.sleeve i).pushEpoch e w) (s.entry (i, e)).doublings (s.entry (i, e)).after s.now)

section
variable (henabled : peEnabled ((s.sleeve i).pushWords e) = true) (hclosed : (s.entry (i, e)).opened = false) (hready : s.ready = true)
  (hbegun : (s.presentSpan i e).1 ≤ s.now)
include henabled hclosed hready hbegun

theorem execPushWindowStart_due : exec (.pushWindowStart i e) s = .next (
    if !s.pushResolves i ((s.sleeve i).pushWords e) || !s.portMasters (pePort ((s.sleeve i).pushWords e)) ||
      (s.entry (i, e)).suspended || (s.entry (i, e)).lost then modPush i e (fun y => { y with after := (s.presentSpan i e).2 }) s
    else pushEngine (pePort ((s.sleeve i).pushWords e)) (modPush i e (fun y => { y with
      opened := true, words := (s.sleeve i).pushWords e, spanStart := (s.presentSpan i e).1, spanEnd := (s.presentSpan i e).2
      acked := false, sent := 0, nextProbe := s.now }) s)) := by
  refine congrArg Host.Outcome.next (if_neg ?_)
  rw [henabled, hclosed, hready]
  have hlate : ¬ s.now < (s.presentSpan i e).1 := Nat.not_lt.mpr hbegun
  intro h
  simp only [Bool.not_true, Bool.false_or, Bool.or_false, decide_eq_true_eq] at h
  exact hlate h

end

/-! ### Probes -/

theorem queueProbe_due (hholder : s.holder (pePort (s.entry q).words) = some q) (hacked : (s.entry q).acked = false)
    (hdue : (s.entry q).nextProbe ≤ s.now) (hmasters : s.portMasters (pePort (s.entry q).words) = true)
    (hroom : (s.ports.ports.get (pePort (s.entry q).words)).queue.length < 8)
    (hnone : (s.ports.ports.get (pePort (s.entry q).words)).queue.all (fun m => !(m.probe && m.sl == q.1 && m.entry == q.2)) = true)
    (hfits : s.endsBy (2 * claimThirds + probeThirds (s.partnerCfg (pePartner (s.entry q).words)).1 + gapThirds +
      entryThirds (s.partnerCfg (pePartner (s.entry q).words)).1 (s.partnerCfg (pePartner (s.entry q).words)).2
        (s.ports.ports.get (pePort (s.entry q).words)).width ((s.sleeve q.1).streams.get (peStream (s.entry q).words)).recordLen)
      (s.entry q).spanEnd = true) :
    pushEngine (pePort (s.entry q).words) s = enqueue (pePort (s.entry q).words) [⟨q.1, q.2, true, pePartner (s.entry q).words,
      peStream (s.entry q).words, (s.entry q).spanEnd, (s.partnerCfg (pePartner (s.entry q).words)).1,
      (s.partnerCfg (pePartner (s.entry q).words)).2⟩] s := by
  have hengine : pushEngine (pePort (s.entry q).words) s = queueRecords q 8 (queueProbe q s) := by
    unfold pushEngine
    rw [hholder]
  have hprobe : queueProbe q s = enqueue (pePort (s.entry q).words) [⟨q.1, q.2, true, pePartner (s.entry q).words,
      peStream (s.entry q).words, (s.entry q).spanEnd, (s.partnerCfg (pePartner (s.entry q).words)).1,
      (s.partnerCfg (pePartner (s.entry q).words)).2⟩] s := if_pos ⟨hholder, hacked, hdue, hmasters, hroom, hnone, hfits⟩
  rw [hengine, hprobe]
  exact queueRecords_unacked (s := enqueue _ _ s) hacked 8

theorem probeAck_iff (lane0 : BitVec 32) :
    probeAck lane0 = true ↔ ∃ k, k < 31 ∧ lane0.getLsbD k = true ∧ lane0.getLsbD (k + 1) = true := by
  have hzero : probeAck lane0 = true ↔ ¬ lane0 &&& (lane0 >>> 1) = 0#32 := bne_iff_ne
  rw [hzero, not_iff_comm]
  constructor
  · intro hnone
    refine BitVec.eq_of_getLsbD_eq fun k hk => ?_
    rw [BitVec.getLsbD_and, BitVec.getLsbD_ushiftRight, BitVec.getLsbD_zero, Nat.add_comm 1 k, Bool.and_eq_false_iff]
    by_contra hboth
    simp only [not_or, Bool.not_eq_false] at hboth
    refine hnone ⟨k, ?_, hboth⟩
    have hlt := BitVec.lt_of_getLsbD hboth.2
    omega
  · rintro hz ⟨k, hk, h0, h1⟩
    have hbit := congrArg (fun b : BitVec 32 => b.getLsbD k) hz
    simp only [BitVec.getLsbD_and, BitVec.getLsbD_ushiftRight, BitVec.getLsbD_zero, Nat.add_comm 1 k, h0, h1] at hbit
    exact absurd hbit (by decide)

/-- A port's queue without its head. -/
def setQueue (p : Fin 3) (r : List MasterEntry) : State → State := modPort p (fun x => { x with queue := r })

theorem runEntry_cons {m : MasterEntry} {r : List MasterEntry} (h : (s.ports.ports.get p).queue = m :: r) (lane0 : BitVec 32) :
    runEntry p lane0 s = pushEngine p (if m.probe then runProbe m lane0 (setQueue p r s) else runRecord p m (setQueue p r s)) := by
  unfold runEntry
  rw [h]
  rfl

/-- A probe that is driven and sampled. -/
theorem runProbe_samples {m : MasterEntry} (hopened : (s.entry (m.sl, m.entry)).opened = true)
    (hacked : (s.entry (m.sl, m.entry)).acked = false) (hfits : s.endsBy (claimThirds + probeThirds m.rate) m.deadline = true)
    (lane0 : BitVec 32) : let x := s.entry (m.sl, m.entry)
    (runProbe m lane0 s).entry (m.sl, m.entry) =
        (if probeAck lane0 then servePush { x with nextProbe := s.now + 10 } else { x with nextProbe := s.now + 10 }) ∧
      ((runProbe m lane0 s).sel m.partner).out = ⟨[], [], [0]⟩ := by
  intro x
  obtain ⟨t, ht⟩ : ∃ t, driveMaster m.partner ([], []) [0] (modPush m.sl m.entry (fun y => { y with nextProbe := s.now + 10 }) s) = t :=
    ⟨_, rfl⟩
  have hentry : t.entry (m.sl, m.entry) = { x with nextProbe := s.now + 10 } := by
    rw [← ht]
    exact entry_modPush_same _ _ _ s
  have hsel : (t.sel m.partner).out = ⟨[], [], [0]⟩ := by
    rw [← ht]
    exact congrArg SelSt.out (sel_modSel_same _ _ _)
  have hprobe : runProbe m lane0 s = if probeAck lane0 then modPush m.sl m.entry servePush t else t := by
    unfold runProbe
    dsimp only
    rw [hopened, hacked, hfits, ht]
    rfl
  rw [hprobe]
  split
  · rw [entry_modPush_same, hentry]
    exact ⟨rfl, hsel⟩
  · exact ⟨hentry, hsel⟩

end

/-! ### Transfers, the ends of windows and a second master -/

section
variable {s u v : State} {p : Fin 3} {i : Sleeve} {e : Fin 4} {q : Sleeve × Fin 4}

theorem blind_ports : Blind.Deep (fun _ => ()) (fun s => s.ports) where
  toBlind := blind_calm (fun _ _ => rfl) (fun _ _ h => ports_of_calm h) (fun _ _ => rfl) (fun _ _ _ _ => rfl) (fun _ _ _ => rfl)
    (fun _ _ => rfl) (fun _ _ _ => rfl)
  spoiled _ := rfl
  released _ _ := rfl

theorem pushes_of_calm (h : u.calm = s.calm) : u.sleeves.map SleeveSt.pushes = s.sleeves.map SleeveSt.pushes := by
  have hsleeves : u.sleeves.map SleeveSt.unalerted = s.sleeves.map SleeveSt.unalerted := by
    simpa only [State.calm] using congrArg State.sleeves h
  have hpushes := congrArg (fun v => v.map SleeveSt.pushes) hsleeves
  have hunalerted : SleeveSt.pushes ∘ SleeveSt.unalerted = SleeveSt.pushes := rfl
  simpa only [Vector.map_map, hunalerted] using hpushes

theorem pushes_modSleeve {f : SleeveSt → SleeveSt} (h : ∀ x, (f x).pushes = x.pushes) (i : Sleeve) (s : State) :
    (modSleeve i f s).sleeves.map SleeveSt.pushes = s.sleeves.map SleeveSt.pushes := by
  refine Vector.ext fun j hj => ?_
  rw [Vector.getElem_map, Vector.getElem_map]
  by_cases hij : i = ⟨j, hj⟩
  · subst hij
    exact (congrArg SleeveSt.pushes (sleeve_modSleeve_same ⟨j, hj⟩ f s)).trans (h _)
  · exact congrArg SleeveSt.pushes (sleeve_modSleeve_ne i ⟨j, hj⟩ f s hij)

theorem blind_pushes : Blind.Deep (fun _ => ()) (fun s => s.sleeves.map SleeveSt.pushes) where
  toBlind := blind_calm (fun _ _ => rfl) (fun _ _ h => pushes_of_calm h) (fun _ _ => rfl) (fun i _ s hf => pushes_modSleeve hf i s)
    (fun _ _ _ => rfl) (fun _ _ => rfl) (fun _ _ _ => rfl)
  spoiled _ := rfl
  released _ _ := rfl

theorem entry_of_pushes (h : u.sleeves.map SleeveSt.pushes = s.sleeves.map SleeveSt.pushes) (q : Sleeve × Fin 4) :
    u.entry q = s.entry q := by
  have hq := congrArg (fun v : Vector (Vector PushEntry 4) 8 => (v[q.1.val]).get q.2) h
  simp only [Vector.getElem_map] at hq
  exact hq

/-! ### Transfers -/

theorem transferable_setQueue (r : List MasterEntry) (m : MasterEntry) (s : State) :
    (setQueue p r s).transferable p m = s.transferable p m := by
  have hwidth : ((setQueue p r s).ports.ports.get p).width = (s.ports.ports.get p).width :=
    (congrArg PortSt.width (port_modPort_same p (fun x => { x with queue := r }) s) :)
  unfold State.transferable
  dsimp only
  rw [hwidth]
  rfl

theorem runRecord_delivers {m : MasterEntry} (h : s.transferable p m = true) :
    let y := (s.sleeve m.sl).streams.get m.stream
    let body := s.streamBody m.sl m.stream (y.frames.headD [])
    let record := recordBytes body stOk 0 (y.record.toNat % 65536)
    ((runRecord p m s).ports.ports.get p).queue = (s.ports.ports.get p).queue ∧
      ((runRecord p m s).entry (m.sl, m.entry)).sent = (s.entry (m.sl, m.entry)).sent + 1 ∧
      ((runRecord p m s).sel m.partner).out = ⟨record.1, record.2, entryPeriods m.cont (body.length + 8)⟩ := by
  intro y body record
  obtain ⟨t, ht⟩ : ∃ t, driveMaster m.partner record (entryPeriods m.cont (body.length + 8)) s = t := ⟨_, rfl⟩
  have hrun : runRecord p m s = claimFrame m.sl m.stream (y.frames.headD [])
      (modPush m.sl m.entry (fun x => { x with sent := x.sent + 1 }) t) := by
    rw [← ht]
    exact if_pos h
  have hports : (runRecord p m s).ports = t.ports := by
    rw [hrun]
    exact (blind_ports.claimFrame _ _ _ _).trans rfl
  have hentry := entry_of_pushes (blind_pushes.claimFrame m.sl m.stream (y.frames.headD [])
    (modPush m.sl m.entry (fun x => { x with sent := x.sent + 1 }) t)) (m.sl, m.entry)
  rw [← hrun, entry_modPush_same] at hentry
  have htsent : (t.entry (m.sl, m.entry)).sent = (s.entry (m.sl, m.entry)).sent := by
    rw [← ht]
    rfl
  have htqueue : t.ports.ports = s.ports.ports := by
    rw [← ht]
    rfl
  have htsel : (t.sel m.partner).out = ⟨record.1, record.2, entryPeriods m.cont (body.length + 8)⟩ := by
    rw [← ht]
    exact congrArg SelSt.out (sel_modSel_same _ _ _)
  refine ⟨by rw [hports, htqueue], ?_, ?_⟩
  · rw [hentry]
    exact congrArg (· + 1) htsent
  · rw [State.sel, hports]
    exact htsel

/-! ### The ends of windows -/

theorem opened_foldl_apply (acts : List PushAct) (x : PushEntry) : (acts.foldl PushAct.apply x).opened = x.opened := by
  induction acts generalizing x with
  | nil => rfl
  | cons a acts ih =>
    rw [List.foldl_cons, ih]
    cases a with
    | rearm => rfl
    | reepoch at_ => rfl
    | suspend => rfl

theorem entry_closeWindow_same (q : Sleeve × Fin 4) (s : State) : (closeWindow q s).entry q =
    { (s.entry q).acts.foldl PushAct.apply { s.entry q with opened := false, after := (s.entry q).spanEnd } with acts := [] } :=
  entry_modPush_same q.1 q.2 _ _

theorem entry_closeWindow_ne {k : Sleeve × Fin 4} (h : k ≠ q) (s : State) : (closeWindow k s).entry q = s.entry q :=
  entry_modPush_ne _ _ h

/-- A missed window (R441, R442). -/
theorem entry_missWindow (q : Sleeve × Fin 4) (s : State) : (missWindow q s).entry q = { s.entry q with
    missed := ((s.entry q).missed + 1) % 2 ^ 32, streak := 0, lastMissed := true
    doublings := if (s.entry q).doublings < 3 then (s.entry q).doublings + 1 else (s.entry q).doublings
    lost := if (s.entry q).doublings < 3 then (s.entry q).lost else true } := by
  have htwice (f g : PushEntry → PushEntry) : (modPush q.1 q.2 f (modPush q.1 q.2 g s)).entry q = f (g (s.entry q)) := by
    rw [show q = (q.1, q.2) from rfl, entry_modPush_same, entry_modPush_same]
  unfold missWindow
  dsimp only
  split
  · exact (entry_of_pushes (blind_pushes.raiseS (by decide) _ _ _) q).trans (htwice _ _)
  · obtain ⟨t, ht⟩ : ∃ t, modPush q.1 q.2 (fun x => { x with lost := true }) (modPush q.1 q.2 (fun x => { x with
        missed := (x.missed + 1) % 2 ^ 32, streak := 0, lastMissed := true }) s) = t := ⟨_, rfl⟩
    have hoffer : (offer (mkEv t 0x9021 q.1.val [BitVec.ofNat 8 q.2.val]) t).1.sleeves.map SleeveSt.pushes =
        t.sleeves.map SleeveSt.pushes := blind_pushes.raiseS (code := 0x9021) (by decide) q.1 [BitVec.ofNat 8 q.2.val] t
    have hentry : t.entry q = { s.entry q with
        missed := ((s.entry q).missed + 1) % 2 ^ 32, streak := 0, lastMissed := true, lost := true } := by
      rw [← ht]
      exact htwice _ _
    rw [ht]
    split
    · exact (entry_of_pushes ((pushes_modSleeve (by intro _; rfl) q.1 _).trans hoffer) q).trans hentry
    · exact (entry_of_pushes hoffer q).trans hentry

theorem execPushSpanEnd_ends (hopened : (s.entry (i, e)).opened = true) (hend : (s.entry (i, e)).spanEnd ≤ s.now) :
    exec (.pushSpanEnd i e) s = .next (if (s.entry (i, e)).acked || !s.portMasters (pePort (s.entry (i, e)).words) then
      closeWindow (i, e) s else closeWindow (i, e) (missWindow (i, e) s)) := by
  refine congrArg Host.Outcome.next (if_neg ?_)
  rw [hopened, decide_eq_false (Nat.not_lt.mpr hend)]
  decide

/-! ### A second master (R431) -/

theorem loseRecord_keeps (p : Fin 3) (m : MasterEntry) (s : State) (q : Sleeve × Fin 4) : (loseRecord p m s).entry q = s.entry q := by
  unfold loseRecord
  split
  · exact (entry_of_pushes (blind_pushes.claimFrame _ _ _ _) q).trans rfl
  · rfl

/-- The record of the entry in transfer, lost where a transfer was in progress (R432). -/
def loseTransfer (p : Fin 3) (inTransfer : Bool) (s : State) : State :=
  match inTransfer, (s.ports.ports.get p).queue with
  | true, x :: _ => loseRecord p x s
  | _, _ => s

theorem entry_loseTransfer (p : Fin 3) (inTransfer : Bool) (s : State) (q : Sleeve × Fin 4) :
    (loseTransfer p inTransfer s).entry q = s.entry q := by
  unfold loseTransfer
  split
  · exact loseRecord_keeps _ _ s q
  · rfl

/-- Every window of a list is closed; an entry that has none open keeps none. -/
theorem forAll_closeWindow_closed {l : List (Sleeve × Fin 4)} (h : q ∈ l ∨ (s.entry q).opened = false) :
    ((forAll l closeWindow s).entry q).opened = false := by
  have hclose (k : Sleeve × Fin 4) (t : State) (ht : k = q ∨ (t.entry q).opened = false) : ((closeWindow k t).entry q).opened = false := by
    by_cases hk : k = q
    · subst hk
      rw [entry_closeWindow_same]
      exact opened_foldl_apply _ _
    · rw [entry_closeWindow_ne hk]
      exact ht.resolve_left hk
  unfold forAll
  induction l generalizing s with
  | nil => exact h.resolve_left (List.not_mem_nil)
  | cons k l ih =>
    refine ih ?_
    by_cases hk : k = q ∨ (s.entry q).opened = false
    · exact .inr (hclose k s hk)
    · have hmem := h.resolve_right (fun ho => hk (.inr ho))
      exact .inl ((List.mem_cons.mp hmem).resolve_left (fun hq => hk (.inl hq.symm)))

theorem execMultiMaster_stops {port : Port} {inTransfer : Bool} (hmasters : s.portMasters (portIx port) = true)
    (hpartner : ∃ c, selPort c = portIx port ∧ (s.route c).role = 2) : ∃ u, exec (.multiMaster (port, inTransfer)) s = .next u ∧
      (u.ports.ports.get (portIx port)).mmf = true ∧ (u.ports.ports.get (portIx port)).queue = [] ∧
      ∀ q : Sleeve × Fin 4, pePort (s.entry q).words = portIx port → (u.entry q).opened = false := by
  obtain ⟨c, hport, hrole⟩ := hpartner
  have hsome : allSels.any (fun c => decide (selPort c = portIx port) && decide ((s.route c).role = 2)) = true := by
    refine List.any_eq_true.mpr ⟨c, List.mem_finRange c, ?_⟩
    rw [hport, hrole]
    simp
  obtain ⟨t, ht⟩ : ∃ t, loseTransfer (portIx port) inTransfer s = t := ⟨_, rfl⟩
  have hentry (q : Sleeve × Fin 4) : t.entry q = s.entry q := ht ▸ entry_loseTransfer (portIx port) inTransfer s q
  obtain ⟨w, hw⟩ : ∃ w, forAll (allEntries.filter (fun q => (t.entry q).opened && decide (pePort (t.entry q).words = portIx port)))
      closeWindow t = w := ⟨_, rfl⟩
  have hexec : exec (.multiMaster (port, inTransfer)) s = .next (raiseD 0x9023 [BitVec.ofNat 8 (portIx port).val]
      (modPort (portIx port) (fun x => { x with mmf := true, queue := [] }) w)) := by
    rw [← hw, ← ht]
    refine congrArg Host.Outcome.next ((if_neg ?_).trans rfl)
    rw [hmasters, hsome]
    decide
  obtain ⟨l, hl⟩ := raiseD_log (code := 0x9023) (by decide) [BitVec.ofNat 8 (portIx port).val]
    (modPort (portIx port) (fun x => { x with mmf := true, queue := [] }) w)
  have hp := port_modPort_same (portIx port) (fun x => { x with mmf := true, queue := [] }) w
  refine ⟨_, hexec, ?_, ?_, fun q hq => ?_⟩
  · rw [hl]
    exact congrArg PortSt.mmf hp
  · rw [hl]
    exact congrArg PortSt.queue hp
  · rw [hl]
    show (w.entry q).opened = false
    rw [← hw]
    refine forAll_closeWindow_closed ?_
    cases hopen : (t.entry q).opened with
    | false => exact .inr rfl
    | true =>
      refine .inl (List.mem_filter.mpr ⟨mem_allEntries q, ?_⟩)
      rw [hopen, hentry, hq]
      simp

end

/-! ### A burst on a lane -/

section
variable {s u v : State} {p k : Fin 3}

/-- Whether a port is trained, and every sleeve's streams. -/
def State.wires (s : State) (p : Fin 3) : Bool × Vector (Vector Stream 4) 8 :=
  ((s.ports.ports.get p).trained, s.sleeves.map SleeveSt.streams)

theorem wires_alert (i : Sleeve) (bits : BitVec 7) (s : State) : (alert i bits s).wires p = s.wires p := by
  refine Prod.ext rfl (Vector.ext fun j hj => ?_)
  show ((alert i bits s).sleeves.map SleeveSt.streams)[j] = (s.sleeves.map SleeveSt.streams)[j]
  rw [Vector.getElem_map, Vector.getElem_map]
  by_cases hij : i = ⟨j, hj⟩
  · subst hij
    exact (congrArg SleeveSt.streams (sleeve_modSleeve_same ⟨j, hj⟩ (fun x => { x with alrt := x.alrt ||| bits }) s) :)
  · exact congrArg SleeveSt.streams (sleeve_modSleeve_ne i ⟨j, hj⟩ _ s hij)

theorem wires_alertLane (k : Fin 3) (s : State) : (alertLane k s).wires p = s.wires p :=
  forAll_keeps (g := fun s => s.wires p) (f := fun i => alert i 0x08) (fun i _ t => wires_alert i 0x08 t) s

theorem wires_raiseA {code : BitVec 16} (h : rankOf code ≠ 3) (data : List Byte) (k : Fin 3) (s : State) :
    (raiseA code data (alertLane k) s).wires p = s.wires p := by
  obtain ⟨l, hl⟩ := offer_log (e := mkEv s code 15 data) h s
  unfold raiseA
  dsimp only
  rw [hl]
  split
  · exact (wires_alertLane k _).trans rfl
  · rfl

theorem wires_modPort {f : PortSt → PortSt} (h : ∀ x, (f x).trained = x.trained) (k : Fin 3) (s : State) :
    (modPort k f s).wires p = s.wires p := by
  refine Prod.ext ?_ rfl
  show ((modPort k f s).ports.ports.get p).trained = (s.ports.ports.get p).trained
  by_cases hk : k = p
  · subst hk
    rw [port_modPort_same]
    exact h _
  · exact congrArg PortSt.trained (vget_vmod_ne s.ports.ports k p f hk)

/-- Training is lost where a port is untrained, and stays lost where another is. -/
theorem wires_untrain (h : k = p ∨ (s.wires p).1 = false) : (untrain k s).wires p = (false, (s.wires p).2) := by
  refine Prod.ext ?_ rfl
  show ((modPort k (fun x => { x with trained := false }) s).ports.ports.get p).trained = false
  by_cases hk : k = p
  · subst hk
    rw [port_modPort_same]
  · exact (congrArg PortSt.trained (vget_vmod_ne s.ports.ports k p _ hk)).trans (h.resolve_left hk)

theorem wires_retireUnit_lane (l : Fin 20) (s : State) : (retireUnit (.lane l) s).wires p = s.wires p :=
  retireUnit_keeps (u := .lane l) (view := fun s => s.wires p) (fun _ _ => rfl) (fun _ _ => rfl) (fun _ _ => rfl) (fun _ _ => rfl)
    (fun _ => rfl) (fun t => wires_raiseA (by decide) _ _ t) s

theorem wires_retireUnit_port (k : Fin 3) (s : State) : (retireUnit (.port k) s).wires p = s.wires p :=
  retireUnit_keeps (u := .port k) (view := fun s => s.wires p) (fun _ _ => rfl) (fun _ _ => rfl) (fun _ _ => rfl)
    (fun _ t => wires_modPort (by intro _; rfl) k t) (fun _ => rfl) (fun t => wires_raiseA (by decide) _ _ t) s

theorem wires_checkPort {w : Vector (Vector Stream 4) 8} (h : s.wires p = (false, w)) (k : Fin 3) : (checkPort k s).wires p = (false, w) := by
  unfold checkPort
  dsimp only
  split
  · rw [wires_retireUnit_port, wires_untrain (.inr (congrArg Prod.fst h)), h]
  · exact h

/-- A lane's fault, under its own recovery, leaves an untrained port untrained. -/
theorem wires_faultUnit_lane {w : Vector (Vector Stream 4) 8} (l : Fin 20) (src : Nat) (data : List Byte) (h : s.wires p = (false, w)) :
    (faultUnit (.lane l) 0x9001 src data s).wires p = (false, w) :=
  faultUnit_preserves (u := .lane l) (P := fun s => s.wires p = (false, w)) (fun _ _ h => h) (fun _ _ h => h) (fun _ h => h)
    (fun _ h => wires_checkPort ((wires_retireUnit_lane l _).trans h) _) (by decide) src data h

/-! ### The lane's own health -/

theorem lanes_alertLane (k : Fin 3) (s : State) : (alertLane k s).ports.lanes = s.ports.lanes :=
  forAll_keeps (g := fun s => s.ports.lanes) (f := fun i => alert i 0x08) (fun _ _ _ => rfl) s

theorem lanes_raiseA {code : BitVec 16} (h : rankOf code ≠ 3) (data : List Byte) (k : Fin 3) (s : State) :
    (raiseA code data (alertLane k) s).ports.lanes = s.ports.lanes := by
  obtain ⟨l, hl⟩ := offer_log (e := mkEv s code 15 data) h s
  unfold raiseA
  dsimp only
  rw [hl]
  split
  · exact (lanes_alertLane k _).trans rfl
  · rfl

theorem lanes_checkPort (k : Fin 3) (s : State) : (checkPort k s).ports.lanes = s.ports.lanes := by
  unfold checkPort
  dsimp only
  split
  · exact (retireUnit_keeps (u := .port k) (view := fun s => s.ports.lanes) (fun _ _ => rfl) (fun _ _ => rfl) (fun _ _ => rfl)
      (fun _ _ => rfl) (fun _ => rfl) (fun t => lanes_raiseA (by decide) _ _ t) _).trans rfl
  · rfl

theorem contained_lane (l : Fin 20) : (UnitRef.lane l).Contained where
  retires s := by
    have htail := retireTail_keeps (u := .lane l) (view := fun s => s.ports.lanes) (fun _ _ => rfl) (fun _ _ => rfl) (fun _ _ => rfl)
      (fun t => lanes_raiseA (by decide) _ _ t) s
    have hlanes : (retireNow (.lane l) s).ports.lanes = _ := (lanes_checkPort (portOfLane l) (retireUnit (.lane l) s)).trans htail
    have hhealth := congrArg (fun v : Vector Lane 20 => ((v.get l).health).st) hlanes
    refine hhealth.trans ?_
    exact congrArg Health.st (health_modHealth (.lane l) (fun h => { h with
      st := .retired, retest := false, unhandled := false, again := false }) s)
  retests s := health_modHealth (.lane l) (fun h => { h with retest := true }) s

theorem laneFault_drops (p : Fin 3) (lane : Fin 8) (hst : (s.health (.lane (laneFin p lane))).st = .inService) :
    ((laneFault p lane s).ports.ports.get p).trained = false ∧
      ((laneFault p lane s).health (.lane (laneFin p lane))).st ≠ .inService ∧
      (laneFault p lane s).sleeves.map SleeveSt.streams = s.sleeves.map SleeveSt.streams := by
  obtain ⟨told, htold⟩ : ∃ b, (s.unitWaits (.lane (laneFin p lane)) ||
    (placeEv (mkEv s 0x9001 15 [BitVec.ofNat 8 (laneFin p lane).val]) s.log).2) = b := ⟨_, rfl⟩
  obtain ⟨t, ht⟩ : ∃ t, when' told (alertLane p) (untrain p (modLane (laneFin p lane) (fun x => { x with charges := [] }) s)) = t := ⟨_, rfl⟩
  obtain ⟨v, hv⟩ : ∃ v, faultUnit (.lane (laneFin p lane)) 0x9001 15 [BitVec.ofNat 8 (laneFin p lane).val] t = v := ⟨_, rfl⟩
  have hfault : laneFault p lane s = checkPort p v := by
    unfold laneFault
    dsimp only
    rw [htold, ht, hv, hst]
    rfl
  have htwires : t.wires p = (false, s.sleeves.map SleeveSt.streams) := by
    rw [← ht]
    unfold when'
    split
    · exact (wires_alertLane p _).trans (wires_untrain (.inl rfl))
    · exact wires_untrain (.inl rfl)
  have hwires := wires_checkPort (hv ▸ wires_faultUnit_lane (laneFin p lane) 15 _ htwires) p
  have hout : (v.health (.lane (laneFin p lane))).st ≠ .inService :=
    hv ▸ faultUnit_out (contained_lane _) (by decide) 15 _ t
  rw [hfault]
  refine ⟨congrArg Prod.fst hwires, ?_, congrArg Prod.snd hwires⟩
  show ((checkPort p v).ports.lanes.get (laneFin p lane)).health.st ≠ .inService
  rw [lanes_checkPort]
  exact hout

end

/-! ### Port F's fetches -/

section
variable {s u v : State} {i : Sleeve} {k : Fin 4}

/-! #### The withdrawal of a command leaves port F -/

theorem blind_xip : Blind.Deep (fun _ => ()) (fun s => s.ports.xip) where
  toBlind := blind_calm (fun _ _ => rfl) (fun _ _ h => congrArg Ports.xip (ports_of_calm h)) (fun _ _ => rfl) (fun _ _ _ _ => rfl)
    (fun _ _ _ => rfl) (fun _ _ => rfl) (fun _ _ _ => rfl)
  spoiled _ := rfl
  released _ _ := rfl

theorem xip_answer (id : Nat) (st : Byte) (payload : List Byte) (s : State) : (answer id st payload s).ports.xip = s.ports.xip :=
  blind_xip.answerP id st payload [] 0 s

theorem xip_answerOpt (id : Option Nat) (st : Byte) (payload : List Byte) (s : State) :
    (answerOpt id st payload s).ports.xip = s.ports.xip := blind_xip.answerOpt id st payload s

theorem xip_raiseD {code : BitVec 16} (h : rankOf code ≠ 3) (data : List Byte) (s : State) :
    (raiseD code data s).ports.xip = s.ports.xip := blind_xip.raiseD h data s

theorem xip_withdrawCmdOps (id : Nat) (s : State) : (withdrawCmdOps id s).ports.xip = s.ports.xip :=
  forAll_keeps (g := fun s => s.ports.xip) (f := fun o : Op => withdrawOp o.id (·.began)) (fun o _ t => blind_xip.withdrawOp o.id _ t) s

theorem xip_dropCommitOp (w : Why) (s : State) : (dropCommitOp w s).ports.xip = s.ports.xip := by
  unfold dropCommitOp
  split
  · split
    · exact (blind_xip.settleFabric _).trans ((blind_xip.removeOp _ _).trans rfl)
    · rfl
  · exact (blind_xip.settleFabric _).trans (blind_xip.removeOp _ _)
  · rfl
  · rfl

theorem xip_withdrawCmdCommits (id : Nat) (s : State) : (withdrawCmdCommits id s).ports.xip = s.ports.xip :=
  (forAll_keeps (g := fun s => s.ports.xip) (f := fun c : Commit => dropCommitOp c.why) (fun c _ t => xip_dropCommitOp c.why t) _).trans rfl

theorem xip_withdrawCmdTests (c : Cmd) (s : State) : (withdrawCmdTests c s).ports.xip = s.ports.xip := by
  unfold withdrawCmdTests
  split
  · dsimp only
    split <;> rfl
  · split <;> rfl

theorem xip_untrain (p : Fin 3) (s : State) : (untrain p s).ports.xip = s.ports.xip := rfl

theorem xip_modHealth (u : UnitRef) (f : Health → Health) (s : State) : (modHealth u f s).ports.xip = s.ports.xip := by
  cases u <;> rfl

theorem calm_recut (s : State) : (recut s).calm = s.calm := by
  unfold recut
  extract_lets c up t
  refine (calm_judge _).trans ?_
  split
  · exact (calm_raiseA (by decide) _ (fun u => calm_alert 0 0x02 u) t).trans (calm_modPool _ s)
  · exact calm_modPool _ s

theorem calm_unmaskBank (b : Fin 16) (s : State) : (unmaskBank b s).calm = s.calm :=
  (calm_recut _).trans ((calm_modPool _ _).trans (calm_modPool _ s))

theorem xip_restoreSlice (r : Run) (good : Bool) (s : State) : (restoreSlice r good s).ports.xip = s.ports.xip := by
  unfold restoreSlice
  dsimp only
  refine (forAll_keeps (g := fun s => s.ports.xip) (f := untrain) (fun p _ t => xip_untrain p t) _).trans ?_
  refine (forAll_keeps (g := fun s => s.ports.xip) (fun u _ t => ?_) _).trans ?_
  · split
    · split
      · rfl
      · rfl
    · split
      · exact congrArg Ports.xip (ports_of_calm (calm_unmaskBank _ t))
      · rfl
    · split
      · rfl
      · rfl
    · rfl
  · exact (forAll_keeps (g := fun s => s.ports.xip) (fun u _ t => xip_modHealth u _ t) _).trans rfl

theorem xip_recordRun (r : Run) (outcome : Nat) (misr : Word) (s : State) : (recordRun r outcome misr s).ports.xip = s.ports.xip := by
  unfold recordRun
  dsimp only
  refine (xip_raiseD ?_ _ _).trans rfl
  split
  · decide
  · split
    · decide
    · decide

theorem endReadmit_none {r : Run} (hr : r.cmd = none) (st : Byte) (s : State) : endReadmit r st s = s := by
  unfold endReadmit
  rw [hr]
  rfl

/-- A run that is abandoned, of no command. -/
theorem xip_endRun_abandoned {r : Run} (hr : r.cmd = none) (s : State) : (endRun r 5 0 false [] s).ports.xip = s.ports.xip := by
  have hoff : s.readmitsOn r 5 [] = false := Bool.and_false _
  obtain ⟨t, ht⟩ : ∃ t, (if r.kind = .retest then queueRetest r s else s) = t := ⟨_, rfl⟩
  have hxip : t.ports.xip = s.ports.xip := by
    rw [← ht]
    split
    · rfl
    · rfl
  have hend : endRun r 5 0 false [] s =
      showQueued r.slice (recordRun r 5 0 (restoreSlice r (decide ((5 : Nat) = 2) || decide ((5 : Nat) = 5)) t)) := by
    unfold endRun
    simp only [hoff, endReadmit_none hr, ite_self, if_neg (by decide : ¬ ((5 : Nat) = 3 ∨ (5 : Nat) = 4)), if_pos, ht,
      Bool.false_eq_true, if_false]
  have hrecord := (xip_recordRun r 5 0 _).trans (xip_restoreSlice r (decide ((5 : Nat) = 2) || decide ((5 : Nat) = 5)) t)
  rw [hend]
  unfold showQueued when'
  split
  · exact hrecord.trans hxip
  · exact hrecord.trans hxip

theorem xip_abandonWaiting {r : Run} (hr : r.cmd = none) (s : State) : (abandonWaiting r s).ports.xip = s.ports.xip := by
  unfold abandonWaiting endReadmit
  rw [hr]
  exact (xip_raiseD (code := 0x6004) (by decide) _ _).trans rfl

theorem xip_withdrawCmdRuns (id : Nat) (s : State) : (withdrawCmdRuns id s).ports.xip = s.ports.xip :=
  (forAll_keeps (g := fun s => s.ports.xip) (f := fun r : Run => abandonWaiting { r with cmd := none })
    (fun _ _ t => xip_abandonWaiting rfl t) _).trans
  ((forAll_keeps (g := fun s => s.ports.xip) (f := fun r : Run => endRun { r with cmd := none } 5 0 false [])
    (fun _ _ t => xip_endRun_abandoned rfl t) _).trans rfl)

theorem xip_withdrawCmdWaits (id : Nat) (s : State) : (withdrawCmdWaits id s).ports.xip = s.ports.xip := rfl

/-! #### The digest engines leave port F -/

theorem xip_clearSuspects (k : Fin 2) (s : State) : (clearSuspects k s).ports.xip = s.ports.xip := by
  unfold clearSuspects
  dsimp only
  have hseals (l : List SealRef) (t : State) : (forAll l (fun r => modStream r.sl r.stream
      fun x => if x.run = r.run then putTag r.record none x else x) t).ports.xip = t.ports.xip :=
    forAll_keeps (g := fun s => s.ports.xip) (by intro _ _ _; rfl) t
  refine (hseals _ _).trans (forAll_keeps (g := fun s => s.ports.xip) (fun c _ t => ?_) s)
  split
  · rfl
  · have hanswers := forAll_keeps (g := fun s => s.ports.xip) (f := fun id => answer id stFenced []) (l := (t.ctx c.1 c.2).commands)
      (fun id _ w => xip_answer id _ _ w) (modCtx c.1 c.2 (fun _ => .reset) t)
    unfold when'
    split
    · exact hanswers
    · exact hanswers

theorem xip_svcFault (k : Fin 2) {code : BitVec 16} (h : rankOf code ≠ 3) (s : State) : (svcFault k code s).ports.xip = s.ports.xip := by
  refine (faultUnit_keeps (u := .sha (svcSha k)) (view := fun s => s.ports.xip) (fun _ _ => rfl) (fun _ _ => rfl) (fun _ => rfl)
    (retireUnit_keeps (u := .sha (svcSha k)) (view := fun s => s.ports.xip) (fun _ _ => rfl) (fun _ _ => rfl) (fun _ _ => rfl)
      (fun _ _ => rfl) (fun _ => rfl) (fun t => ?_)) h _ _ _).trans (xip_clearSuspects k s)
  unfold retireEvent
  dsimp only
  split
  · exact (xip_raiseD (by decide) _ _).trans rfl
  · exact (xip_raiseD (by decide) _ _).trans rfl

theorem xip_finishCtx (i : Sleeve) (k : Fin 4) (s : State) : (finishCtx i k s).ports.xip = s.ports.xip := by
  unfold finishCtx
  dsimp only
  split
  · rfl
  · split
    · exact (xip_answerOpt _ _ _ _).trans rfl
    · split
      · rfl
      · exact (xip_answerOpt _ _ _ _).trans rfl

/-- An opcode that is refused, or goes on. -/
theorem xip_refuse {P : Prop} [Decidable P] {id : Nat} {st : Byte} {payload : List Byte} (h : u.ports.xip = s.ports.xip) :
    (if P then answer id st payload s else u).ports.xip = s.ports.xip := by
  split
  · exact xip_answer id st payload s
  · exact h

theorem xip_digestBegin (c : Cmd) (k : Fin 4) (s : State) : (digestBegin c k s).ports.xip = s.ports.xip := by
  unfold digestBegin
  dsimp only
  repeat' split
  all_goals exact (xip_answer _ _ _ _).trans rfl

theorem xip_digestUpdate (c : Cmd) (k : Fin 4) (s : State) : (digestUpdate c k s).ports.xip = s.ports.xip := by
  unfold digestUpdate
  dsimp only
  exact xip_refuse <| xip_refuse <| xip_refuse <| xip_refuse <| xip_refuse <| (xip_finishCtx _ _ _).trans rfl

theorem xip_digestFinal (c : Cmd) (k : Fin 4) (s : State) : (digestFinal c k s).ports.xip = s.ports.xip := by
  unfold digestFinal
  dsimp only
  exact xip_refuse <| xip_refuse <| xip_refuse <| xip_refuse <| (xip_finishCtx _ _ _).trans rfl

theorem xip_digestSave (c : Cmd) (k : Fin 4) (s : State) : (digestSave c k s).ports.xip = s.ports.xip := by
  unfold digestSave
  dsimp only
  exact xip_refuse <| xip_refuse <| xip_answer _ _ _ _

theorem xip_digestRestore (c : Cmd) (k : Fin 4) (s : State) : (digestRestore c k s).ports.xip = s.ports.xip := by
  unfold digestRestore
  dsimp only
  exact xip_refuse <| xip_refuse <| (xip_answer _ _ _ _).trans rfl

theorem xip_digestCompare (c : Cmd) (k : Fin 4) (cmp : CmpOut) (core : Fin 2) (s : State) :
    (digestCompare c k cmp core s).ports.xip = s.ports.xip := by
  unfold digestCompare
  dsimp only
  refine xip_refuse <| xip_refuse <| xip_refuse <| xip_refuse <| ?_
  unfold when'
  split
  · exact (xip_svcFault _ (by decide) _).trans ((xip_answer _ _ _ _).trans rfl)
  · exact (xip_answer _ _ _ _).trans rfl

theorem xip_digestBody (c : Cmd) (k : Fin 4) (cmp : CmpOut) (core : Fin 2) (s : State) :
    (digestBody c k cmp core s).ports.xip = s.ports.xip := by
  unfold digestBody
  split
  · exact xip_answer _ _ _ s
  · split
    · exact xip_digestBegin c k s
    · split
      · exact xip_digestUpdate c k s
      · split
        · exact xip_digestFinal c k s
        · split
          · exact xip_digestSave c k s
          · split
            · exact xip_digestRestore c k s
            · exact xip_digestCompare c k cmp core s

theorem xip_drainCtx (i : Sleeve) (k : Fin 4) (n : Nat) (s : State) : (drainCtx i k n s).ports.xip = s.ports.xip := by
  induction n generalizing s with
  | zero => rfl
  | succ n ih =>
    unfold drainCtx
    dsimp only
    split
    · rfl
    · split
      · rfl
      · split
        · exact (ih _).trans ((xip_digestBody _ _ _ _ _).trans rfl)
        · exact (ih _).trans rfl

theorem xip_withdrawCmdCtx (id : Nat) (i : Sleeve) (k : Fin 4) (s : State) : (withdrawCmdCtx id i k s).ports.xip = s.ports.xip := by
  unfold withdrawCmdCtx
  dsimp only
  split
  · exact (xip_drainCtx _ _ _ _).trans rfl
  · rfl

/-- A withdrawn command leaves port F. -/
theorem xip_failCommand (id : Nat) (st : Byte) (s : State) : (failCommand id st s).ports.xip = s.ports.xip := by
  unfold failCommand
  split
  · rfl
  · rename_i c _
    have hctxs (t : State) : (forAll allFours (withdrawCmdCtx id c.sl) t).ports.xip = t.ports.xip :=
      forAll_keeps (g := fun s => s.ports.xip) (f := withdrawCmdCtx id c.sl) (fun k _ w => xip_withdrawCmdCtx id c.sl k w) t
    exact (blind_xip.settleFabric _).trans ((xip_answer _ _ _ _).trans ((hctxs _).trans ((xip_withdrawCmdWaits id _).trans
      ((xip_withdrawCmdRuns id _).trans ((xip_withdrawCmdTests c _).trans ((xip_withdrawCmdCommits id _).trans
        (xip_withdrawCmdOps id s)))))))

end

section
variable {s u v : State}

/-! #### Fetches -/

theorem fetchFault_faults {code : BitVec 16} (h : rankOf code ≠ 3) (s : State) : (fetchFault code s).ports.xip.off = true ∧
    (fetchFault code s).ports.xip.version = 0 ∧ (fetchFault code s).ports.xip.fault = min 65535 (s.ports.xip.fault + 1) := by
  obtain ⟨t, ht⟩ : ∃ t, modXip (fun x => { x with off := true, version := 0, fault := satAdd 16 x.fault 1 }) s = t := ⟨_, rfl⟩
  obtain ⟨w, hw⟩ : ∃ w, fetchFault code s = raiseD code [] w ∧ w.ports.xip = t.ports.xip := by
    unfold fetchFault
    dsimp only
    rw [ht]
    refine ⟨_, rfl, ?_⟩
    split
    · exact xip_failCommand _ _ t
    · rfl
  obtain ⟨hfault, hxip⟩ := hw
  rw [hfault, xip_raiseD h, hxip, ← ht]
  exact ⟨rfl, rfl, rfl⟩

theorem fetchFault_idle {code : BitVec 16} (h : rankOf code ≠ 3) (hidle : s.cmds = []) : (fetchFault code s).sleeves = s.sleeves := by
  have hfault : fetchFault code s =
      raiseD code [] (modXip (fun x => { x with off := true, version := 0, fault := satAdd 16 x.fault 1 }) s) := by
    unfold fetchFault
    dsimp only
    rw [show (modXip (fun x => { x with off := true, version := 0, fault := satAdd 16 x.fault 1 }) s).cmds = [] from hidle]
    rfl
  obtain ⟨l, hl⟩ := raiseD_log h [] (modXip (fun x => { x with off := true, version := 0, fault := satAdd 16 x.fault 1 }) s)
  rw [hfault, hl]
  rfl

/-- The number of the line of an internal address. -/
def Xip.lineOf (x : Xip) (addr : Word) : Nat := (addr.toNat - codeBase x.offset) / 64

/-- The internal address of that line. -/
def Xip.lineAddr (x : Xip) (addr : Word) : Nat := codeBase x.offset + 64 * x.lineOf addr

/-- The line is read from F0, unless port F is off or F0 is known to fail the line. -/
def State.readLine0 (s : State) (addr : Word) : State :=
  when' (decide (s.power.phase ≠ .fold) && !s.ports.xip.f1only.contains (s.ports.xip.lineOf addr))
    (readFlash false (s.ports.xip.lineAddr addr - 0x01000000)) s

/-- The line is then read from F1. -/
def State.readLine1 (s : State) (addr : Word) : State :=
  when' (decide (s.power.phase ≠ .fold)) (readFlash true (s.ports.xip.lineAddr addr - 0x01000000)) (s.readLine0 addr)

section
variable {addr : Word} {f0 f1 : List Byte} (hon : s.ports.xip.off = false) (hpatch : s.ports.xip.version ≠ 0)
include hon hpatch

theorem execXipFetch_outside (h : addr.toNat < codeBase s.ports.xip.offset ∨ codeBase s.ports.xip.offset + s.ports.xip.codeLen ≤ addr.toNat) :
    exec (.xipFetch addr f0 f1) s = .next (fetchFault 0x9030 s) := by
  refine congrArg Host.Outcome.next ((if_neg ?_).trans (if_pos ?_))
  · rw [hon, decide_eq_false hpatch]
    decide
  · exact h.imp id .inl

theorem execXipFetch_inside (hlow : codeBase s.ports.xip.offset ≤ addr.toNat)
    (hhigh : addr.toNat < codeBase s.ports.xip.offset + s.ports.xip.codeLen) (hspace : addr.toNat < 0x02000000)
    (hmiss : ∀ b ∈ s.ports.xip.buffer, b.1 ≠ s.ports.xip.lineOf addr) : exec (.xipFetch addr f0 f1) s = .next (
      let n := s.ports.xip.lineOf addr
      let marked := s.ports.xip.f1only.contains n
      let read := decide (s.power.phase ≠ .fold)
      if !s.svcUp then fetchFault 0x9032 (s.readLine1 addr)
      else if read && !marked && s.lineOk (s.ports.xip.lineAddr addr) n f0 then modXip (touchLine n f0) (s.readLine0 addr)
      else if read && s.lineOk (s.ports.xip.lineAddr addr) n f1 then
        when' (!marked) (raiseD 0x9031 (natBytes 4 (s.ports.xip.lineAddr addr))) (modXip (fun y => touchLine n f1 { y with
          f1only := if marked then y.f1only else n :: y.f1only
          f0fail := if marked then y.f0fail else satAdd 16 y.f0fail 1 }) (s.readLine1 addr))
      else fetchFault 0x9032 (s.readLine1 addr)) := by
  have hfind : s.ports.xip.buffer.find? (fun b => b.1 == s.ports.xip.lineOf addr) = none :=
    List.find?_eq_none.mpr (fun b hb => by
      rw [beq_iff_eq]
      exact hmiss b hb)
  refine congrArg Host.Outcome.next ((if_neg ?_).trans ((if_neg ?_).trans ?_))
  · rw [hon, decide_eq_false hpatch]
    decide
  · rintro (h | h | h)
    · exact absurd hlow (Nat.not_le.mpr h)
    · exact absurd hhigh (Nat.not_lt.mpr h)
    · exact absurd hspace (Nat.not_lt.mpr h)
  · dsimp only
    rw [show s.ports.xip.buffer.find? (fun b => b.1 == (addr.toNat - codeBase s.ports.xip.offset) / 64) = none from hfind]
    rfl

end

/-- What the reads of a line leave of port F's other state. -/
theorem readLine1_keeps (s : State) (addr : Word) : (∃ r, (s.readLine0 addr).ports.xip = { s.ports.xip with lastRead := r }) ∧
    (∃ r, (s.readLine1 addr).ports.xip = { s.ports.xip with lastRead := r }) ∧ (s.readLine1 addr).cmds = s.cmds ∧
    (s.readLine0 addr).cmds = s.cmds := by
  have h0 : (∃ r, (s.readLine0 addr).ports.xip = { s.ports.xip with lastRead := r }) ∧ (s.readLine0 addr).cmds = s.cmds := by
    unfold State.readLine0 when'
    split
    · exact ⟨⟨_, rfl⟩, rfl⟩
    · exact ⟨⟨s.ports.xip.lastRead, rfl⟩, rfl⟩
  obtain ⟨⟨r, hr⟩, hcmds⟩ := h0
  refine ⟨⟨r, hr⟩, ?_, ?_, hcmds⟩
  · unfold State.readLine1 when'
    split
    · refine ⟨_, (congrArg (fun x : Xip => { x with lastRead := some (x.readOf true (s.ports.xip.lineAddr addr - 0x01000000)) }) hr :)⟩
    · exact ⟨r, hr⟩
  · unfold State.readLine1 when'
    split
    · exact hcmds
    · exact hcmds

section
variable {addr : Word} {f0 f1 : List Byte} (hon : s.ports.xip.off = false) (hpatch : s.ports.xip.version ≠ 0)
  (hlow : codeBase s.ports.xip.offset ≤ addr.toNat) (hhigh : addr.toNat < codeBase s.ports.xip.offset + s.ports.xip.codeLen)
  (hspace : addr.toNat < 0x02000000) (hmiss : ∀ b ∈ s.ports.xip.buffer, b.1 ≠ s.ports.xip.lineOf addr)
include hon hpatch hlow hhigh hspace hmiss

/-- A line that F0 verifies. -/
theorem execXipFetch_first (hup : s.svcUp = true) (hfold : s.power.phase ≠ .fold) (hmark : s.ports.xip.lineOf addr ∉ s.ports.xip.f1only)
    (hok : s.lineOk (s.ports.xip.lineAddr addr) (s.ports.xip.lineOf addr) f0 = true) : exec (.xipFetch addr f0 f1) s =
      .next (modXip (touchLine (s.ports.xip.lineOf addr) f0) (readFlash false (s.ports.xip.lineAddr addr - 0x01000000) s)) := by
  have hmarked : s.ports.xip.f1only.contains (s.ports.xip.lineOf addr) = false := by
    rw [← Bool.not_eq_true, List.contains_iff_mem]
    exact hmark
  rw [execXipFetch_inside hon hpatch hlow hhigh hspace hmiss]
  unfold State.readLine0
  dsimp only
  rw [hup, hmarked, hok, decide_eq_true hfold]
  rfl

/-- A line that F1 alone verifies is marked, counted and buffered. -/
theorem execXipFetch_second (hup : s.svcUp = true) (hfold : s.power.phase ≠ .fold) (hmark : s.ports.xip.lineOf addr ∉ s.ports.xip.f1only)
    (hbad : s.lineOk (s.ports.xip.lineAddr addr) (s.ports.xip.lineOf addr) f0 = false)
    (hok : s.lineOk (s.ports.xip.lineAddr addr) (s.ports.xip.lineOf addr) f1 = true) : ∃ u, exec (.xipFetch addr f0 f1) s = .next u ∧
      u.ports.xip.off = false ∧ u.cmds = s.cmds ∧ s.ports.xip.lineOf addr ∈ u.ports.xip.f1only ∧
      u.ports.xip.f0fail = min 65535 (s.ports.xip.f0fail + 1) ∧ u.ports.xip.buffer.head? = some (s.ports.xip.lineOf addr, f1) := by
  have hmarked : s.ports.xip.f1only.contains (s.ports.xip.lineOf addr) = false := by
    rw [← Bool.not_eq_true, List.contains_iff_mem]
    exact hmark
  obtain ⟨n, hn⟩ : ∃ n, s.ports.xip.lineOf addr = n := ⟨_, rfl⟩
  have hexec := execXipFetch_inside (f0 := f0) (f1 := f1) hon hpatch hlow hhigh hspace hmiss
  rw [hn] at hmarked hbad hok hexec
  dsimp only at hexec
  rw [hup, hmarked, hbad, hok, decide_eq_true hfold] at hexec
  obtain ⟨-, ⟨r, hr⟩, hcmds, -⟩ := readLine1_keeps s addr
  obtain ⟨t, ht⟩ : ∃ t, modXip (fun y => touchLine n f1 { y with f1only := n :: y.f1only, f0fail := satAdd 16 y.f0fail 1 })
    (s.readLine1 addr) = t := ⟨_, rfl⟩
  have hxip : t.ports.xip = touchLine n f1 { (s.readLine1 addr).ports.xip with
      f1only := n :: (s.readLine1 addr).ports.xip.f1only, f0fail := satAdd 16 (s.readLine1 addr).ports.xip.f0fail 1 } := by
    rw [← ht]
    rfl
  rw [hr] at hxip
  have htcmds : t.cmds = s.cmds := by
    rw [← ht]
    exact hcmds
  obtain ⟨l, hl⟩ := raiseD_log (code := 0x9031) (by decide) (natBytes 4 (s.ports.xip.lineAddr addr)) t
  have hnext : exec (.xipFetch addr f0 f1) s = .next { t with log := l } := by
    rw [hexec, ← hl, ← ht]
    rfl
  rw [hn]
  refine ⟨_, hnext, ?_⟩
  dsimp only
  rw [hxip]
  exact ⟨hon, htcmds, List.mem_cons_self, rfl, rfl⟩

theorem execXipFetch_neither (h : s.power.phase = .fold ∨ (s.lineOk (s.ports.xip.lineAddr addr) (s.ports.xip.lineOf addr) f0 = false ∧
    s.lineOk (s.ports.xip.lineAddr addr) (s.ports.xip.lineOf addr) f1 = false)) :
    exec (.xipFetch addr f0 f1) s = .next (fetchFault 0x9032 (s.readLine1 addr)) := by
  rw [execXipFetch_inside hon hpatch hlow hhigh hspace hmiss]
  dsimp only
  refine congrArg Host.Outcome.next (ite_eq_left_iff.mpr fun _ => ?_)
  obtain hfold | ⟨h0, h1⟩ := h
  · rw [hfold]
    rfl
  · rw [h0, h1, Bool.and_false, Bool.and_false]
    rfl

end
end

section
variable {s : State} {i : Sleeve} {e : Fin 4}

theorem execCrcBurst_drops {port : Port} {lane : Fin 8} (hon : (s.ports.ports.get (portIx port)).on = true)
    (hst : (s.health (.lane (laneFin (portIx port) lane))).st = .inService) : ∃ u, exec (.crcBurst port lane) s = .next u ∧
      (u.ports.ports.get (portIx port)).trained = false ∧ (u.health (.lane (laneFin (portIx port) lane))).st ≠ .inService ∧
      u.sleeves.map (fun x => x.streams) = s.sleeves.map (fun x => x.streams) :=
  ⟨laneFault (portIx port) lane s, congrArg Host.Outcome.next (if_pos hon), laneFault_drops (portIx port) lane hst⟩

/-- The present span, where its conditions name it. -/
theorem presentSpan_eq {k : Nat} (hafter : (s.entry (i, e)).after ≤ (spanOf ((s.sleeve i).pushWords e)
      ((s.sleeve i).pushEpoch e ((s.sleeve i).pushWords e)) (s.entry (i, e)).doublings k).1)
    (hbefore : ∀ j, j < k → (spanOf ((s.sleeve i).pushWords e) ((s.sleeve i).pushEpoch e ((s.sleeve i).pushWords e))
        (s.entry (i, e)).doublings j).1 < (s.entry (i, e)).after ∨
      (spanOf ((s.sleeve i).pushWords e) ((s.sleeve i).pushEpoch e ((s.sleeve i).pushWords e))
        (s.entry (i, e)).doublings j).2 ≤ s.now)
    (hopen : s.now < (spanOf ((s.sleeve i).pushWords e) ((s.sleeve i).pushEpoch e ((s.sleeve i).pushWords e))
      (s.entry (i, e)).doublings k).2) :
    s.presentSpan i e = spanOf ((s.sleeve i).pushWords e) ((s.sleeve i).pushEpoch e ((s.sleeve i).pushWords e))
      (s.entry (i, e)).doublings k := by
  unfold State.presentSpan
  dsimp only
  rw [windowNow_eq hafter hbefore hopen]

theorem execPushProbe_eq {m : MasterEntry} {r : List MasterEntry} (hmasters : s.portMasters (pePort (s.entry (i, e)).words) = true)
    (hqueue : ((pushEngine (pePort (s.entry (i, e)).words) s).ports.ports.get (pePort (s.entry (i, e)).words)).queue = m :: r)
    (hprobe : m.probe = true) (hsl : m.sl = i) (hentry : m.entry = e) (low : Bool) (lane0 : BitVec 32) :
    exec (.pushProbe i e ⟨low, lane0⟩) s = .next (if low then pushEngine (pePort (s.entry (i, e)).words) s
      else runEntry (pePort (s.entry (i, e)).words) lane0 (pushEngine (pePort (s.entry (i, e)).words) s)) := by
  refine congrArg Host.Outcome.next ((if_neg (by rw [hmasters]; decide)).trans ?_)
  dsimp only
  rw [hqueue]
  dsimp only
  rw [hsl, hentry, hprobe, beq_self_eq_true, beq_self_eq_true]
  cases low with
  | true => rfl
  | false => rfl

theorem pushProbe_samples {m : MasterEntry} {r : List MasterEntry} (hmasters : s.portMasters (pePort (s.entry (i, e)).words) = true)
    (hqueue : ((pushEngine (pePort (s.entry (i, e)).words) s).ports.ports.get (pePort (s.entry (i, e)).words)).queue = m :: r)
    (hprobe : m.probe = true) (hsl : m.sl = i) (hentry : m.entry = e) (hopened : (s.entry (i, e)).opened = true)
    (hacked : (s.entry (i, e)).acked = false) (hfits : s.endsBy (claimThirds + probeThirds m.rate) m.deadline = true)
    (lane0 : BitVec 32) : ∃ u, exec (.pushProbe i e ⟨false, lane0⟩) s = .next u ∧
      u.entry (i, e) = (if probeAck lane0 then servePush { s.entry (i, e) with nextProbe := s.now + 10 }
        else { s.entry (i, e) with nextProbe := s.now + 10 }) ∧ (u.sel m.partner).out = ⟨[], [], [0]⟩ := by
  obtain ⟨p, hp⟩ : ∃ p, pePort (s.entry (i, e)).words = p := ⟨_, rfl⟩
  have hexec := execPushProbe_eq hmasters hqueue hprobe hsl hentry false lane0
  rw [hp] at hexec hqueue
  obtain ⟨l, hl⟩ := pushEngine_enqueues p s
  obtain ⟨t, ht⟩ : ∃ t, setQueue p r (pushEngine p s) = t := ⟨_, rfl⟩
  have htentry (q : Sleeve × Fin 4) : t.entry q = s.entry q := by
    rw [← ht, hl]
    rfl
  have htnow : t.now = s.now := by
    rw [← ht, hl]
    rfl
  have hkey : (m.sl, m.entry) = (i, e) := Prod.ext hsl hentry
  obtain ⟨hrunentry, hrunsel⟩ := runProbe_samples (s := t) (m := m) (by rw [hkey, htentry, hopened]) (by rw [hkey, htentry, hacked])
    (by rw [State.endsBy, htnow]; exact hfits) lane0
  rw [hkey, htentry, htnow] at hrunentry
  rw [if_neg Bool.false_ne_true, runEntry_cons hqueue, hprobe, ht, if_pos rfl] at hexec
  obtain ⟨l', hl'⟩ := pushEngine_enqueues p (runProbe m lane0 t)
  refine ⟨_, hexec, ?_⟩
  rw [hl']
  exact ⟨hrunentry, hrunsel⟩

theorem execMasterTransfer_eq {port : Port} (hmasters : s.portMasters (portIx port) = true) (low : Bool) (lane0 : BitVec 32) :
    exec (.masterTransfer port ⟨low, lane0⟩) s = .next (if low then pushEngine (portIx port) s
      else runEntry (portIx port) lane0 (pushEngine (portIx port) s)) :=
  congrArg Host.Outcome.next (if_neg (by rw [hmasters]; decide))

theorem masterTransfer_delivers {port : Port} {m : MasterEntry} {r : List MasterEntry} (hmasters : s.portMasters (portIx port) = true)
    (hqueue : ((pushEngine (portIx port) s).ports.ports.get (portIx port)).queue = m :: r) (hprobe : m.probe = false)
    (hready : (pushEngine (portIx port) s).transferable (portIx port) m = true) (lane0 : BitVec 32) :
    let v := pushEngine (portIx port) s
    let y := (v.sleeve m.sl).streams.get m.stream
    let body := v.streamBody m.sl m.stream (y.frames.headD [])
    let record := recordBytes body stOk 0 (y.record.toNat % 65536)
    ∃ u more, exec (.masterTransfer port ⟨false, lane0⟩) s = .next u ∧ (u.ports.ports.get (portIx port)).queue = r ++ more ∧
      (u.entry (m.sl, m.entry)).sent = (s.entry (m.sl, m.entry)).sent + 1 ∧
      (u.sel m.partner).out = ⟨record.1, record.2, entryPeriods m.cont (body.length + 8)⟩ := by
  obtain ⟨p, hp⟩ : ∃ p, portIx port = p := ⟨_, rfl⟩
  have hexec := execMasterTransfer_eq hmasters false lane0
  rw [if_neg Bool.false_ne_true, runEntry_cons hqueue, hprobe, if_neg Bool.false_ne_true] at hexec
  rw [hp] at hqueue hready hexec ⊢
  intro v y body record
  obtain ⟨l, hl⟩ := pushEngine_enqueues p s
  have hventry : v.entry (m.sl, m.entry) = s.entry (m.sl, m.entry) := by
    show (pushEngine p s).entry (m.sl, m.entry) = _
    rw [hl]
    rfl
  obtain ⟨hrunqueue, hrunsent, hrunout⟩ := runRecord_delivers (s := setQueue p r v) ((transferable_setQueue r m v).trans hready)
  obtain ⟨l', hl'⟩ := pushEngine_enqueues p (runRecord p m (setQueue p r v))
  refine ⟨_, l', hexec, ?_⟩
  rw [hl']
  refine ⟨?_, ?_, hrunout⟩
  · rw [queue_enqueue, hrunqueue]
    exact congrArg (· ++ l') (congrArg PortSt.queue (port_modPort_same p (fun x => { x with queue := r }) v) :)
  · refine hrunsent.trans ?_
    rw [← hventry]
    rfl

/-- Settles O55: a burst, the rows of a push window, and a fetch. -/
theorem pushWindows : Obligations.PushWindows := by
  refine ⟨fun port lane s _ hon hst => execCrcBurst_drops hon hst, fun i e s => ?_, fun addr f0 f1 s hon hpatch => ?_⟩
  · intro x w epoch span
    refine ⟨fun k henabled hclosed hready hafter hbefore hbegun hopen => ?_,
      fun hholder hacked hdue hmasters hroom hnone hfits => ?_,
      fun m r lane0 hmasters hqueue hprobe hsl hentry hopened hacked hfits => ?_, fun port lane0 hmasters => ?_,
      fun hopened hend => ⟨fun hover => ?_, fun hacked hmasters hacts => ?_⟩, fun port inTransfer hmasters hpartner =>
        execMultiMaster_stops hmasters hpartner⟩
    · have hspan : s.presentSpan i e = span k := presentSpan_eq hafter hbefore hopen
      have hexec := execPushWindowStart_due henabled hclosed hready (by rw [hspan]; exact hbegun)
      rw [hspan] at hexec
      refine ⟨fun hresolves hmasters hsuspended hlost => hexec.trans (congrArg Host.Outcome.next (if_neg ?_)),
        fun hskip => hexec.trans (congrArg Host.Outcome.next (if_pos ?_))⟩
      · rw [hresolves, hmasters, show (s.entry (i, e)).suspended = false from hsuspended, show (s.entry (i, e)).lost = false from hlost]
        decide
      · obtain h | h | h | h := hskip
        · rw [h]
          rfl
        · rw [h]
          exact Bool.or_eq_true_iff.mpr (.inl (Bool.or_eq_true_iff.mpr (.inl (Bool.or_eq_true_iff.mpr (.inr rfl)))))
        · exact Bool.or_eq_true_iff.mpr (.inl (Bool.or_eq_true_iff.mpr (.inr h)))
        · exact Bool.or_eq_true_iff.mpr (.inr h)
    · rw [queueProbe_due (q := (i, e)) hholder hacked hdue hmasters hroom hnone hfits]
      exact queue_enqueue _ _ s
    · refine ⟨execPushProbe_eq hmasters hqueue hprobe hsl hentry true lane0, ?_⟩
      obtain ⟨u, hu, hentryu, hout⟩ := pushProbe_samples hmasters hqueue hprobe hsl hentry hopened hacked hfits lane0
      refine ⟨u, hu, ?_⟩
      rw [hentryu]
      by_cases hack : probeAck lane0 = true
      · rw [if_pos hack]
        exact ⟨rfl, rfl, hout, ⟨fun _ => (probeAck_iff lane0).mp hack, fun _ => rfl⟩, fun _ => ⟨rfl, rfl⟩⟩
      · rw [if_neg hack]
        have hunacked : ¬ (s.entry (i, e)).acked = true := by
          rw [show (s.entry (i, e)).acked = false from hacked]
          exact Bool.false_ne_true
        exact ⟨rfl, rfl, hout, ⟨fun h => absurd h hunacked, fun h => absurd ((probeAck_iff lane0).mpr h) hack⟩,
          fun h => absurd h hunacked⟩
    · exact ⟨execMasterTransfer_eq hmasters true lane0,
        fun m r hqueue hprobe hready => masterTransfer_delivers hmasters hqueue hprobe hready lane0⟩
    · refine ⟨closeWindow (i, e) s, (execPushSpanEnd_ends hopened hend).trans (congrArg Host.Outcome.next (if_pos ?_)),
        entry_closeWindow_same (i, e) s, rfl⟩
      obtain h | h := hover
      · exact Bool.or_eq_true_iff.mpr (.inl h)
      · rw [h]
        exact Bool.or_true _
    · have hexec := (execPushSpanEnd_ends hopened hend).trans (congrArg Host.Outcome.next (if_neg (by
        rw [show (s.entry (i, e)).acked = false from hacked, hmasters]
        decide)))
      refine ⟨_, hexec, ?_⟩
      rw [entry_closeWindow_same, entry_missWindow]
      dsimp only
      rw [show (s.entry (i, e)).acts = [] from hacts]
      exact ⟨rfl, rfl, rfl, fun h => ⟨if_pos h, if_pos h⟩, fun h => ⟨if_neg (Nat.not_lt.mpr h), if_neg (Nat.not_lt.mpr h)⟩⟩
  · intro x base n
    refine ⟨fun hlow hhigh hspace hmiss => ⟨fun hup hfold => ⟨fun hmark hok =>
      execXipFetch_first hon hpatch hlow hhigh hspace hmiss hup hfold hmark hok, fun hmark hok => ?_⟩, fun hbad => ?_⟩, fun hout => ?_⟩
    · cases hok0 : s.lineOk (base + 64 * n) n f0 with
      | false =>
        obtain ⟨u, hu, hoff, hcmds, hrest⟩ := execXipFetch_second hon hpatch hlow hhigh hspace hmiss hup hfold hmark hok0 hok
        exact ⟨u, hu, hoff, hcmds, fun _ => hrest⟩
      | true => exact ⟨_, execXipFetch_first hon hpatch hlow hhigh hspace hmiss hup hfold hmark hok0, hon, rfl, nofun⟩
    · obtain ⟨-, ⟨r, hr⟩, -, -⟩ := readLine1_keeps s addr
      obtain ⟨hoff, hversion, hfault⟩ := fetchFault_faults (code := 0x9032) (by decide) (s.readLine1 addr)
      rw [hr] at hfault
      exact ⟨_, execXipFetch_neither hon hpatch hlow hhigh hspace hmiss hbad, hoff, hversion, hfault⟩
    · obtain ⟨hoff, hversion, hfault⟩ := fetchFault_faults (code := 0x9030) (by decide) s
      exact ⟨_, execXipFetch_outside hon hpatch hout, hoff, hversion, hfault, fetchFault_idle (by decide)⟩

end

end Sys2Proof.Machine
end
